-- ==== Sys2Proof/Word.lean ====
section
/-! DEFINITION. Bytes, and tables of a fixed number of like records, the containers every file uses. -/

namespace Sys2Proof

/-- One byte as the links and the phrase memory carry it (10 R178, 07 R123). -/
abbrev Byte := BitVec 8

/-- `n` records of one kind, numbered from 0. The length is part of the type, so a table never grows or shrinks. -/
structure Table (α : Type) (n : Nat) where
  cells : List α
  size : cells.length = n
deriving DecidableEq, Repr

namespace Table

variable {α β : Type} {n : Nat}

/-- `n` copies of one record. -/
def fill (n : Nat) (x : α) : Table α n := ⟨List.replicate n x, by simp⟩

/-- The table whose record `i` is `f i`. -/
def build (n : Nat) (f : Nat → α) : Table α n := ⟨(List.range n).map f, by simp⟩

/-- Record `i`; a number outside the table reads the given default (the callers check the number first). -/
def get (t : Table α n) (i : Nat) (d : α) : α := t.cells.getD i d

/-- The table with record `i` replaced; a number outside the table changes nothing. -/
def set (t : Table α n) (i : Nat) (x : α) : Table α n := ⟨t.cells.set i x, by simp [t.size]⟩

/-- Every record changed by one function. -/
def map (f : α → β) (t : Table α n) : Table β n := ⟨t.cells.map f, by simp [t.size]⟩

/-- Every record changed by a function of its number and itself. -/
def mapIdx (f : Nat → α → β) (t : Table α n) : Table β n := ⟨t.cells.mapIdx f, by simp [t.size]⟩

end Table

end Sys2Proof
end

