-- ==== Sys2Proof/Config.lean ====
section
/-! DEFINITION. The numbers that the reference manual fixes for the part (00 section 3) and the few values the model names. -/

namespace Sys2Proof.Config

/-- Unity of a gain, trim or duck depth (00 section 4.2). -/
def unity : Nat := 32768
/-- Duck depth of both banks after power-on (01 R2). -/
def duckDefault : Nat := 8192
/-- Least alarm trim (01 R5). -/
def alarmTrimMin : Nat := 8192
/-- Number of endpoints: zones 0 to 143, stations 144 to 175 (01 R1). -/
def endpoints : Nat := 176
/-- Number of zones; also the endpoint number of station 0 (01 R1). -/
def zones : Nat := 144
/-- Number of amplifier channels: 144 primaries and 16 spares (09 R171). -/
def channels : Nat := 160
/-- Number of call slots; slots from `generalSlots` on are alarm slots (02 R20). -/
def callSlots : Nat := 64
/-- Number of general call slots (02 R20). -/
def generalSlots : Nat := 60
/-- Foreground wait list capacity (03 R46). -/
def fgWaitCap : Nat := 6
/-- Background wait list capacity (03 R46). -/
def bgWaitCap : Nat := 3
/-- Participants of a TALK call (06 R108). -/
def participantCap : Nat := 8
/-- Answer queue places (10 R182). -/
def answerPlaces : Nat := 8
/-- Verify queue places (07 R128). -/
def verifyPlaces : Nat := 8
/-- Fault list places (09 R166). -/
def faultPlaces : Nat := 48
/-- Audio frames in one millisecond: 48,000 frames a second (00 section 3, 08 R150). -/
def framesPerMs : Nat := 48
/-- Frames from one warble switch to the next, 250 ms (08 R152). -/
def warbleFrames : Nat := 12000
/-- Peak at or above which an amplifier that shows no signal is silent (09 R158). -/
def silentPeak : Nat := 65536
/-- Most stored samples in one read of the Verify Unit (07 R129). -/
def verifyBlock : Nat := 256
/-- What a byte of phrase memory reads that the model's memory does not list: DESIGN CHOICE, log 9, unsafe. The manual
says only that a device answers beyond its end with whatever it returns (07 R123). -/
def unwrittenByte : Byte := 255

end Sys2Proof.Config
end

