-- ==== Sys2Proof/Syntax.lean ====
section
/-! DEFINITION. The commands of the part: one constructor of Instr for each row of spec/opcode_table.json. A request carries
its port, the tag of its frame and its fields as numbers of the widths of 10 R178; an event carries what it names. -/

namespace Sys2Proof

/-- The two command ports (10 R177). -/
inductive Port
  | system
  | bridge
deriving DecidableEq, Repr

/-- The other port. -/
def Port.other : Port → Port
  | .system => .bridge
  | .bridge => .system

/-- A handle names a call record: slot number and generation (02 R21). -/
structure Handle where
  slot : Nat
  gen : Nat
deriving DecidableEq, Repr

/-- A target descriptor as a request carries it: its kind byte and three parameter bytes (10 R178). -/
structure Descriptor where
  kind : Nat
  p1 : Nat
  p2 : Nat
  p3 : Nat
deriving DecidableEq, Repr

/-- The fields of OPEN_CALL (02 R29, R30; byte order 10 section 10.3). A lane or hold line of 255 is absent. -/
structure OpenFields where
  type : Nat
  level : Nat
  gain : Option Nat
  ramp : Option Nat
  lane1 : Nat
  lane2 : Nat
  holdLine : Nat
  holdLevel : Option Nat
  duplex : Nat
  repeatCount : Nat
  repeatGap : Nat
  phraseCount : Nat
  /-- The eight phrase id bytes; those beyond the phrase count are not read. -/
  phraseIds : List Nat
  targets : List Descriptor
deriving DecidableEq, Repr

/-- One step of an alarm program as DEFINE_ALARM carries it: kind, then a duration in ms or a phrase id (10 section 10.3). -/
structure StepField where
  kind : Nat
  value : Nat
deriving DecidableEq, Repr

/-- The fields of DEFINE_ALARM that follow the empty mark (08 R139, R141). -/
structure AlarmFields where
  level : Nat
  shape : Nat
  f1 : Nat
  f2 : Nat
  toneLevel : Nat
  repeatCount : Nat
  steps : List StepField
  targets : List Descriptor
deriving DecidableEq, Repr

/-- What the four input ports carry for one audio frame: the sample of each of the 64 input lanes, and for each port whether
its data line carries the frame marker at the boundary (01 R17). -/
structure FrameInput where
  lanes : List Int
  markers : List Bool
deriving DecidableEq, Repr

/-- The commands, one constructor for each row of spec/opcode_table.json. In a request `p` is the port and `tag` the frame's tag. -/
inductive Instr
  | powerOn
  | resetInput
  | bridgeByteReceived (byte : Byte) (framingError : Bool)
  | bridgeInterbyteTimeout
  | bridgeAnswerSent
  /-- `inward`: the whole bytes received in the period. `shown`: the answer at the head of the queue was there at the period's first byte. -/
  | systemPeriodEnd (inward : List Byte) (shown : Bool)
  | status (p : Port) (tag : Nat)
  | setEndpoint (p : Port) (tag : Nat) (endpoint : Nat) (fireZone role enabled alarmTrim : Option Nat)
  | setLocalTrim (p : Port) (tag : Nat) (endpoint trim : Nat)
  | setDeck (p : Port) (tag : Nat) (deck first count : Nat)
  | queryEndpoint (p : Port) (tag : Nat) (endpoint : Nat)
  | setBank (p : Port) (tag : Nat) (bank : Nat) (targets : List Descriptor) (trim depth : Option Nat)
  | bankSwap (p : Port) (tag : Nat)
  | openCall (p : Port) (tag : Nat) (fields : OpenFields)
  | addTargets (p : Port) (tag : Nat) (call : Handle) (targets : List Descriptor)
  | dropTargets (p : Port) (tag : Nat) (call : Handle) (targets : List Descriptor)
  | setCallGain (p : Port) (tag : Nat) (call : Handle) (action gain endpoint : Nat)
  | retireCall (p : Port) (tag : Nat) (call : Handle)
  | queryCall (p : Port) (tag : Nat) (call : Handle)
  | collectEnd (p : Port) (tag : Nat) (call : Handle)
  | clearCalls (p : Port) (tag : Nat)
  | setParticipant (p : Port) (tag : Nat) (call : Handle) (station muted : Nat)
  | setMixMode (p : Port) (tag : Nat) (mode : Nat)
  | setHold (p : Port) (tag : Nat) (output : Nat) (delay : Option Nat)
  | definePhrase (p : Port) (tag : Nat) (phrase start length check : Nat)
  | retirePhrase (p : Port) (tag : Nat) (phrase : Nat)
  | queryPhrase (p : Port) (tag : Nat) (phrase : Nat)
  | verifyPhrase (p : Port) (tag : Nat) (phrase : Nat)
  /-- `mark` is the empty mark's byte; the fields are absent with the mark set. -/
  | defineAlarm (p : Port) (tag : Nat) (program mark : Nat) (fields : Option AlarmFields)
  | queryAlarm (p : Port) (tag : Nat) (program : Nat)
  | startAlarm (p : Port) (tag : Nat) (program : Nat)
  | setTrigger (p : Port) (tag : Nat) (input program mode : Nat)
  | setSupervision (p : Port) (tag : Nat) (tolerance confirm recover forget : Option Nat)
  | learnLine (p : Port) (tag : Nat) (channel : Nat)
  | queryChannel (p : Port) (tag : Nat) (channel : Nat)
  | setSeverity (p : Port) (tag : Nat) (kind severity : Nat)
  | setActions (p : Port) (tag : Nat) (severity : Nat) (fallback attention : Option Nat)
  | faultNext (p : Port) (tag : Nat) (restart : Nat)
  | faultAck (p : Port) (tag : Nat) (source number kind : Nat)
  | setPin (p : Port) (tag : Nat) (output mode severity level : Nat)
  | pinAck (p : Port) (tag : Nat) (output : Nat)
  /-- The sweep of the call in `slot` reaches its next endpoint. -/
  | sweepDelivery (slot : Nat)
  | dropSweepRemoval (slot : Nat)
  | audioFrameBoundary (input : FrameInput)
  | acquireTimeout (inputPort : Nat)
  | messagePhraseEnd (player : Nat)
  | repeatGapEnd (player : Nat)
  | alarmPhraseComplete (player : Nat)
  | alarmStepEnd (slot : Nat)
  | warbleSwitch (slot : Nat)
  | endExpiry (slot gen : Nat)
  | holdReleaseTimeout (output : Nat)
  | triggerPinChange (input : Nat) (active : Bool)
  | debounceExpiry (input : Nat)
  /-- A read of `samples` stored samples for the Verify Unit completes (at most 256 and at most what is left are read). -/
  | verifyBlockRead (samples : Nat)
  | supervisionReading (channel code : Nat) (protect signalPresent : Bool)
  | learnTimeout (p : Port)
  | scanTimeoutExpiry
  | switchTimerExpiry (zone : Nat)
deriving DecidableEq, Repr

end Sys2Proof
end

