-- ==== Sys2Proof/WellFormed.lean ====
section
/-! DEFINITION. When a command could come from the outside at all: each field fits the width 10 R178 gives it, each list fits
a frame of at most 512 parameter bytes, and an event names a record the part has. -/

namespace Sys2Proof

/-- Fits one byte (10 R178). -/
def fits1 (n : Nat) : Bool := decide (n < 256)
/-- Fits two bytes (10 R178). -/
def fits2 (n : Nat) : Bool := decide (n < 65536)
/-- Fits three bytes (10 R178). -/
def fits3 (n : Nat) : Bool := decide (n < 16777216)
/-- An optional field that is absent, or present and of its width. -/
def fitsOpt (fits : Nat → Bool) (o : Option Nat) : Bool := o.all fits

/-- Slot and generation are a byte each (10 R178). -/
def Handle.wellFormed (h : Handle) : Bool := fits1 h.slot && fits1 h.gen

/-- A descriptor is four bytes (10 R178). -/
def Descriptor.wellFormed (d : Descriptor) : Bool := fits1 d.kind && fits1 d.p1 && fits1 d.p2 && fits1 d.p3

/-- A descriptor list that leaves the frame, with `fixed` other bytes, within 512 parameter bytes (10 R178). -/
def targetsFit (fixed : Nat) (ts : List Descriptor) : Bool :=
  decide (fixed + 4 * ts.length ≤ 512) && ts.all Descriptor.wellFormed

/-- OPEN_CALL's fields (10 section 10.3). -/
def OpenFields.wellFormed (f : OpenFields) : Bool :=
  fits1 f.type && fits1 f.level && fitsOpt fits2 f.gain && fitsOpt fits1 f.ramp && fits1 f.lane1 && fits1 f.lane2 &&
  fits1 f.holdLine && fitsOpt fits1 f.holdLevel && fits1 f.duplex && fits1 f.repeatCount && fits2 f.repeatGap &&
  fits1 f.phraseCount && decide (f.phraseIds.length = 8) && f.phraseIds.all fits1 && targetsFit 24 f.targets

/-- DEFINE_ALARM's fields (10 section 10.3). -/
def AlarmFields.wellFormed (f : AlarmFields) : Bool :=
  fits1 f.level && fits1 f.shape && fits2 f.f1 && fits2 f.f2 && fits2 f.toneLevel && fits1 f.repeatCount &&
  f.steps.all (fun x => fits1 x.kind && fits2 x.value) && targetsFit (13 + 3 * f.steps.length) f.targets

/-- A 24-bit signed sample (00 section 4.1). -/
def isSample (x : Int) : Bool := decide (-8388608 ≤ x) && decide (x ≤ 8388607)

/-- One sample for each of the 64 lanes and one mark for each of the four ports (01 R17). -/
def FrameInput.wellFormed (f : FrameInput) : Bool :=
  decide (f.lanes.length = 64) && f.lanes.all isSample && decide (f.markers.length = 4)

/-- The check on a command. -/
def Instr.wellFormed : Instr → Bool
  | .powerOn => true
  | .resetInput => true
  | .bridgeByteReceived _ _ => true
  | .bridgeInterbyteTimeout => true
  | .bridgeAnswerSent => true
  | .systemPeriodEnd _ _ => true
  | .status _ t => fits1 t
  | .setEndpoint _ t e z r n a => fits1 t && fits1 e && fitsOpt fits1 z && fitsOpt fits1 r && fitsOpt fits1 n && fitsOpt fits2 a
  | .setLocalTrim _ t e v => fits1 t && fits1 e && fits2 v
  | .setDeck _ t d f n => fits1 t && fits1 d && fits1 f && fits1 n
  | .queryEndpoint _ t e => fits1 t && fits1 e
  | .setBank _ t b ts x d => fits1 t && fits1 b && targetsFit 7 ts && fitsOpt fits2 x && fitsOpt fits2 d
  | .bankSwap _ t => fits1 t
  | .openCall _ t f => fits1 t && f.wellFormed
  | .addTargets _ t h ts => fits1 t && h.wellFormed && targetsFit 3 ts
  | .dropTargets _ t h ts => fits1 t && h.wellFormed && targetsFit 3 ts
  | .setCallGain _ t h a g e => fits1 t && h.wellFormed && fits1 a && fits2 g && fits1 e
  | .retireCall _ t h => fits1 t && h.wellFormed
  | .queryCall _ t h => fits1 t && h.wellFormed
  | .collectEnd _ t h => fits1 t && h.wellFormed
  | .clearCalls _ t => fits1 t
  | .setParticipant _ t h k m => fits1 t && h.wellFormed && fits1 k && fits1 m
  | .setMixMode _ t m => fits1 t && fits1 m
  | .setHold _ t h d => fits1 t && fits1 h && fitsOpt fits2 d
  | .definePhrase _ t i a l c => fits1 t && fits1 i && fits3 a && fits3 l && fits3 c
  | .retirePhrase _ t i => fits1 t && fits1 i
  | .queryPhrase _ t i => fits1 t && fits1 i
  | .verifyPhrase _ t i => fits1 t && fits1 i
  | .defineAlarm _ t i m f => fits1 t && fits1 i && fits1 m && (f.isNone == decide (m = 1)) && f.all AlarmFields.wellFormed
  | .queryAlarm _ t i => fits1 t && fits1 i
  | .startAlarm _ t i => fits1 t && fits1 i
  | .setTrigger _ t i g m => fits1 t && fits1 i && fits1 g && fits1 m
  | .setSupervision _ t a b c d => fits1 t && fitsOpt fits1 a && fitsOpt fits1 b && fitsOpt fits1 c && fitsOpt fits1 d
  | .learnLine _ t c => fits1 t && fits1 c
  | .queryChannel _ t c => fits1 t && fits1 c
  | .setSeverity _ t k v => fits1 t && fits1 k && fits1 v
  | .setActions _ t v f a => fits1 t && fits1 v && fitsOpt fits1 f && fitsOpt fits1 a
  | .faultNext _ t r => fits1 t && fits1 r
  | .faultAck _ t s n k => fits1 t && fits1 s && fits1 n && fits1 k
  | .setPin _ t o m v l => fits1 t && fits1 o && fits1 m && fits1 v && fits1 l
  | .pinAck _ t o => fits1 t && fits1 o
  | .sweepDelivery i => decide (i < 64)
  | .dropSweepRemoval i => decide (i < 64)
  | .audioFrameBoundary f => f.wellFormed
  | .acquireTimeout i => decide (i < 4)
  | .messagePhraseEnd i => decide (i < 4)
  | .repeatGapEnd i => decide (i < 4)
  | .alarmPhraseComplete i => decide (i < 4)
  | .alarmStepEnd i => decide (60 ≤ i) && decide (i < 64)
  | .warbleSwitch i => decide (60 ≤ i) && decide (i < 64)
  | .endExpiry i g => decide (i < 64) && fits1 g
  | .holdReleaseTimeout i => decide (i < 4)
  | .triggerPinChange i _ => decide (i < 4)
  | .debounceExpiry i => decide (i < 4)
  | .verifyBlockRead n => decide (1 ≤ n) && decide (n ≤ 256)
  | .supervisionReading c k _ _ => fits1 c && decide (k < 4096)
  | .learnTimeout _ => true
  | .scanTimeoutExpiry => true
  | .switchTimerExpiry z => decide (z < 144)

end Sys2Proof
end

