-- ==== Sys2Proof/Decode.lean ====
section
/-! DEFINITION. Request frames: the request codes, the owner-independent encoding of each request's parameters (10 R178 and
section 10.3), and the decoder the command phase uses. Then the commands that an opcode-table word spells (none: no row of
the table gives bits). -/

namespace Sys2Proof

/-- The request code of a command that is a request (10 section 10.3); 0, which means no request, for an event. -/
def Instr.code : Instr → Nat
  | .status .. => 1
  | .setEndpoint .. => 16
  | .setLocalTrim .. => 17
  | .setDeck .. => 18
  | .queryEndpoint .. => 19
  | .setBank .. => 20
  | .bankSwap .. => 21
  | .openCall .. => 32
  | .addTargets .. => 33
  | .dropTargets .. => 34
  | .setCallGain .. => 35
  | .retireCall .. => 36
  | .queryCall .. => 37
  | .collectEnd .. => 38
  | .clearCalls .. => 39
  | .setParticipant .. => 40
  | .setMixMode .. => 48
  | .setHold .. => 49
  | .definePhrase .. => 64
  | .retirePhrase .. => 65
  | .queryPhrase .. => 66
  | .verifyPhrase .. => 67
  | .defineAlarm .. => 80
  | .queryAlarm .. => 81
  | .startAlarm .. => 82
  | .setTrigger .. => 83
  | .setSupervision .. => 96
  | .learnLine .. => 97
  | .queryChannel .. => 98
  | .setSeverity .. => 99
  | .setActions .. => 100
  | .faultNext .. => 101
  | .faultAck .. => 102
  | .setPin .. => 103
  | .pinAck .. => 104
  | .powerOn => 0
  | .resetInput => 0
  | .bridgeByteReceived .. => 0
  | .bridgeInterbyteTimeout => 0
  | .bridgeAnswerSent => 0
  | .systemPeriodEnd .. => 0
  | .sweepDelivery _ => 0
  | .dropSweepRemoval _ => 0
  | .audioFrameBoundary _ => 0
  | .acquireTimeout _ => 0
  | .messagePhraseEnd _ => 0
  | .repeatGapEnd _ => 0
  | .alarmPhraseComplete _ => 0
  | .alarmStepEnd _ => 0
  | .warbleSwitch _ => 0
  | .endExpiry .. => 0
  | .holdReleaseTimeout _ => 0
  | .triggerPinChange .. => 0
  | .debounceExpiry _ => 0
  | .verifyBlockRead _ => 0
  | .supervisionReading .. => 0
  | .learnTimeout _ => 0
  | .scanTimeoutExpiry => 0
  | .switchTimerExpiry _ => 0

/-- The tag of a request's frame (10 R178); 0 for an event. -/
def Instr.tag : Instr → Nat
  | .status _ t => t
  | .setEndpoint _ t _ _ _ _ _ => t
  | .setLocalTrim _ t _ _ => t
  | .setDeck _ t _ _ _ => t
  | .queryEndpoint _ t _ => t
  | .setBank _ t _ _ _ _ => t
  | .bankSwap _ t => t
  | .openCall _ t _ => t
  | .addTargets _ t _ _ => t
  | .dropTargets _ t _ _ => t
  | .setCallGain _ t _ _ _ _ => t
  | .retireCall _ t _ => t
  | .queryCall _ t _ => t
  | .collectEnd _ t _ => t
  | .clearCalls _ t => t
  | .setParticipant _ t _ _ _ => t
  | .setMixMode _ t _ => t
  | .setHold _ t _ _ => t
  | .definePhrase _ t _ _ _ _ => t
  | .retirePhrase _ t _ => t
  | .queryPhrase _ t _ => t
  | .verifyPhrase _ t _ => t
  | .defineAlarm _ t _ _ _ => t
  | .queryAlarm _ t _ => t
  | .startAlarm _ t _ => t
  | .setTrigger _ t _ _ _ => t
  | .setSupervision _ t _ _ _ _ => t
  | .learnLine _ t _ => t
  | .queryChannel _ t _ => t
  | .setSeverity _ t _ _ => t
  | .setActions _ t _ _ _ => t
  | .faultNext _ t _ => t
  | .faultAck _ t _ _ _ => t
  | .setPin _ t _ _ _ _ => t
  | .pinAck _ t _ => t
  | _ => 0

/-- The port a request comes on; `none` for an event. -/
def Instr.requestPort : Instr → Option Port
  | .status p _ => some p
  | .setEndpoint p _ _ _ _ _ _ => some p
  | .setLocalTrim p _ _ _ => some p
  | .setDeck p _ _ _ _ => some p
  | .queryEndpoint p _ _ => some p
  | .setBank p _ _ _ _ _ => some p
  | .bankSwap p _ => some p
  | .openCall p _ _ => some p
  | .addTargets p _ _ _ => some p
  | .dropTargets p _ _ _ => some p
  | .setCallGain p _ _ _ _ _ => some p
  | .retireCall p _ _ => some p
  | .queryCall p _ _ => some p
  | .collectEnd p _ _ => some p
  | .clearCalls p _ => some p
  | .setParticipant p _ _ _ _ => some p
  | .setMixMode p _ _ => some p
  | .setHold p _ _ _ => some p
  | .definePhrase p _ _ _ _ _ => some p
  | .retirePhrase p _ _ => some p
  | .queryPhrase p _ _ => some p
  | .verifyPhrase p _ _ => some p
  | .defineAlarm p _ _ _ _ => some p
  | .queryAlarm p _ _ => some p
  | .startAlarm p _ _ => some p
  | .setTrigger p _ _ _ _ => some p
  | .setSupervision p _ _ _ _ _ => some p
  | .learnLine p _ _ => some p
  | .queryChannel p _ _ => some p
  | .setSeverity p _ _ _ => some p
  | .setActions p _ _ _ _ => some p
  | .faultNext p _ _ => some p
  | .faultAck p _ _ _ _ => some p
  | .setPin p _ _ _ _ _ => some p
  | .pinAck p _ _ => some p
  | _ => none

/-- Two bytes as a number, the more significant first (10 R178). -/
def be2 (a b : Nat) : Nat := 256 * a + b
/-- Three bytes as a number, the most significant first (10 R178). -/
def be3 (a b c : Nat) : Nat := 65536 * a + 256 * b + c
/-- An optional field: its flag is bit `k` of the presence byte; with the flag clear the field is not taken (10 R178). -/
def presentField (presence k v : Nat) : Option Nat := if presence.testBit k then some v else none

/-- Descriptors, four bytes each; `none` where the bytes are not a whole number of them (10 R178). -/
def decodeDescriptors : List Nat → Option (List Descriptor)
  | [] => some []
  | k :: a :: b :: c :: rest => (decodeDescriptors rest).map (⟨k, a, b, c⟩ :: ·)
  | _ => none

/-- A descriptor list of exactly `n` descriptors: any other number of bytes is a wrong length (10 R183). -/
def decodeTargets (n : Nat) (bs : List Nat) : Option (List Descriptor) :=
  if bs.length = 4 * n then decodeDescriptors bs else none

/-- The next `n` alarm steps, three bytes each, and the bytes after them (10 section 10.3). -/
def decodeSteps : Nat → List Nat → Option (List StepField × List Nat)
  | 0, bs => some ([], bs)
  | n + 1, k :: a :: b :: rest => (decodeSteps n rest).map fun r => (⟨k, be2 a b⟩ :: r.1, r.2)
  | _ + 1, _ => none

/-- The request that a complete frame of a known code carries; `none` is BAD_REQUEST: an unknown code, or a parameter length
that is not the one the table gives for the code with the frame's own count bytes (10 R183). -/
def decodeRequest (p : Port) (code tag : Nat) (params : List Nat) : Option Instr :=
  match code, params with
  | 1, [] => some (.status p tag)
  | 16, [e, f, z, r, n, a, b] =>
    some (.setEndpoint p tag e (presentField f 0 z) (presentField f 1 r) (presentField f 2 n) (presentField f 3 (be2 a b)))
  | 17, [e, a, b] => some (.setLocalTrim p tag e (be2 a b))
  | 18, [d, f, n] => some (.setDeck p tag d f n)
  | 19, [e] => some (.queryEndpoint p tag e)
  | 20, b :: n :: rest =>
    (decodeTargets n (rest.take (4 * n))).bind fun ts =>
      match rest.drop (4 * n) with
      | [f, t1, t2, d1, d2] => some (.setBank p tag b ts (presentField f 0 (be2 t1 t2)) (presentField f 1 (be2 d1 d2)))
      | _ => none
  | 21, [] => some (.bankSwap p tag)
  | 32, ty :: lv :: f :: g1 :: g2 :: ra :: l1 :: l2 :: hl :: hv :: du :: rc :: q1 :: q2 :: pc ::
      a :: b :: c :: d :: e :: g :: h :: i :: n :: rest =>
    (decodeTargets n rest).map fun ts => .openCall p tag
      { type := ty, level := lv, gain := presentField f 0 (be2 g1 g2), ramp := presentField f 1 ra, lane1 := l1, lane2 := l2,
        holdLine := hl, holdLevel := presentField f 2 hv, duplex := du, repeatCount := rc, repeatGap := be2 q1 q2,
        phraseCount := pc, phraseIds := [a, b, c, d, e, g, h, i], targets := ts }
  | 33, s :: g :: n :: rest => (decodeTargets n rest).map (.addTargets p tag ⟨s, g⟩)
  | 34, s :: g :: n :: rest => (decodeTargets n rest).map (.dropTargets p tag ⟨s, g⟩)
  | 35, [s, g, a, x, y, e] => some (.setCallGain p tag ⟨s, g⟩ a (be2 x y) e)
  | 36, [s, g] => some (.retireCall p tag ⟨s, g⟩)
  | 37, [s, g] => some (.queryCall p tag ⟨s, g⟩)
  | 38, [s, g] => some (.collectEnd p tag ⟨s, g⟩)
  | 39, [] => some (.clearCalls p tag)
  | 40, [s, g, k, m] => some (.setParticipant p tag ⟨s, g⟩ k m)
  | 48, [m] => some (.setMixMode p tag m)
  | 49, [h, f, a, b] => some (.setHold p tag h (presentField f 0 (be2 a b)))
  | 64, [i, a, b, c, d, e, f, x, y, z] => some (.definePhrase p tag i (be3 a b c) (be3 d e f) (be3 x y z))
  | 65, [i] => some (.retirePhrase p tag i)
  | 66, [i] => some (.queryPhrase p tag i)
  | 67, [i] => some (.verifyPhrase p tag i)
  | 80, [i, m] => if m = 1 then some (.defineAlarm p tag i m none) else none
  | 80, i :: m :: lv :: sh :: a :: b :: c :: d :: e :: f :: rc :: sn :: tn :: rest =>
    if m = 1 then none else
    (decodeSteps sn rest).bind fun r => (decodeTargets tn r.2).map fun ts => .defineAlarm p tag i m
      (some { level := lv, shape := sh, f1 := be2 a b, f2 := be2 c d, toneLevel := be2 e f, repeatCount := rc, steps := r.1,
              targets := ts })
  | 81, [i] => some (.queryAlarm p tag i)
  | 82, [i] => some (.startAlarm p tag i)
  | 83, [i, g, m] => some (.setTrigger p tag i g m)
  | 96, [f, a, b, c, d] =>
    some (.setSupervision p tag (presentField f 0 a) (presentField f 1 b) (presentField f 2 c) (presentField f 3 d))
  | 97, [c] => some (.learnLine p tag c)
  | 98, [c] => some (.queryChannel p tag c)
  | 99, [k, v] => some (.setSeverity p tag k v)
  | 100, [v, f, a, b] => some (.setActions p tag v (presentField f 0 a) (presentField f 1 b))
  | 101, [r] => some (.faultNext p tag r)
  | 102, [s, n, k] => some (.faultAck p tag s n k)
  | 103, [o, m, v, l] => some (.setPin p tag o m v l)
  | 104, [o] => some (.pinAck p tag o)
  | _, _ => none

/-- A number in two bytes, the more significant first (10 R178). -/
def bytes2 (n : Nat) : List Nat := [n / 256, n % 256]
/-- A number in three bytes, the most significant first (10 R178). -/
def bytes3 (n : Nat) : List Nat := [n / 65536, n / 256 % 256, n % 256]
/-- The presence byte of up to four optional fields, the lowest bit for the first (10 R178). -/
def presenceByte (flags : List Bool) : Nat := flags.foldr (fun b n => 2 * n + b.toNat) 0
/-- A descriptor list without its count byte. -/
def encodeTargets (ts : List Descriptor) : List Nat := ts.flatMap fun d => [d.kind, d.p1, d.p2, d.p3]
/-- An optional field's bytes; an absent one is written 0 and not read (10 R178). -/
def field1 (o : Option Nat) : List Nat := [o.getD 0]
/-- An optional two-byte field's bytes. -/
def field2 (o : Option Nat) : List Nat := bytes2 (o.getD 0)
/-- A handle's two bytes (10 R178). -/
def handleBytes (h : Handle) : List Nat := [h.slot, h.gen]

/-- The parameter bytes of a request (10 R178 and section 10.3); empty for an event. -/
def Instr.params : Instr → List Nat
  | .setEndpoint _ _ e z r n a =>
    [e, presenceByte [z.isSome, r.isSome, n.isSome, a.isSome]] ++ field1 z ++ field1 r ++ field1 n ++ field2 a
  | .setLocalTrim _ _ e v => e :: bytes2 v
  | .setDeck _ _ d f n => [d, f, n]
  | .queryEndpoint _ _ e => [e]
  | .setBank _ _ b ts t d =>
    [b, ts.length] ++ encodeTargets ts ++ [presenceByte [t.isSome, d.isSome]] ++ field2 t ++ field2 d
  | .openCall _ _ f =>
    [f.type, f.level, presenceByte [f.gain.isSome, f.ramp.isSome, f.holdLevel.isSome]] ++ field2 f.gain ++ field1 f.ramp ++
    [f.lane1, f.lane2, f.holdLine] ++ field1 f.holdLevel ++ [f.duplex, f.repeatCount] ++ bytes2 f.repeatGap ++
    [f.phraseCount] ++ f.phraseIds ++ [f.targets.length] ++ encodeTargets f.targets
  | .addTargets _ _ h ts => handleBytes h ++ [ts.length] ++ encodeTargets ts
  | .dropTargets _ _ h ts => handleBytes h ++ [ts.length] ++ encodeTargets ts
  | .setCallGain _ _ h a g e => handleBytes h ++ [a] ++ bytes2 g ++ [e]
  | .retireCall _ _ h => handleBytes h
  | .queryCall _ _ h => handleBytes h
  | .collectEnd _ _ h => handleBytes h
  | .setParticipant _ _ h k m => handleBytes h ++ [k, m]
  | .setMixMode _ _ m => [m]
  | .setHold _ _ h d => [h, presenceByte [d.isSome]] ++ field2 d
  | .definePhrase _ _ i a l c => [i] ++ bytes3 a ++ bytes3 l ++ bytes3 c
  | .retirePhrase _ _ i => [i]
  | .queryPhrase _ _ i => [i]
  | .verifyPhrase _ _ i => [i]
  | .defineAlarm _ _ i m none => [i, m]
  | .defineAlarm _ _ i m (some f) =>
    [i, m, f.level, f.shape] ++ bytes2 f.f1 ++ bytes2 f.f2 ++ bytes2 f.toneLevel ++
    [f.repeatCount, f.steps.length, f.targets.length] ++ f.steps.flatMap (fun x => x.kind :: bytes2 x.value) ++
    encodeTargets f.targets
  | .queryAlarm _ _ i => [i]
  | .startAlarm _ _ i => [i]
  | .setTrigger _ _ i g m => [i, g, m]
  | .setSupervision _ _ a b c d =>
    [presenceByte [a.isSome, b.isSome, c.isSome, d.isSome]] ++ field1 a ++ field1 b ++ field1 c ++ field1 d
  | .learnLine _ _ c => [c]
  | .queryChannel _ _ c => [c]
  | .setSeverity _ _ k v => [k, v]
  | .setActions _ _ v f a => [v, presenceByte [f.isSome, a.isSome]] ++ field1 f ++ field1 a
  | .faultNext _ _ r => [r]
  | .faultAck _ _ s n k => [s, n, k]
  | .setPin _ _ o m v l => [o, m, v, l]
  | .pinAck _ _ o => [o]
  | _ => []

/-- A request's whole frame: code, tag, parameter length, parameters (10 R178). -/
def Instr.frame (c : Instr) : List Nat := [c.code, c.tag] ++ bytes2 c.params.length ++ c.params

/-- The command that an opcode-table word spells: none, since no row of spec/opcode_table.json gives bits (log 26). -/
def decodeTableWord (_nbits _w : Nat) : Option Instr := none

end Sys2Proof
end

