-- ==== Sys2Proof/Machine/State.lean ====
section
/-! DEFINITION. The state of the part as plain data, one section for each block (00 section 2.1), and its value after power-on. -/

namespace Sys2Proof.Machine

/-! ## Small types -/

/-- A timer: stopped, or running with its remaining time in audio frames, 48 to the millisecond (log 6). -/
inductive Timer
  | stopped
  | running (left : Nat)
deriving DecidableEq, Repr

/-- The two kinds of endpoint are told apart by number (01 R1); zones have a role (01 R2). -/
inductive Role
  | mono
  | left
  | right
deriving DecidableEq, Repr

/-- The two banks of trims and duck depths (05 R93). -/
inductive Bank
  | a
  | b
deriving DecidableEq, Repr

/-- The bank that is not the given one. -/
def Bank.other : Bank → Bank
  | .a => .b
  | .b => .a

/-- The rounding modes (04 R87). -/
inductive MixMode
  | nearest
  | truncate
deriving DecidableEq, Repr

/-- The state of the path from a zone's mix to its loudspeakers (01 R7). -/
inductive ServiceState
  | inService
  | switching
  | fallback
  | outOfService
deriving DecidableEq, Repr

/-- Call types (02 R22). -/
inductive CallType
  | program
  | page
  | message
  | talk
  | alarm
deriving DecidableEq, Repr

/-- The classes of listings: PROGRAM is background, every other type foreground (03 R45). -/
inductive ListClass
  | foreground
  | background
deriving DecidableEq, Repr

/-- The class of a call type (02 R22). -/
def CallType.listClass : CallType → ListClass
  | .program => .background
  | .page => .foreground
  | .message => .foreground
  | .talk => .foreground
  | .alarm => .foreground

/-- The call states other than FREE (02 R23); a FREE slot holds no record. -/
inductive CallState
  | opening
  | active
  | ending
  | ended
deriving DecidableEq, Repr

/-- End reasons (02 R25). -/
inductive EndReason
  | retired
  | complete
  | displaced
  | noTargets
  | cleared
  | phraseFailed
  | inputReleased
deriving DecidableEq, Repr

/-- Answer codes (10 R179). -/
inductive AnswerCode
  | ok
  | busy
  | badRequest
  | badParam
  | unknownCall
  | tableFull
  | locked
  | notReady
  | inUse
  | alreadyActive
  | noTargets
  | cleared
  | alarmLimit
  | timeout
deriving DecidableEq, Repr

/-- A target descriptor that passed its own check (01 R13). -/
inductive Target
  | endpoint (e : Nat)
  | range (e n : Nat)
  | deck (d : Nat)
  | fireZone (f : Nat)
  | deckFire (d f : Nat)
  | allZones
  | allStations
  | everywhere
deriving DecidableEq, Repr

/-! ## Endpoint Table -/

/-- The two departing slots (03 R46). -/
inductive DepSlot
  | zero
  | one
deriving DecidableEq, Repr

/-- The other departing slot. -/
def DepSlot.other : DepSlot → DepSlot
  | .zero => .one
  | .one => .zero

/-- The presence of one call at one endpoint (03 R45). Its state, ADMITTED or WAITING, is the place it stands in. -/
structure Listing where
  call : Handle
  type : CallType
  level : Nat
  override : Option Nat
  muted : Bool
  interrupted : Bool
  fading : Option DepSlot
deriving DecidableEq, Repr

/-- A term of an endpoint's mix (04 R67). Its place is the slot it stands in. -/
structure Term where
  call : Handle
  type : CallType
  gain : Nat
  duck : Nat
  ramp : Nat
  target : Nat
  applied : Nat
deriving DecidableEq, Repr

/-- An admitted listing with its term (03 R60). -/
structure Admitted where
  listing : Listing
  term : Term
deriving DecidableEq, Repr

/-- A departing term with the level it had when it left, and the gain override it carried (03 R45, R52). -/
structure Departing where
  term : Term
  level : Nat
  override : Option Nat
deriving DecidableEq, Repr

/-- An endpoint record (01 R2, 03 R46, 09 R171). -/
structure Endpoint where
  fireZone : Nat
  role : Role
  trimA : Nat
  duckA : Nat
  trimB : Nat
  duckB : Nat
  localTrim : Nat
  alarmTrim : Nat
  enabled : Bool
  service : ServiceState
  channel : Nat
  movingTo : Option Nat
  switchTimer : Timer
  fg : Option Admitted
  fgWait : List Listing
  bg : Option Admitted
  bgWait : List Listing
  dep0 : Option Departing
  dep1 : Option Departing
  /-- The departing slot that was entered first, where both are held (03 R54). -/
  older : DepSlot
deriving DecidableEq, Repr

/-- A deck record (01 R11). -/
structure Deck where
  first : Nat
  count : Nat
deriving DecidableEq, Repr

/-! ## Call Table -/

/-- The kinds of sweep (02 R23). -/
inductive SweepKind
  | opening
  | add
  | drop
deriving DecidableEq, Repr

/-- A sweep in progress on a call (02 R23, R31 to R36). -/
structure Sweep where
  kind : SweepKind
  port : Port
  /-- Whether a request waits for the sweep's answer; a trigger start has none (08 R147). -/
  answers : Bool
  /-- The endpoints still to visit, in order. -/
  rest : List Nat
  taken : Nat
  skipped : Nat
  bumped : Nat
  removed : Nat
  notListed : Nat
  /-- The end reason of the last loss, kept while the listing count is 0 (03 R59). -/
  lastLoss : Option EndReason
  /-- The record a START_ALARM displaced for its slot (08 R143). -/
  displaced : Option (Handle × EndReason)
deriving DecidableEq, Repr

/-- Playback states of a MESSAGE (07 section 7.5). -/
inductive Playback
  | cueing
  | playing
  | paused
  | finished
deriving DecidableEq, Repr

/-- The MESSAGE part of a call record (02 R23, 07 R133). While a player is held the sample offset is the player's. -/
structure MessagePart where
  phrases : List Nat
  repeatCount : Nat
  repeatGap : Nat
  index : Nat
  offset : Nat
  repeatNo : Nat
  player : Option Nat
  playback : Playback
deriving DecidableEq, Repr

/-- Duplex modes of a TALK (02 R23). -/
inductive Duplex
  | full
  | lead
deriving DecidableEq, Repr

/-- An entry of a participant list: the station's endpoint number and the muted flag (06 R108). -/
structure Participant where
  station : Nat
  muted : Bool
deriving DecidableEq, Repr

/-- The TALK part of a call record (02 R23), with the set and leader kept for the fade of an ENDING call (04 R76). -/
structure TalkPart where
  duplex : Duplex
  participants : List Participant
  kept : List Nat
  keptLeader : Option Nat
deriving DecidableEq, Repr

/-- The ALARM part of a call record (02 R23, 08 R156). The step position stands in the Sequencer's record of the slot. -/
structure AlarmPart where
  program : Nat
  substituted : Bool
  unserved : Nat
deriving DecidableEq, Repr

/-- The part of a call record that belongs to its type (02 R23). -/
inductive CallPart
  | program (hold : Option Nat) (holdLevel : Nat)
  | page
  | message (m : MessagePart)
  | talk (t : TalkPart)
  | alarm (a : AlarmPart)
deriving DecidableEq, Repr

/-- A call record that is not FREE (02 R23). -/
structure Call where
  level : Nat
  opener : Port
  locked : Bool
  state : CallState
  gain : Nat
  ramp : Nat
  lanes : List Nat
  sweep : Option Sweep
  listingCount : Nat
  heardCount : Nat
  reason : Option EndReason
  part : CallPart
  /-- Stamp of the taking of its slot (07 R137, 08 R144). -/
  openSeq : Nat
  /-- Stamp of its becoming ENDED (08 R144). -/
  endSeq : Nat
deriving DecidableEq, Repr

/-- The type of a call, by its part (02 R23). -/
def Call.type (c : Call) : CallType :=
  match c.part with
  | .program _ _ => .program
  | .page => .page
  | .message _ => .message
  | .talk _ => .talk
  | .alarm _ => .alarm

/-- A call slot: its generation, and its record unless it is FREE (02 R21). -/
structure CallSlot where
  gen : Nat
  record : Option Call
deriving DecidableEq, Repr

/-- A running expiry timer of an ENDED record, marked with slot and generation (02 R28). -/
structure Expiry where
  slot : Nat
  gen : Nat
  timer : Timer
deriving DecidableEq, Repr

/-! ## Hold Line Unit -/

/-- States of a hold output (05 R100). -/
inductive HoldState
  | released
  | asserted
  | releasing
deriving DecidableEq, Repr

/-- A hold output's record (05 R100). -/
structure Hold where
  delay : Nat
  bound : List Handle
  pairs : List (Handle × Nat)
  state : HoldState
  timer : Timer
deriving DecidableEq, Repr

/-! ## Phrase Directory and players -/

/-- States of a phrase entry (07 R122). -/
inductive PhraseState
  | empty
  | defined
  | verifying
  | verified
  | bad
deriving DecidableEq, Repr

/-- A phrase entry (07 R122). -/
structure Phrase where
  state : PhraseState
  start : Nat
  length : Nat
  check : Nat
deriving DecidableEq, Repr

/-- A player channel (07 R131): IDLE with no call, PLAYING for one call; in a repeat gap it has a call and no phrase. -/
structure Player where
  call : Option Handle
  phrase : Option Nat
  offset : Nat
  /-- The half: false the first, true the second. -/
  second : Bool
  gap : Nat
deriving DecidableEq, Repr

/-- The phrase memory's bytes: address and byte, addresses strictly rising, no byte equal to what an unlisted address reads. -/
abbrev Memory := List Host.Cell

/-! ## Alarm Sequencer -/

/-- Tone shapes (08 R139). -/
inductive ToneShape
  | steady
  | warble
deriving DecidableEq, Repr

/-- Steps of an alarm program; durations in ms (08 R139). -/
inductive AlarmStep
  | tone (ms : Nat)
  | silence (ms : Nat)
  | phrase (id : Nat)
deriving DecidableEq, Repr

/-- An alarm program (08 R139). -/
structure AlarmProgram where
  level : Nat
  targets : List Target
  shape : ToneShape
  f1 : Nat
  f2 : Nat
  toneLevel : Nat
  steps : List AlarmStep
  repeatCount : Nat
deriving DecidableEq, Repr

/-- Trigger modes (08 R146). -/
inductive TriggerMode
  | off
  | latched
  | held
deriving DecidableEq, Repr

/-- A trigger record (08 R146). A set pending mark carries the stamp that orders the retries (08 R147). -/
structure Trigger where
  program : Nat
  mode : TriggerMode
  pin : Bool
  debounced : Bool
  timer : Timer
  owned : Option Handle
  pending : Option Nat
  lastResult : Option AnswerCode
deriving DecidableEq, Repr

/-- Step kinds of a running alarm (08 R150). -/
inductive StepKind
  | tone
  | silence
  | phrase
  | substituted
deriving DecidableEq, Repr

/-- The step position of a running alarm (08 R150). -/
structure StepPosition where
  repeatNo : Nat
  index : Nat
  kind : StepKind
  framesLeft : Nat
  player : Option Nat
  /-- Warble half: false on f1, true on f2. -/
  onF2 : Bool
  toSwitch : Nat
deriving DecidableEq, Repr

/-- What the Sequencer holds for one alarm slot: the step position and the tone generator (08 R150, R151). -/
structure AlarmSeq where
  position : Option StepPosition
  phase : BitVec 32
  increment : BitVec 32
deriving DecidableEq, Repr

/-! ## Line Supervisor -/

/-- Fault kinds (09 R165, 10 R178). -/
inductive FaultKind
  | lineOpen
  | lineShort
  | ampProtect
  | ampSilent
  | portLoss
  | scanTimeout
  | phraseBad
deriving DecidableEq, Repr

/-- Fault sources (09 section 9.3, 10 R178). -/
inductive FaultSource
  | channel (c : Nat)
  | inputPort (p : Nat)
  | link
  | phrase (p : Nat)
deriving DecidableEq, Repr

/-- Channel states (09 R161). -/
inductive ChannelState
  | normal
  | suspect (kind : FaultKind) (count : Nat)
  | faulted (kind : FaultKind)
  | recovering (kind : FaultKind) (count : Nat)
deriving DecidableEq, Repr

/-- A channel's last reading (09 R157). -/
structure Reading where
  code : Nat
  protect : Bool
  signalPresent : Bool
deriving DecidableEq, Repr

/-- An amplifier channel record (09 R157, R159, R161). -/
structure Channel where
  nominal : Option Nat
  state : ChannelState
  last : Reading
deriving DecidableEq, Repr

/-- The supervision settings (09 R159). -/
structure Supervision where
  tolerance : Nat
  confirm : Nat
  recover : Nat
deriving DecidableEq, Repr

/-- The actions of a severity (09 R165). -/
structure Actions where
  fallback : Bool
  attention : Bool
deriving DecidableEq, Repr

/-- An active fault (09 R162); `seq` is its place in the order of confirmations. -/
structure ActiveFault where
  source : FaultSource
  kind : FaultKind
  severity : Nat
  fallback : Bool
  seq : Nat
deriving DecidableEq, Repr

/-- A fault list entry (09 R166); `active` is its state, ACTIVE or CLEARED. -/
structure FaultEntry where
  source : FaultSource
  kind : FaultKind
  severity : Nat
  active : Bool
  acked : Bool
  reportedSystem : Bool
  reportedBridge : Bool
  attention : Bool
  seq : Nat
deriving DecidableEq, Repr

/-- Modes of a fault output (09 R170). -/
inductive PinMode
  | off
  | severity (s : Nat)
  | manual
deriving DecidableEq, Repr

/-- A fault output's record (09 R170). -/
structure FaultOut where
  mode : PinMode
  manual : Bool
  level : Bool
  latch : Bool
deriving DecidableEq, Repr

/-- A zone in the spare wait list, with the order of the fault that sent it there (09 R173). -/
structure SpareWait where
  zone : Nat
  seq : Nat
deriving DecidableEq, Repr

/-- What the Relay Link carries (09 R171): one move, or at a reset the return of every zone to its primary, all at once. -/
inductive RelayMove
  | move (zone channel : Nat)
  | returnAll
deriving DecidableEq, Repr

/-! ## Audio input ports -/

/-- Framing states of an input port (01 R17). -/
inductive Framing
  | acquiring
  | framed
  | lost
deriving DecidableEq, Repr

/-- An input port (01 R17): whether the last boundary carried its marker, and the timer of the 100 ms after a reset. -/
structure InPort where
  framing : Framing
  lastMarker : Bool
  acquire : Timer
deriving DecidableEq, Repr

/-! ## Command Ports -/

/-- The owner blocks that take requests (10 section 10.3); STATUS is the port's own. -/
inductive Owner
  | endpointTable
  | callTable
  | mixEngine
  | holdLineUnit
  | phraseDirectory
  | alarmSequencer
  | lineSupervisor
deriving DecidableEq, Repr

/-- Where a request in progress stands (10 R184): waiting for its owner's turn, or in an execution phase that spans events. -/
inductive Phase
  | waiting
  | sweeping (slot : Nat)
  | swapping
  | learning (channel : Nat) (timer : Timer)
deriving DecidableEq, Repr

/-- A port's request in progress (10 R177): the request, with its code and tag, and its phase. -/
structure InProgress where
  command : Instr
  phase : Phase
deriving DecidableEq, Repr

/-- An answer frame (10 R179): request code, tag, answer code, data. -/
structure Answer where
  code : Nat
  tag : Nat
  answer : AnswerCode
  data : List Byte
deriving DecidableEq, Repr

/-- A frame assembler (10 R177): empty, collecting a frame, or discarding every byte until a gap of 20 ms (10 R180). -/
inductive Assembler
  | empty
  | collecting (bytes : List Byte)
  | discarding
deriving DecidableEq, Repr

/-- A port record (10 R177, R187). -/
structure PortRec where
  assembler : Assembler
  inProgress : Option InProgress
  answers : List Answer
  discarded : Nat
  endsToCollect : Nat
  attention : Bool
deriving DecidableEq, Repr

/-- The last-served marks, one at each owner block (10 R177). -/
structure Marks where
  endpointTable : Port
  callTable : Port
  mixEngine : Port
  holdLineUnit : Port
  phraseDirectory : Port
  alarmSequencer : Port
  lineSupervisor : Port
deriving DecidableEq, Repr

/-! ## The whole part -/

/-- The state of the part. `pending` is the queue of commands waiting, first in first out. -/
structure State where
  system : PortRec
  bridge : PortRec
  marks : Marks
  endpoints : Table Endpoint 176
  decks : Table Deck 16
  calls : Table CallSlot 64
  expiries : List Expiry
  bank : Bank
  swapPending : Bool
  mixMode : MixMode
  pendingMode : Option MixMode
  clip : Table Bool 192
  peak : Table Nat 160
  mixed : Table Int 192
  outputs : Table Int 192
  inputs : Table InPort 4
  holds : Table Hold 4
  phrases : Table Phrase 128
  verifyQueue : List Nat
  verifySummed : Nat
  verifySum : Nat
  memory : Memory
  players : Table Player 4
  programs : Table (Option AlarmProgram) 8
  triggers : Table Trigger 4
  alarms : Table AlarmSeq 4
  degraded : Bool
  channels : Table Channel 160
  supervision : Supervision
  severities : Table Nat 7
  actions : Table Actions 3
  linkTimer : Timer
  activeFaults : List ActiveFault
  faults : List FaultEntry
  overflow : Bool
  faultOuts : Table FaultOut 3
  spares : Table (Option Nat) 16
  spareWait : List SpareWait
  relay : List RelayMove
  seq : Nat
  pending : List Instr
deriving DecidableEq, Repr

/-- Reasons to stop with a fault: none. The manual gives no condition that stops the part; a wrong request is answered with
a code (10 R179). -/
inductive Fault
deriving DecidableEq, Repr

/-- Reasons to refuse a command. -/
inductive Refusal
  /-- Raised by exec's arm of a command that has no meaning yet. Safe: nothing is claimed of the command. -/
  | notModelled (mnemonic : String)
deriving DecidableEq, Repr

/-! ## Values after power-on -/

/-- `ms` milliseconds on a timer (log 6). -/
def Timer.ofMs (ms : Nat) : Timer := .running (Config.framesPerMs * ms)

/-- An endpoint record after power-on, with `channel` as its channel in use (01 R2, 05 R93). -/
def Endpoint.initial (channel : Nat) : Endpoint :=
  { fireZone := 0, role := .mono, trimA := Config.unity, duckA := Config.duckDefault, trimB := Config.unity,
    duckB := Config.duckDefault, localTrim := Config.unity, alarmTrim := Config.unity, enabled := true, service := .inService,
    channel, movingTo := none, switchTimer := .stopped, fg := none, fgWait := [], bg := none, bgWait := [], dep0 := none,
    dep1 := none, older := .zero }

/-- The endpoint records after power-on: each zone on its primary channel, which has its number (01 R1, R2). -/
def Endpoint.initialTable : Table Endpoint 176 := Table.build 176 fun e => Endpoint.initial (if e < 144 then e else 0)

/-- A FREE slot after power-on (02 R44). -/
def CallSlot.initial : CallSlot := ⟨0, none⟩

/-- An unused deck (01 R11). -/
def Deck.initial : Deck := ⟨0, 0⟩

/-- A hold output's record after power-on (05 R100). -/
def Hold.initial : Hold := ⟨2000, [], [], .released, .stopped⟩

/-- A phrase entry after power-on (07 R122); its other fields have no meaning (log 21). -/
def Phrase.initial : Phrase := ⟨.empty, 0, 0, 0⟩

/-- An IDLE player (07 R131). -/
def Player.idle : Player := ⟨none, none, 0, false, 0⟩

/-- The general emergency alarm, program 0 after power-on (08 R140). Its f2 is DESIGN CHOICE 800, log 21. -/
def AlarmProgram.general : AlarmProgram :=
  { level := 15, targets := [.everywhere], shape := .steady, f1 := 800, f2 := 800, toneLevel := Config.unity,
    steps := [.tone 1000, .silence 1000, .tone 1000, .silence 1000, .tone 1000, .silence 1000, .tone 1000, .silence 1000,
              .tone 1000, .silence 1000, .tone 1000, .silence 1000, .tone 1000, .silence 1000, .tone 5000, .silence 3000],
    repeatCount := 0 }

/-- The alarm programs after power-on (08 R140). -/
def AlarmProgram.initialTable : Table (Option AlarmProgram) 8 := (Table.fill 8 none).set 0 (some .general)

/-- A trigger's debounce timer after a reset: 20 ms, stopped at once on an inactive pin (08 R146). -/
def Trigger.resetTimer (pin : Bool) : Timer := if pin then .ofMs 20 else .stopped

/-- A trigger record after power-on with its pin at a level (08 R146). -/
def Trigger.initial (mode : TriggerMode) (pin : Bool) : Trigger :=
  ⟨0, mode, pin, false, Trigger.resetTimer pin, none, none, none⟩

/-- The trigger records after power-on, with the pins inactive (08 R146, log 22). -/
def Trigger.initialTable : Table Trigger 4 := Table.build 4 fun i => Trigger.initial (if i = 0 then .latched else .off) false

/-- An alarm slot's Sequencer record with no alarm running (08 R150, R155; log 21). -/
def AlarmSeq.initial : AlarmSeq := ⟨none, 0, 0⟩

/-- A channel record after power-on (09 R159, R161; log 21). -/
def Channel.initial : Channel := ⟨none, .normal, ⟨0, false, false⟩⟩

/-- The default severity map, by the code of the fault kind (09 R165, 10 R178). -/
def FaultKind.defaultSeverities : Table Nat 7 := ⟨[1, 2, 2, 1, 2, 1, 1], rfl⟩

/-- The default action map (09 R165). -/
def Actions.defaults : Table Actions 3 := ⟨[⟨false, false⟩, ⟨true, true⟩, ⟨true, true⟩], rfl⟩

/-- A fault output's record after power-on (09 R170). -/
def FaultOut.initial : FaultOut := ⟨.off, false, false, false⟩

/-- An input port after either reset (01 R17). -/
def InPort.initial : InPort := ⟨.acquiring, false, .ofMs 100⟩

/-- A port record after either reset (10 R177, R187). -/
def PortRec.initial : PortRec := ⟨.empty, none, [], 0, 0, false⟩

/-- The last-served marks after either reset (10 R177). -/
def Marks.initial : Marks := ⟨.bridge, .bridge, .bridge, .bridge, .bridge, .bridge, .bridge⟩

/-- The part right after power-on (00 section 4.5 and each block's reset rule), with the trigger pins inactive (log 22) and
nothing listed in the phrase memory (log 9). -/
def State.reset : State :=
  { system := .initial, bridge := .initial, marks := .initial, endpoints := Endpoint.initialTable,
    decks := .fill 16 .initial, calls := .fill 64 .initial, expiries := [], bank := .a, swapPending := false,
    mixMode := .nearest, pendingMode := none, clip := .fill 192 false, peak := .fill 160 0, mixed := .fill 192 0,
    outputs := .fill 192 0, inputs := .fill 4 .initial, holds := .fill 4 .initial, phrases := .fill 128 .initial,
    verifyQueue := [], verifySummed := 0, verifySum := 0, memory := [], players := .fill 4 .idle,
    programs := AlarmProgram.initialTable, triggers := Trigger.initialTable, alarms := .fill 4 .initial, degraded := false,
    channels := .fill 160 .initial, supervision := ⟨16, 3, 5⟩, severities := FaultKind.defaultSeverities,
    actions := Actions.defaults, linkTimer := .ofMs 3000, activeFaults := [], faults := [], overflow := false,
    faultOuts := .fill 3 .initial, spares := .fill 16 none, spareWait := [], relay := [.returnAll], seq := 0, pending := [] }

end Sys2Proof.Machine
end

