-- ==== Sys2Proof/Machine/Ops.lean ====
section
/-! DEFINITION. Operations every block uses: timers, the phrase memory, access to the records, and the bytes of answers. -/

namespace Sys2Proof.Machine

/-! ## Timers -/

/-- A running timer loses one frame at each frame boundary and stays at 0 until its expiry is taken (log 6). -/
def Timer.tick : Timer → Timer
  | .stopped => .stopped
  | .running n => .running (n - 1)

/-- Whether a timer runs. -/
def Timer.isRunning : Timer → Bool
  | .stopped => false
  | .running _ => true

/-- The remaining time of a timer in whole milliseconds, rounded up (log 18). -/
def Timer.msLeft : Timer → Nat
  | .stopped => 0
  | .running n => (n + 47) / Config.framesPerMs

/-! ## The phrase memory -/

/-- The byte at an address (07 R123); an unlisted address reads `Config.unwrittenByte` (log 9). -/
def Memory.read (m : Memory) (a : Nat) : Byte :=
  match m with
  | [] => Config.unwrittenByte
  | c :: rest => if c.1 = a then c.2 else Memory.read rest a

/-- Drop an address from the list. -/
def Memory.erase (m : Memory) (a : Nat) : Memory := m.filter (fun c => c.1 ≠ a)

/-- Put a cell in its place in a list of rising addresses that does not hold its address. -/
def Memory.insert (c : Host.Cell) : Memory → Memory
  | [] => [c]
  | d :: rest => if c.1 < d.1 then c :: d :: rest else d :: Memory.insert c rest

/-- The memory with one byte written, in canonical form. No command of the part writes it: the controller writes the device
on its own (07 R130), which is outside the model (log 9). -/
def Memory.write (m : Memory) (a : Nat) (b : Byte) : Memory :=
  if b = Config.unwrittenByte then m.erase a else Memory.insert (a, b) (m.erase a)

/-- The canonical form: addresses strictly rising, no entry equal to what an unlisted address reads. -/
def Memory.wf : Memory → Bool
  | [] => true
  | [c] => c.2 != Config.unwrittenByte
  | c :: d :: rest => c.2 != Config.unwrittenByte && decide (c.1 < d.1) && Memory.wf (d :: rest)

/-- The stored sample at an even address: two bytes, the even address the more significant, 16-bit signed (07 R123). -/
def Memory.sample (m : Memory) (a : Nat) : Int := ((m.read a) ++ (m.read (a + 1))).toInt

/-! ## Access to the records -/

/-- Endpoint record `e`. -/
def State.ep (s : State) (e : Nat) : Endpoint := s.endpoints.get e (Endpoint.initial 0)
/-- Replace endpoint record `e`. -/
def State.setEp (s : State) (e : Nat) (x : Endpoint) : State := { s with endpoints := s.endpoints.set e x }
/-- Call slot `i`. -/
def State.slot (s : State) (i : Nat) : CallSlot := s.calls.get i .initial

/-- The call a handle names in a table: its slot is not FREE and holds the handle's generation (02 R21). -/
def findCall (calls : Table CallSlot 64) (h : Handle) : Option Call :=
  if (calls.get h.slot .initial).gen = h.gen then (calls.get h.slot .initial).record else none

/-- The call a handle names (02 R21). -/
def State.call (s : State) (h : Handle) : Option Call := findCall s.calls h

/-- The handle that names the present record of a slot (02 R21). -/
def State.handleOf (s : State) (i : Nat) : Handle := ⟨i, (s.slot i).gen⟩

/-- Write the record of a slot, keeping its generation. -/
def State.setRecord (s : State) (i : Nat) (c : Option Call) : State :=
  { s with calls := s.calls.set i ⟨(s.slot i).gen, c⟩ }

/-- Change the record a handle names; a stale handle changes nothing. -/
def State.updCall (s : State) (h : Handle) (f : Call → Call) : State :=
  match s.call h with
  | some c => s.setRecord h.slot (some (f c))
  | none => s

/-- The handles of the slots that are not FREE, in slot order. -/
def State.handles (s : State) : List Handle :=
  (List.range 64).filterMap fun i => if (s.slot i).record.isSome then some (s.handleOf i) else none

/-- Take the next stamp of order (log 16). -/
def State.nextSeq (s : State) : State := { s with seq := s.seq + 1 }

/-- A command port's record. -/
def State.port (s : State) : Port → PortRec
  | .system => s.system
  | .bridge => s.bridge

/-- Replace a command port's record. -/
def State.setPort (s : State) (p : Port) (r : PortRec) : State :=
  match p with
  | .system => { s with system := r }
  | .bridge => { s with bridge := r }

/-- Player `i`. -/
def State.player (s : State) (i : Nat) : Player := s.players.get i .idle
/-- Replace player `i`. -/
def State.setPlayer (s : State) (i : Nat) (x : Player) : State := { s with players := s.players.set i x }
/-- Phrase entry `i`. -/
def State.phrase (s : State) (i : Nat) : Phrase := s.phrases.get i .initial
/-- Replace phrase entry `i`. -/
def State.setPhrase (s : State) (i : Nat) (x : Phrase) : State := { s with phrases := s.phrases.set i x }
/-- Hold output `o`. -/
def State.hold (s : State) (o : Nat) : Hold := s.holds.get o .initial
/-- Replace hold output `o`. -/
def State.setHold (s : State) (o : Nat) (x : Hold) : State := { s with holds := s.holds.set o x }
/-- Alarm program `i`, none when empty. -/
def State.program (s : State) (i : Nat) : Option AlarmProgram := s.programs.get i none
/-- Trigger input `i`. -/
def State.trigger (s : State) (i : Nat) : Trigger := s.triggers.get i (.initial .off false)
/-- Replace trigger input `i`. -/
def State.setTrigger (s : State) (i : Nat) (x : Trigger) : State := { s with triggers := s.triggers.set i x }
/-- The Sequencer's record of alarm slot `i`, 60 to 63. -/
def State.alarmSeq (s : State) (i : Nat) : AlarmSeq := s.alarms.get (i - 60) .initial
/-- Replace the Sequencer's record of alarm slot `i`, 60 to 63. -/
def State.setAlarmSeq (s : State) (i : Nat) (x : AlarmSeq) : State := { s with alarms := s.alarms.set (i - 60) x }
/-- Amplifier channel `c`. -/
def State.channelRec (s : State) (c : Nat) : Channel := s.channels.get c .initial
/-- Replace amplifier channel `c`. -/
def State.setChannel (s : State) (c : Nat) (x : Channel) : State := { s with channels := s.channels.set c x }
/-- Fault output `o`. -/
def State.faultOut (s : State) (o : Nat) : FaultOut := s.faultOuts.get o .initial
/-- Replace fault output `o`. -/
def State.setFaultOut (s : State) (o : Nat) (x : FaultOut) : State := { s with faultOuts := s.faultOuts.set o x }
/-- Audio input port `i`. -/
def State.input (s : State) (i : Nat) : InPort := s.inputs.get i .initial
/-- Replace audio input port `i`. -/
def State.setInput (s : State) (i : Nat) (x : InPort) : State := { s with inputs := s.inputs.set i x }
/-- Deck record `d`. -/
def State.deck (s : State) (d : Nat) : Deck := s.decks.get d .initial

/-- The endpoint number is a zone's (01 R1). -/
def isZone (e : Nat) : Bool := decide (e < Config.zones)

/-! ## Bytes of answers (10 R178, R179; layouts log 18) -/

/-- The low byte of a number. -/
def byte1 (n : Nat) : List Byte := [BitVec.ofNat 8 n]
/-- Two bytes, the more significant first. -/
def byte2 (n : Nat) : List Byte := [BitVec.ofNat 8 (n / 256), BitVec.ofNat 8 n]
/-- Three bytes, the most significant first. -/
def byte3 (n : Nat) : List Byte := [BitVec.ofNat 8 (n / 65536), BitVec.ofNat 8 (n / 256), BitVec.ofNat 8 n]
/-- A two-state item: 0 or 1. -/
def byteFlag (b : Bool) : List Byte := byte1 b.toNat
/-- An optional item: a presence byte, then the item's bytes, which are 0 when it is absent. -/
def byteOpt (enc : Nat → List Byte) (o : Option Nat) : List Byte := byteFlag o.isSome ++ enc (o.getD 0)
/-- A handle: slot, generation. -/
def byteHandle (h : Handle) : List Byte := byte1 h.slot ++ byte1 h.gen
/-- An optional handle: a presence byte, then the handle or zeros. -/
def byteHandleOpt (o : Option Handle) : List Byte :=
  match o with
  | some h => byte1 1 ++ byteHandle h
  | none => byte1 0 ++ byte2 0
/-- A counted list: its count in one byte, then its items. -/
def byteList {α : Type} (enc : α → List Byte) (xs : List α) : List Byte := byte1 xs.length ++ xs.flatMap enc

end Sys2Proof.Machine
end

