-- ==== Sys2Proof/Machine/Mix.lean ====
section
/-! DEFINITION. The arithmetic of the mix: rounding, effective trim, target coefficient, ramps, scaling and saturation (04). -/

namespace Sys2Proof.Machine

/-- Rounding of a quotient of naturals: half up in NEAREST, floor in TRUNCATE (04 R87, stages 2 and 4). -/
def roundNat (m : MixMode) (p d : Nat) : Nat :=
  match m with
  | .nearest => (p + d / 2) / d
  | .truncate => p / d

/-- Scaling of the accumulator to a sample (04 R85, R87 stage 7): floor of acc plus a half in NEAREST, toward zero in TRUNCATE. -/
def scale (m : MixMode) (acc : Int) : Int :=
  match m with
  | .nearest => (acc + 16384).fdiv 32768
  | .truncate => acc.tdiv 32768

/-- Saturation to the 24-bit range (04 R86). -/
def saturate (x : Int) : Int := if x > 8388607 then 8388607 else if x < -8388608 then -8388608 else x

/-- Whether saturation changes the value (04 R86). -/
def saturates (x : Int) : Bool := saturate x != x

/-- The bank trim of an endpoint in a bank (01 R3). -/
def bankTrim (bk : Bank) (ep : Endpoint) : Nat :=
  match bk with
  | .a => ep.trimA
  | .b => ep.trimB

/-- The bank duck depth of an endpoint in a bank (01 R3). -/
def bankDuck (bk : Bank) (ep : Endpoint) : Nat :=
  match bk with
  | .a => ep.duckA
  | .b => ep.duckB

/-- Effective trim T (04 R77). -/
def effTrim (m : MixMode) (bk : Bank) (ep : Endpoint) (t : CallType) : Nat :=
  match t with
  | .program => roundNat m (bankTrim bk ep * ep.localTrim) 32768
  | .alarm => ep.alarmTrim
  | .page => bankTrim bk ep
  | .message => bankTrim bk ep
  | .talk => bankTrim bk ep

/-- Target coefficient C = round(G * D * T / 2^30) of an admitted term (04 R79). -/
def targetOf (m : MixMode) (gain duck trim : Nat) : Nat := roundNat m (gain * duck * trim) 1073741824

/-- Step per frame of a ramp code (04 R81); code 0 moves in one step (04 R82). -/
def rampStepSize (code : Nat) : Nat :=
  match code with
  | 0 => 65535
  | 1 => 1024
  | 2 => 256
  | 3 => 64
  | 4 => 16
  | 5 => 8
  | 6 => 4
  | _ => 1

/-- One ramp step of A toward C (04 R81). -/
def rampToward (step a c : Nat) : Nat :=
  if a ≤ c then (if c - a ≤ step then c else a + step) else (if a - c ≤ step then c else a - step)

/-- The applied coefficient moves one step toward the target (04 R81). -/
def Term.step (t : Term) : Term := { t with applied := rampToward (rampStepSize t.ramp) t.applied t.target }

/-- Give a term a target. A term of ramp code 0 takes it as its applied coefficient at once (04 R82). -/
def Term.setTarget (t : Term) (c : Nat) : Term :=
  { t with target := c, applied := if t.ramp = 0 then c else t.applied }

end Sys2Proof.Machine
end

