-- ==== Sys2Proof/Machine/Admission.lean ====
section
/-! DEFINITION. What one endpoint does with an arrival, a removal, a disabling and a frame boundary (03), as functions of the
endpoint's record alone. Both classes share the functions; `c` is the class. -/

namespace Sys2Proof.Machine

/-- What an endpoint reads of the rest of the part: the rounding mode, the active bank and the call table. -/
structure EpCtx where
  mode : MixMode
  bank : Bank
  calls : Table CallSlot 64

/-- The causes of a loss (03 R59). -/
inductive Cause
  | bump
  | drop
  | disable
  | ending
deriving DecidableEq, Repr

/-- What an endpoint reports: a listing that left with its cause (03 R58, R59), or a change of an interrupted mark (03 R63). -/
inductive Report
  | lost (call : Handle) (cause : Cause)
  | interruption (call : Handle) (output : Nat) (begins : Bool)
deriving DecidableEq, Repr

/-! ## What the endpoint reads of a call -/

/-- The call gain (02 R23). -/
def EpCtx.gainOf (x : EpCtx) (h : Handle) : Nat := ((findCall x.calls h).map (·.gain)).getD 0
/-- The call's ramp code (02 R23). -/
def EpCtx.rampOf (x : EpCtx) (h : Handle) : Nat := ((findCall x.calls h).map (·.ramp)).getD 0
/-- The hold output a PROGRAM call is bound to and its hold level (02 R23, 03 R62). -/
def EpCtx.holdOf (x : EpCtx) (h : Handle) : Option (Nat × Nat) :=
  match findCall x.calls h with
  | some c =>
    match c.part with
    | .program (some o) lv => some (o, lv)
    | _ => none
  | none => none

/-! ## The endpoint's places (03 R46) -/

/-- The slot of a class. -/
def Endpoint.slot (c : ListClass) (ep : Endpoint) : Option Admitted :=
  match c with
  | .foreground => ep.fg
  | .background => ep.bg
/-- Write the slot of a class. -/
def Endpoint.setSlot (c : ListClass) (v : Option Admitted) (ep : Endpoint) : Endpoint :=
  match c with
  | .foreground => { ep with fg := v }
  | .background => { ep with bg := v }
/-- The wait list of a class. -/
def Endpoint.wait (c : ListClass) (ep : Endpoint) : List Listing :=
  match c with
  | .foreground => ep.fgWait
  | .background => ep.bgWait
/-- Write the wait list of a class. -/
def Endpoint.setWait (c : ListClass) (v : List Listing) (ep : Endpoint) : Endpoint :=
  match c with
  | .foreground => { ep with fgWait := v }
  | .background => { ep with bgWait := v }
/-- Capacity of the wait list of a class (03 R46). -/
def waitCap : ListClass → Nat
  | .foreground => Config.fgWaitCap
  | .background => Config.bgWaitCap
/-- A departing slot. -/
def Endpoint.dep (sl : DepSlot) (ep : Endpoint) : Option Departing :=
  match sl with
  | .zero => ep.dep0
  | .one => ep.dep1
/-- Write a departing slot. -/
def Endpoint.setDep (sl : DepSlot) (v : Option Departing) (ep : Endpoint) : Endpoint :=
  match sl with
  | .zero => { ep with dep0 := v }
  | .one => { ep with dep1 := v }

/-- The endpoint lists a call, ADMITTED or WAITING (02 R23). -/
def Endpoint.lists (h : Handle) (ep : Endpoint) : Bool :=
  ep.fg.any (·.listing.call == h) || ep.bg.any (·.listing.call == h) ||
  ep.fgWait.any (·.call == h) || ep.bgWait.any (·.call == h)
/-- The endpoint lists a call ADMITTED. -/
def Endpoint.admits (h : Handle) (ep : Endpoint) : Bool :=
  ep.fg.any (·.listing.call == h) || ep.bg.any (·.listing.call == h)
/-- The departing terms, slot 0 first. -/
def Endpoint.departing (ep : Endpoint) : List Departing := ep.dep0.toList ++ ep.dep1.toList
/-- The terms of the endpoint: foreground, background, departing slots 0 and 1 (03 R60). -/
def Endpoint.terms (ep : Endpoint) : List Term :=
  ep.fg.toList.map (·.term) ++ ep.bg.toList.map (·.term) ++ ep.departing.map (·.term)
/-- A call has a term here with an applied coefficient above 0 (02 R27). -/
def Endpoint.sounds (h : Handle) (ep : Endpoint) : Bool := ep.terms.any fun t => t.call == h && decide (0 < t.applied)

/-- The admitted foreground is an ALARM. -/
def Endpoint.fgAlarm (ep : Endpoint) : Bool := ep.fg.any (·.listing.type == .alarm)

/-! ## Terms -/

/-- The gain of a listing's term: its override if present, else the call gain (03 R60). -/
def gainFor (x : EpCtx) (l : Listing) : Nat := l.override.getD (x.gainOf l.call)

/-- The duck factor D of a class's admitted term (03 R56, 04 R78). -/
def duckOf (bk : Bank) (c : ListClass) (ep : Endpoint) : Nat :=
  match c with
  | .foreground => Config.unity
  | .background =>
    match ep.fg with
    | none => Config.unity
    | some a => if a.listing.type = .alarm then 0 else bankDuck bk ep

/-- A term given its present gain, D and target, from the applied coefficient it has (04 R80). -/
def refitTerm (x : EpCtx) (c : ListClass) (ep : Endpoint) (l : Listing) (t : Term) : Term :=
  Term.setTarget { t with gain := gainFor x l, duck := duckOf x.bank c ep }
    (targetOf x.mode (gainFor x l) (duckOf x.bank c ep) (effTrim x.mode x.bank ep l.type))

/-- A new term of a listing from an applied coefficient (03 R47, R51; 04 R83). -/
def formTerm (x : EpCtx) (c : ListClass) (ep : Endpoint) (l : Listing) (applied : Nat) : Term :=
  refitTerm x c ep l
    { call := l.call, type := l.type, gain := 0, duck := 0, ramp := x.rampOf l.call, target := 0, applied }

/-- Recompute the target of a class's admitted term (04 R80). -/
def Endpoint.refit (x : EpCtx) (c : ListClass) (ep : Endpoint) : Endpoint :=
  match ep.slot c with
  | none => ep
  | some a => ep.setSlot c (some { a with term := refitTerm x c ep a.listing a.term })

/-- The background term's applied coefficient becomes 0 at once under an admitted ALARM (03 R49, R56; 04 R82). -/
def Endpoint.silenceUnderAlarm (ep : Endpoint) : Endpoint :=
  if ep.fgAlarm then { ep with bg := ep.bg.map fun a => { a with term := { a.term with applied := 0 } } } else ep

/-- The endpoint chooses D again and sends the background term its new target (03 R57). -/
def Endpoint.rechooseDuck (x : EpCtx) (ep : Endpoint) : Endpoint := (ep.refit x .background).silenceUnderAlarm

/-- Every admitted term takes a target from the present bank and rounding mode (04 R88, 05 R97). -/
def Endpoint.refitAll (x : EpCtx) (ep : Endpoint) : Endpoint := (ep.refit x .foreground).rechooseDuck x

/-! ## Departing slots -/

/-- Clear the fading link of every waiting listing that names a slot (03 R49, R54). -/
def Endpoint.unlink (sl : DepSlot) (ep : Endpoint) : Endpoint :=
  let clear := fun (l : Listing) => if l.fading = some sl then { l with fading := none } else l
  { ep with fgWait := ep.fgWait.map clear, bgWait := ep.bgWait.map clear }

/-- Free a departing slot whose term has reached 0 or is cut (03 R53, R54). -/
def Endpoint.freeDep (sl : DepSlot) (ep : Endpoint) : Endpoint := (ep.setDep sl none).unlink sl

/-- Cut both departing terms, as the admission of an ALARM does (03 R49). -/
def Endpoint.cutDeparting (ep : Endpoint) : Endpoint := (ep.freeDep .zero).freeDep .one

/-- The slot a departing term enters: the lowest-numbered free one (log 12), else the older, which is cut (03 R54). -/
def Endpoint.depTarget (ep : Endpoint) : DepSlot :=
  if ep.dep0.isNone then .zero else if ep.dep1.isNone then .one else ep.older

/-- Move a term that has left into a departing slot with target 0 (03 R48, R52, R54). -/
def Endpoint.placeDeparting (d : Departing) (ep : Endpoint) : Endpoint :=
  { (ep.freeDep ep.depTarget).setDep ep.depTarget (some { d with term := { d.term with target := 0 } }) with
    older := ep.depTarget.other }

/-- A term of ramp code 0, or one at 0, is dropped and takes no departing slot (03 R48, R52). -/
def Term.dropsAtOnce (t : Term) : Bool := decide (t.applied = 0) || decide (t.ramp = 0)

/-- The term of an admitted listing leaves: it is dropped or moves to a departing slot, which is named (03 R48, R52). -/
def Endpoint.depart (a : Admitted) (ep : Endpoint) : Endpoint × Option DepSlot :=
  if a.term.dropsAtOnce then (ep, none) else (ep.placeDeparting ⟨a.term, a.listing.level, a.listing.override⟩, some ep.depTarget)

/-! ## Interruption marks (03 section 3.8) -/

/-- The foreground slot interrupts a listing with this hold level (03 R62). -/
def Endpoint.interrupts (holdLevel : Nat) (ep : Endpoint) : Bool :=
  ep.fg.any fun a => a.listing.type == .alarm || decide (holdLevel ≤ a.listing.level)

/-- The mark a listing should have; a listing of a call that is bound to no output has none (03 R62). -/
def Endpoint.markFor (x : EpCtx) (ep : Endpoint) (l : Listing) : Bool :=
  match x.holdOf l.call with
  | some (_, lv) => ep.interrupts lv
  | none => false

/-- The report of a mark that changes (03 R63). -/
def markReport (x : EpCtx) (ep : Endpoint) (l : Listing) : List Report :=
  match x.holdOf l.call with
  | some (o, lv) => if l.interrupted = ep.interrupts lv then [] else [.interruption l.call o (ep.interrupts lv)]
  | none => []

/-- Evaluate the mark of every PROGRAM listing here and report the changes (03 R63). -/
def Endpoint.evalMarks (x : EpCtx) (ep : Endpoint) : Endpoint × List Report :=
  let mark := fun (l : Listing) => { l with interrupted := ep.markFor x l }
  ({ ep with bg := ep.bg.map fun a => { a with listing := mark a.listing }, bgWait := ep.bgWait.map mark },
   ((ep.bg.toList.map (·.listing)) ++ ep.bgWait).flatMap (markReport x ep))

/-- The reports of a listing that leaves: its loss, and the end of its interruption if it was marked (03 R58, R63). -/
def leaveReports (x : EpCtx) (cause : Cause) (l : Listing) : List Report :=
  .lost l.call cause ::
  match x.holdOf l.call with
  | some (o, _) => if l.interrupted then [.interruption l.call o false] else []
  | none => []

/-! ## Arrival (03 sections 3.2, 3.3, 3.5) -/

/-- Insert after every entry of equal or higher level (03 R47). -/
def insertByLevel (l : Listing) : List Listing → List Listing
  | [] => [l]
  | x :: xs => if l.level ≤ x.level then x :: insertByLevel l xs else l :: x :: xs

/-- Admit a listing with a term from an applied coefficient. An ALARM cuts every other term (03 R47, R49, R51). -/
def Endpoint.giveSlot (x : EpCtx) (c : ListClass) (l : Listing) (applied : Nat) (ep : Endpoint) : Endpoint :=
  let ep := if l.type = .alarm then ep.cutDeparting else ep
  ep.setSlot c (some ⟨{ l with fading := none }, formTerm x c ep l applied⟩)

/-- Put a wait list in place, bumping what exceeds the capacity (03 R50, R55). -/
def Endpoint.putWait (x : EpCtx) (c : ListClass) (w : List Listing) (ep : Endpoint) : Endpoint × List Report :=
  (ep.setWait c (w.take (waitCap c)), (w.drop (waitCap c)).flatMap (leaveReports x .bump))

/-- The end of every change of places: D is chosen again and the marks are evaluated (03 R57, R63). -/
def Endpoint.finish (x : EpCtx) (r : Endpoint × List Report) : Endpoint × List Report :=
  let m := (r.1.rechooseDuck x).evalMarks x
  (m.1, r.2 ++ m.2)

/-- A listing arrives over an admitted one: it waits (03 R47) or preempts (03 R48, R49, R55). -/
def Endpoint.arriveOver (x : EpCtx) (c : ListClass) (l : Listing) (a : Admitted) (ep : Endpoint) : Endpoint × List Report :=
  if l.level ≤ a.listing.level then ep.putWait x c (insertByLevel l (ep.wait c))
  else
    let d := if l.type = .alarm then (ep.cutDeparting, none) else ep.depart a
    let r := d.1.putWait x c ({ a.listing with fading := d.2 } :: d.1.wait c)
    (r.1.giveSlot x c l 0, r.2)

/-- A listing arrives (03 R47 to R50, R55). -/
def Endpoint.arrive (x : EpCtx) (c : ListClass) (l : Listing) (ep : Endpoint) : Endpoint × List Report :=
  Endpoint.finish x <|
    match ep.slot c with
    | none => (ep.giveSlot x c l 0, [])
    | some a => ep.arriveOver x c l a

/-! ## Removal and promotion (03 section 3.4) -/

/-- Where the head's fading link names an occupied departing slot: the slot and the coefficient its term has reached (03 R51). -/
def Endpoint.takeBack (l : Listing) (ep : Endpoint) : Endpoint × Nat :=
  match l.fading with
  | none => (ep, 0)
  | some sl =>
    match ep.dep sl with
    | none => (ep, 0)
    | some d => (ep.setDep sl none, d.term.applied)

/-- The head of the wait list is promoted into an empty slot (03 R51, R55). -/
def Endpoint.promote (x : EpCtx) (c : ListClass) (ep : Endpoint) : Endpoint :=
  match ep.slot c, ep.wait c with
  | none, l :: rest =>
    let t := (ep.setWait c rest).takeBack l
    t.1.giveSlot x c l t.2
  | _, _ => ep

/-- The admitted listing of a class leaves; the slot is left empty (03 R52). -/
def Endpoint.vacate (x : EpCtx) (c : ListClass) (cause : Cause) (a : Admitted) (ep : Endpoint) : Endpoint × List Report :=
  (((ep.setSlot c none).depart a).1, leaveReports x cause a.listing)

/-- A call's listing of a class leaves, from the slot or from the wait list (03 R52); nothing happens where it has none. -/
def Endpoint.remove (x : EpCtx) (c : ListClass) (h : Handle) (cause : Cause) (ep : Endpoint) : Endpoint × List Report :=
  Endpoint.finish x <|
    match ep.slot c with
    | some a =>
      if a.listing.call = h then
        let v := ep.vacate x c cause a
        (v.1.promote x c, v.2)
      else (ep.setWait c ((ep.wait c).filter (·.call ≠ h)),
            ((ep.wait c).filter (·.call = h)).flatMap (leaveReports x cause))
    | none => (ep.setWait c ((ep.wait c).filter (·.call ≠ h)),
               ((ep.wait c).filter (·.call = h)).flatMap (leaveReports x cause))

/-! ## Disabling (03 R61) -/

/-- The non-ALARM listings of a class leave: the wait list from head to tail, then the slot. The slot stays empty in every
state a run reaches, since no ALARM waits behind a non-ALARM: `promote` finds an empty list. -/
def Endpoint.disableClass (x : EpCtx) (c : ListClass) (ep : Endpoint) : Endpoint × List Report :=
  let w := ep.setWait c ((ep.wait c).filter (·.type = .alarm))
  let out := ((ep.wait c).filter (·.type ≠ .alarm)).flatMap (leaveReports x .disable)
  match w.slot c with
  | some a =>
    if a.listing.type = .alarm then (w, out)
    else
      let v := w.vacate x c .disable a
      (v.1.promote x c, out ++ v.2)
  | none => (w, out)

/-- The endpoint takes the removal of its non-ALARM listings as one event (03 R61). -/
def Endpoint.disable (x : EpCtx) (ep : Endpoint) : Endpoint × List Report :=
  let f := ep.disableClass x .foreground
  let b := f.1.disableClass x .background
  Endpoint.finish x (b.1, f.2 ++ b.2)

/-! ## The frame boundary (04 R81, R83) -/

/-- A departing term steps; at 0 its slot is freed (03 R53, 04 R83). -/
def Endpoint.stepDep (sl : DepSlot) (ep : Endpoint) : Endpoint :=
  match ep.dep sl with
  | none => ep
  | some d => if d.term.step.applied = 0 then ep.freeDep sl else ep.setDep sl (some { d with term := d.term.step })

/-- An admitted term steps (04 R81). -/
def Admitted.step (a : Admitted) : Admitted := { a with term := a.term.step }

/-- Every term of the endpoint moves one ramp step (04 R68, R81). -/
def Endpoint.stepTerms (ep : Endpoint) : Endpoint :=
  (({ ep with fg := ep.fg.map Admitted.step, bg := ep.bg.map Admitted.step } : Endpoint).stepDep .zero).stepDep .one

/-! ## Overrides and muted flags (02 R37, 06 R112) -/

/-- A listing changed by `f` if it is the call's. -/
def Listing.updIf (h : Handle) (f : Listing → Listing) (l : Listing) : Listing := if l.call = h then f l else l

/-- An admitted listing changed by `f` if it is the call's; its term stays. -/
def Admitted.updIf (h : Handle) (f : Listing → Listing) (a : Admitted) : Admitted :=
  { a with listing := a.listing.updIf h f }

/-- Change a call's listing, in whatever place it stands. -/
def Endpoint.updListing (h : Handle) (f : Listing → Listing) (ep : Endpoint) : Endpoint :=
  { ep with fg := ep.fg.map (·.updIf h f), fgWait := ep.fgWait.map (·.updIf h f),
            bg := ep.bg.map (·.updIf h f), bgWait := ep.bgWait.map (·.updIf h f) }

/-- A call's listing at the endpoint and whether it is ADMITTED. -/
def Endpoint.findListing (h : Handle) (ep : Endpoint) : Option (Listing × Bool) :=
  match (ep.fg.toList ++ ep.bg.toList).find? (·.listing.call = h) with
  | some a => some (a.listing, true)
  | none => ((ep.fgWait ++ ep.bgWait).find? (·.call = h)).map (·, false)

end Sys2Proof.Machine
end

