-- ==== Sys2Proof/Machine/Flags.lean ====
section
/-! DEFINITION. The counts, flags and output pins that follow from the records: a call's counts (02 R23), the ends to collect
(10 R187), ALARM DEGRADED (08 R156), the list-overflow flag (09 R167), the attention lines (10 R189), the fault outputs
(09 R170), the hold outputs' level (05 R100) and the lane a clip flag belongs to (01 R10). -/

namespace Sys2Proof.Machine

/-! ## Counts over the endpoints -/

/-- The endpoints at which a call has a listing (02 R23). -/
def State.listingCount (s : State) (h : Handle) : Nat := s.endpoints.cells.countP (·.lists h)
/-- The admitted listings of a call at endpoints that are not OUT_OF_SERVICE (02 R23). -/
def State.heardCount (s : State) (h : Handle) : Nat :=
  s.endpoints.cells.countP fun ep => ep.admits h && ep.service != .outOfService
/-- The listings of a call at OUT_OF_SERVICE endpoints (08 R156). -/
def State.unservedCount (s : State) (h : Handle) : Nat :=
  s.endpoints.cells.countP fun ep => ep.lists h && ep.service == .outOfService
/-- Some term of a call has an applied coefficient above 0 (02 R27). -/
def State.sounds (s : State) (h : Handle) : Bool := s.endpoints.cells.any (·.sounds h)

/-- OPENING or ACTIVE. -/
def CallState.live : CallState → Bool
  | .opening => true
  | .active => true
  | .ending => false
  | .ended => false

/-- A call record with its counts as the endpoints' reports keep them (02 R23, 08 R156). -/
def State.countedCall (s : State) (h : Handle) (c : Call) : Call :=
  { c with
    listingCount := s.listingCount h, heardCount := s.heardCount h,
    part := match c.part with
      | .alarm a => .alarm { a with unserved := s.unservedCount h }
      | p => p }

/-! ## Pins and flags -/

/-- An alarm call that asserts ALARM DEGRADED (08 R156). -/
def Call.degrades (c : Call) : Bool :=
  match c.part with
  | .alarm a => c.state != .ended && (a.substituted || decide (0 < a.unserved))
  | _ => false
/-- ALARM DEGRADED as the records of the calls give it (08 R156). -/
def State.degradedNow (s : State) : Bool := s.calls.cells.any fun sl => sl.record.any Call.degrades
/-- The ends a port has to collect (10 R187). -/
def State.endsNow (s : State) (p : Port) : Nat :=
  s.calls.cells.countP fun sl => sl.record.any fun c => c.state == .ended && c.opener == p
/-- The entry is reported to a port (09 R166). -/
def FaultEntry.reported (f : FaultEntry) : Port → Bool
  | .system => f.reportedSystem
  | .bridge => f.reportedBridge
/-- An active fault stands in the list (09 R167). -/
def State.isListed (s : State) (f : ActiveFault) : Bool := s.faults.any fun x => x.source == f.source && x.kind == f.kind && x.active
/-- The list-overflow flag: some active fault has no entry (09 R166, R167). -/
def State.overflowNow (s : State) : Bool := s.activeFaults.any fun f => !(s.isListed f)
/-- A port's attention line (10 R189). -/
def State.attentionNow (s : State) (p : Port) : Bool :=
  decide (0 < (s.port p).endsToCollect) || s.faults.any (fun f => f.attention && !(f.reported p)) || s.degraded

/-- The counts of every call record follow the endpoints (02 R23). -/
def State.countCalls (s : State) : State :=
  { s with calls := s.calls.mapIdx fun i sl => ⟨sl.gen, sl.record.map (s.countedCall ⟨i, sl.gen⟩)⟩ }
/-- ALARM DEGRADED, the overflow flag and the ends to collect follow the records. -/
def State.evalFlags (s : State) : State :=
  { s with degraded := s.degradedNow, overflow := s.overflowNow,
           system := { s.system with endsToCollect := s.endsNow .system },
           bridge := { s.bridge with endsToCollect := s.endsNow .bridge } }
/-- The attention lines follow (10 R189). -/
def State.evalAttention (s : State) : State :=
  { s with system := { s.system with attention := s.attentionNow .system },
           bridge := { s.bridge with attention := s.attentionNow .bridge } }
/-- Everything that follows from the records is brought up to date, at the end of an event. -/
def State.refresh (s : State) : State := s.countCalls.evalFlags.evalAttention

/-! ## Fault outputs (09 R170) -/

/-- The output level a record's mode gives. -/
def FaultOut.levelNow (active : List ActiveFault) (o : FaultOut) : Bool :=
  match o.mode with
  | .off => false
  | .severity n => active.any fun f => decide (n ≤ f.severity)
  | .manual => o.manual
/-- Evaluation of an output: a change from released to asserted sets the latch (09 R170). -/
def FaultOut.eval (active : List ActiveFault) (o : FaultOut) : FaultOut :=
  { o with level := o.levelNow active, latch := o.latch || (!o.level && o.levelNow active) }
/-- The three fault outputs are evaluated (09 R170). -/
def State.evalFaultOuts (s : State) : State := { s with faultOuts := s.faultOuts.map (FaultOut.eval s.activeFaults) }

/-! ## Other levels -/

/-- The HOLD pin's level (05 R100). -/
def Hold.level (h : Hold) : Bool := h.state != .released

/-- The output lane whose clip flag an endpoint sets and reports (01 R10, 04 R86). -/
def clipLane (e : Nat) (ep : Endpoint) : Nat :=
  if isZone e then
    match ep.service with
    | .inService => ep.channel
    | .fallback => ep.channel
    | .switching => ep.movingTo.getD e
    | .outOfService => e
  else e + 16

end Sys2Proof.Machine
end

