-- ==== Sys2Proof/Machine/Holds.lean ====
section
/-! DEFINITION. The Hold Line Unit's records (05 section 5.3). -/

namespace Sys2Proof.Machine

/-- The interruption set has lost pairs: an ASSERTED output whose set is empty begins its release delay (05 R103). -/
def Hold.afterRemoval (h : Hold) : Hold :=
  if h.state = .asserted ∧ h.pairs = [] then
    if 0 < h.delay then { h with state := .releasing, timer := .ofMs h.delay } else { h with state := .released }
  else h

/-- An interruption of a bound call begins (05 R101, R102). -/
def Hold.begins (h : Hold) (c : Handle) (e : Nat) : Hold :=
  if !(h.bound.contains c) then h
  else
    { h with pairs := if h.pairs.contains (c, e) then h.pairs else h.pairs ++ [(c, e)], state := .asserted, timer := .stopped }

/-- An interruption ends (05 R103). -/
def Hold.ends (h : Hold) (c : Handle) (e : Nat) : Hold :=
  if h.pairs.contains (c, e) then Hold.afterRemoval { h with pairs := h.pairs.filter (· ≠ (c, e)) } else h

/-- A PROGRAM call is bound at the end of the list (05 R101). -/
def Hold.bind (h : Hold) (c : Handle) : Hold := { h with bound := h.bound ++ [c] }

/-- A call is unbound, with every pair of it (05 R101). -/
def Hold.unbind (h : Hold) (c : Handle) : Hold :=
  Hold.afterRemoval { h with bound := h.bound.filter (· ≠ c), pairs := h.pairs.filter (·.1 ≠ c) }

/-- The hold output a call record is bound to (02 R23). -/
def Call.holdLine (c : Call) : Option Nat :=
  match c.part with
  | .program o _ => o
  | _ => none

/-- The unbinding of a call from its hold output, if it has one (05 R101). -/
def State.unbindHold (s : State) (h : Handle) (c : Call) : State :=
  match c.holdLine with
  | some o => s.setHold o ((s.hold o).unbind h)
  | none => s

end Sys2Proof.Machine
end

