-- ==== Sys2Proof/Machine/Operands.lean ====
section
/-! DEFINITION. The operands of the requests: coded values, clamps, target descriptors with their checks and expansion (01), and
the codes that answers carry (10 R178). -/

namespace Sys2Proof.Machine

/-! ## Coded values (10 R178) -/

/-- A call type's code. -/
def CallType.ofCode : Nat → Option CallType
  | 0 => some .program
  | 1 => some .page
  | 2 => some .message
  | 3 => some .talk
  | 4 => some .alarm
  | _ => none
/-- A role's code. -/
def Role.ofCode : Nat → Option Role
  | 0 => some .mono
  | 1 => some .left
  | 2 => some .right
  | _ => none
/-- A duplex mode's code. -/
def Duplex.ofCode : Nat → Option Duplex
  | 0 => some .full
  | 1 => some .lead
  | _ => none
/-- A bank's code. -/
def Bank.ofCode : Nat → Option Bank
  | 0 => some .a
  | 1 => some .b
  | _ => none
/-- A rounding mode's code. -/
def MixMode.ofCode : Nat → Option MixMode
  | 0 => some .nearest
  | 1 => some .truncate
  | _ => none
/-- A trigger mode's code. -/
def TriggerMode.ofCode : Nat → Option TriggerMode
  | 0 => some .off
  | 1 => some .latched
  | 2 => some .held
  | _ => none
/-- A tone shape's code. -/
def ToneShape.ofCode : Nat → Option ToneShape
  | 0 => some .steady
  | 1 => some .warble
  | _ => none
/-- A fault kind's code. -/
def FaultKind.ofCode : Nat → Option FaultKind
  | 0 => some .lineOpen
  | 1 => some .lineShort
  | 2 => some .ampProtect
  | 3 => some .ampSilent
  | 4 => some .portLoss
  | 5 => some .scanTimeout
  | 6 => some .phraseBad
  | _ => none
/-- A fault source's code and number byte; the link's number is 0 and is not compared (log 19). -/
def FaultSource.ofCode (k n : Nat) : Option FaultSource :=
  match k with
  | 0 => some (.channel n)
  | 1 => some (.inputPort n)
  | 2 => some .link
  | 3 => some (.phrase n)
  | _ => none
/-- A two-state value takes one byte, 0 or 1; another value has no code (10 R178, log 19). -/
def flagOfCode : Nat → Option Bool
  | 0 => some false
  | 1 => some true
  | _ => none
/-- An optional coded field: absent, or present with a code. -/
def optCode {α : Type} (dec : Nat → Option α) : Option Nat → Option (Option α)
  | none => some none
  | some v => (dec v).map some

/-- A number taken at the nearest value of a range. -/
def clampTo (lo hi n : Nat) : Nat := if n < lo then lo else if hi < n then hi else n
/-- The least and the greatest level of a call type (02 R22). -/
def levelRange : CallType → Nat × Nat
  | .program => (0, 3)
  | .page => (4, 11)
  | .message => (4, 11)
  | .talk => (4, 11)
  | .alarm => (12, 15)
/-- A level taken at the nearest of its type's range (02 R22). -/
def clampLevel (t : CallType) (n : Nat) : Nat := clampTo (levelRange t).1 (levelRange t).2 n
/-- The ramp code of a type when the request gives none (02 R23). -/
def defaultRamp : CallType → Nat
  | .program => 5
  | .page => 3
  | .message => 3
  | .talk => 3
  | .alarm => 0

/-! ## Codes in answers (10 R178, R179) -/

/-- A call type's code. -/
def CallType.code : CallType → Nat
  | .program => 0
  | .page => 1
  | .message => 2
  | .talk => 3
  | .alarm => 4
/-- A role's code. -/
def Role.code : Role → Nat
  | .mono => 0
  | .left => 1
  | .right => 2
/-- A duplex mode's code. -/
def Duplex.code : Duplex → Nat
  | .full => 0
  | .lead => 1
/-- A bank's code. -/
def Bank.code : Bank → Nat
  | .a => 0
  | .b => 1
/-- A rounding mode's code. -/
def MixMode.code : MixMode → Nat
  | .nearest => 0
  | .truncate => 1
/-- A trigger mode's code. -/
def TriggerMode.code : TriggerMode → Nat
  | .off => 0
  | .latched => 1
  | .held => 2
/-- A tone shape's code. -/
def ToneShape.code : ToneShape → Nat
  | .steady => 0
  | .warble => 1
/-- A step kind's code; SUBSTITUTED is 3. -/
def StepKind.code : StepKind → Nat
  | .tone => 0
  | .silence => 1
  | .phrase => 2
  | .substituted => 3
/-- A fault kind's code. -/
def FaultKind.code : FaultKind → Nat
  | .lineOpen => 0
  | .lineShort => 1
  | .ampProtect => 2
  | .ampSilent => 3
  | .portLoss => 4
  | .scanTimeout => 5
  | .phraseBad => 6
/-- A fault source's code and its number byte, 0 for the link. -/
def FaultSource.code : FaultSource → Nat × Nat
  | .channel c => (0, c)
  | .inputPort p => (1, p)
  | .link => (2, 0)
  | .phrase p => (3, p)
/-- An answer code (10 R179). -/
def AnswerCode.code : AnswerCode → Nat
  | .ok => 0
  | .busy => 1
  | .badRequest => 2
  | .badParam => 3
  | .unknownCall => 4
  | .tableFull => 5
  | .locked => 6
  | .notReady => 7
  | .inUse => 8
  | .alreadyActive => 9
  | .noTargets => 10
  | .cleared => 11
  | .alarmLimit => 12
  | .timeout => 13
/-- A port's code, in the order R23 lists them: System, Bridge. -/
def portCode : Port → Nat
  | .system => 0
  | .bridge => 1
/-- A service state's code, in the order of R2. -/
def ServiceState.code : ServiceState → Nat
  | .inService => 0
  | .switching => 1
  | .fallback => 2
  | .outOfService => 3
/-- A call state's code, in the order of R23, where FREE is 0. -/
def CallState.code : CallState → Nat
  | .opening => 1
  | .active => 2
  | .ending => 3
  | .ended => 4
/-- An end reason's code, in the order of R25. -/
def EndReason.code : EndReason → Nat
  | .retired => 0
  | .complete => 1
  | .displaced => 2
  | .noTargets => 3
  | .cleared => 4
  | .phraseFailed => 5
  | .inputReleased => 6
/-- A sweep kind's code, in the order of R23. -/
def SweepKind.code : SweepKind → Nat
  | .opening => 0
  | .add => 1
  | .drop => 2
/-- A playback state's code, in the order of 07 section 7.5. -/
def Playback.code : Playback → Nat
  | .cueing => 0
  | .playing => 1
  | .paused => 2
  | .finished => 3
/-- A hold state's code, in the order of R100. -/
def HoldState.code : HoldState → Nat
  | .released => 0
  | .asserted => 1
  | .releasing => 2
/-- A phrase state's code, in the order of R122. -/
def PhraseState.code : PhraseState → Nat
  | .empty => 0
  | .defined => 1
  | .verifying => 2
  | .verified => 3
  | .bad => 4

/-! ## Decks and fire zones (01 section 1.5) -/

/-- A deck record covers a zone (01 R11). -/
def Deck.covers (d : Deck) (z : Nat) : Bool := decide (d.first ≤ z) && decide (z < d.first + d.count)
/-- The deck field of a zone: the one deck that covers it, or none (01 R11). -/
def State.deckOf (s : State) (z : Nat) : Option Nat := s.decks.cells.findIdx? (·.covers z)
/-- The geometry is in use while a deck has a count above 0 (01 R11). -/
def State.geometryInUse (s : State) : Bool := s.decks.cells.any fun d => decide (0 < d.count)

/-! ## Target descriptors (01 section 1.6) -/

/-- A descriptor that passes its own check (01 R13); an unknown kind or a parameter out of range is none. -/
def descriptorTarget (d : Descriptor) : Option Target :=
  match d.kind with
  | 1 => if d.p1 ≤ 175 then some (.endpoint d.p1) else none
  | 2 => if d.p1 ≤ 175 ∧ 1 ≤ d.p2 ∧ d.p2 ≤ 176 then some (.range d.p1 d.p2) else none
  | 3 => if d.p1 ≤ 15 then some (.deck d.p1) else none
  | 4 => if d.p1 ≤ 7 then some (.fireZone d.p1) else none
  | 5 => if d.p1 ≤ 15 ∧ d.p2 ≤ 7 then some (.deckFire d.p1 d.p2) else none
  | 6 => some .allZones
  | 7 => some .allStations
  | 8 => some .everywhere
  | _ => none

/-- The descriptor of a target, as an answer lists it; the parameter bytes its kind does not use are 0 (08 R141; DESIGN CHOICE,
log 18). -/
def Target.descriptor : Target → Descriptor
  | .endpoint e => ⟨1, e, 0, 0⟩
  | .range e n => ⟨2, e, n, 0⟩
  | .deck d => ⟨3, d, 0, 0⟩
  | .fireZone f => ⟨4, f, 0, 0⟩
  | .deckFire d f => ⟨5, d, f, 0⟩
  | .allZones => ⟨6, 0, 0, 0⟩
  | .allStations => ⟨7, 0, 0, 0⟩
  | .everywhere => ⟨8, 0, 0, 0⟩

/-- The descriptor needs the geometry in use (01 R13). -/
def Target.needsGeometry : Target → Bool
  | .endpoint _ => false
  | .range e _ => isZone e
  | .deck _ => true
  | .fireZone _ => true
  | .deckFire _ _ => true
  | .allZones => false
  | .allStations => false
  | .everywhere => false

/-- Every descriptor of a list of `lo` to `hi` passes its own check (01 R13, 08 R141). -/
def parseTargets (hi : Nat) (ds : List Descriptor) : Option (List Target) :=
  if ds.length = 0 ∨ hi < ds.length then none else ds.mapM descriptorTarget

/-- The geometry test of a list (01 R13). -/
def State.geometryReady (s : State) (ts : List Target) : Bool := s.geometryInUse || !(ts.any Target.needsGeometry)

/-- The check of a request's descriptor list: its targets, or the answer (01 R13). -/
def State.checkTargets (s : State) (ds : List Descriptor) : Except AnswerCode (List Target) :=
  match parseTargets 16 ds with
  | none => .error .badParam
  | some ts => if s.geometryReady ts then .ok ts else .error .notReady

/-- The walk of RANGE over candidate endpoints until `n` are counted (01 R15). -/
def rangeWalk (counted : Nat → Bool) : Nat → List Nat → List Nat
  | 0, _ => []
  | _, [] => []
  | n + 1, e :: es => if counted e then e :: rangeWalk counted n es else rangeWalk counted (n + 1) es

/-- The zones, in number order (01 R1). -/
def zoneNumbers : List Nat := List.range 144
/-- The stations, in number order (01 R1). -/
def stationNumbers : List Nat := (List.range 32).map (· + 144)

/-- The endpoints a descriptor contributes, in its order (01 R14, R15). -/
def State.contributes (s : State) (t : Target) : List Nat :=
  match t with
  | .endpoint e => [e]
  | .range e n => rangeWalk (fun x => !(isZone x) || (s.deckOf x).isSome) n ((List.range 176).drop e)
  | .deck d => zoneNumbers.filter fun z => (s.deck d).covers z
  | .fireZone f => zoneNumbers.filter fun z => (s.ep z).fireZone == f && (s.deckOf z).isSome
  | .deckFire d f => zoneNumbers.filter fun z => (s.deck d).covers z && (s.ep z).fireZone == f
  | .allZones => zoneNumbers
  | .allStations => stationNumbers
  | .everywhere => zoneNumbers ++ stationNumbers

/-- Drop every later occurrence (01 R14). -/
def keepFirst (seen : List Nat) : List Nat → List Nat
  | [] => []
  | e :: es => if seen.contains e then keepFirst seen es else e :: keepFirst (e :: seen) es

/-- Expansion without skips: the endpoints in order, each once (01 R14). -/
def State.expandAll (s : State) (ts : List Target) : List Nat := keepFirst [] (ts.flatMap s.contributes)

/-- The endpoint's kind suits the call type (01 R16). -/
def kindSuits (t : CallType) (e : Nat) : Bool :=
  match t with
  | .program => isZone e
  | .talk => !(isZone e)
  | .page => true
  | .message => true
  | .alarm => true

/-- The endpoint is the station whose microphone is the PAGE's source (01 R16, 06 R117). -/
def isOwnSource (t : CallType) (lanes : List Nat) (e : Nat) : Bool :=
  t == .page && lanes.any fun k => decide (k < 32) && e == 144 + k

/-- Expansion for a call: the endpoints to sweep, and the number skipped by kind and source (01 R14, R16). Endpoints that the
call lists already drop like duplicates. -/
def State.expand (s : State) (t : CallType) (lanes : List Nat) (listed : Nat → Bool) (ts : List Target) : List Nat × Nat :=
  let all := (s.expandAll ts).filter fun e => !(listed e)
  let kept := all.filter fun e => kindSuits t e && !(isOwnSource t lanes e)
  (kept, all.length - kept.length)

end Sys2Proof.Machine
end

