-- ==== Sys2Proof/Machine/Requests.lean ====
section
/-! DEFINITION. The phases of a request (10 sections 10.5, 10.6): a frame's command phase, the turns of the two ports at one
owner block, and the result phase. -/

namespace Sys2Proof.Machine

/-! ## The command phase -/

/-- A frame is thrown away without an answer; the count holds at 255 (10 R177). -/
def PortRec.discard (r : PortRec) : PortRec := { r with discarded := min (r.discarded + 1) 255 }
/-- An answer joins the queue (10 R182). -/
def PortRec.push (r : PortRec) (a : Answer) : PortRec := { r with answers := r.answers ++ [a] }
/-- A place of the answer queue is free beside the one kept for a request in progress (10 R182). -/
def PortRec.hasPlace (r : PortRec) : Bool := decide (r.answers.length + r.inProgress.isSome.toNat < Config.answerPlaces)

/-- The command phase of a complete frame, with the request it carries, if its code and length are those of one (10 R182, R183). -/
def PortRec.command (r : PortRec) (code tag : Nat) (request : Option Instr) : PortRec :=
  if !r.hasPlace then r.discard
  else if r.inProgress.isSome then r.push ⟨code, tag, .busy, []⟩
  else
    match request with
    | none => r.push ⟨code, tag, .badRequest, []⟩
    | some c => { r with inProgress := some ⟨c, .waiting⟩ }

/-- The port's request in progress is this one, waiting for its owner. -/
def PortRec.waits (r : PortRec) (c : Instr) : Bool := r.inProgress == some ⟨c, .waiting⟩

/-- A request command: the arrival of its complete frame, unless this very request already waits (log 3). -/
def PortRec.present (r : PortRec) (c : Instr) : PortRec := if r.waits c then r else r.command c.code c.tag (some c)

/-! ## Turns at an owner (10 R185) -/

/-- The owner block of a request code (10 section 10.3). -/
def ownerOfCode (code : Nat) : Option Owner :=
  if code < 16 then none
  else if code < 32 then some .endpointTable
  else if code < 48 then some .callTable
  else if code = 48 then some .mixEngine
  else if code = 49 then some .holdLineUnit
  else if code < 80 then some .phraseDirectory
  else if code < 96 then some .alarmSequencer
  else some .lineSupervisor

/-- A port has a turn to ask of an owner: a request waiting there, or a sweep at the Call Table. -/
def PortRec.asks (r : PortRec) (o : Owner) : Bool :=
  match r.inProgress with
  | none => false
  | some ip =>
    match ip.phase with
    | .waiting => ownerOfCode ip.command.code == some o
    | .sweeping _ => o == .callTable
    | .swapping => false
    | .learning _ _ => false

/-- The last-served mark of an owner (10 R177). -/
def Marks.get (m : Marks) : Owner → Port
  | .endpointTable => m.endpointTable
  | .callTable => m.callTable
  | .mixEngine => m.mixEngine
  | .holdLineUnit => m.holdLineUnit
  | .phraseDirectory => m.phraseDirectory
  | .alarmSequencer => m.alarmSequencer
  | .lineSupervisor => m.lineSupervisor
/-- Set the last-served mark of an owner. -/
def Marks.set (m : Marks) (o : Owner) (p : Port) : Marks :=
  match o with
  | .endpointTable => { m with endpointTable := p }
  | .callTable => { m with callTable := p }
  | .mixEngine => { m with mixEngine := p }
  | .holdLineUnit => { m with holdLineUnit := p }
  | .phraseDirectory => { m with phraseDirectory := p }
  | .alarmSequencer => { m with alarmSequencer := p }
  | .lineSupervisor => { m with lineSupervisor := p }

/-- The port may have the owner's next turn: the other port asks for none, or the mark names the other port (10 R185). -/
def State.hasTurn (s : State) (p : Port) (o : Owner) : Bool := !((s.port p.other).asks o) || s.marks.get o == p.other
/-- The owner serves a port. Where requests of both ports wait there, its mark is set to the port served; where the other port
waits for nothing, the mark stays as it is (10 R185). -/
def State.serve (s : State) (p : Port) (o : Owner) : State :=
  { s with marks := if (s.port p.other).asks o then s.marks.set o p else s.marks }

/-- A request command: the frame arrives, and its owner takes it if it is the port's turn (10 R183, R185; log 3). -/
def State.request (s : State) (p : Port) (o : Owner) (c : Instr) (take : State → State) : State :=
  let s := s.setPort p ((s.port p).present c)
  if (s.port p).waits c && s.hasTurn p o then take (s.serve p o) else s

/-! ## The result phase (10 R184) -/

/-- The owner's answer enters the queue in the place kept for it, and the request in progress becomes none (10 R184). -/
def PortRec.result (r : PortRec) (a : AnswerCode) (data : List Byte) : PortRec :=
  match r.inProgress with
  | none => r
  | some ip => { r with inProgress := none, answers := r.answers ++ [⟨ip.command.code, ip.command.tag, a, data⟩] }

/-- The owner answers the request in progress of a port. -/
def State.answer (s : State) (p : Port) (a : AnswerCode) (data : List Byte) : State := s.setPort p ((s.port p).result a data)

/-- The request in progress of a port enters a spanning execution phase (10 R184). -/
def State.enterPhase (s : State) (p : Port) (ph : Phase) : State :=
  s.setPort p { s.port p with inProgress := (s.port p).inProgress.map fun ip => { ip with phase := ph } }

end Sys2Proof.Machine
end

