-- ==== Sys2Proof/Machine/Players.lean ====
section
/-! DEFINITION. The four players and their arbiter (07 sections 7.4 to 7.6). -/

namespace Sys2Proof.Machine

/-- The first of a list that no other is better than. -/
def pickBy {α : Type} (better : α → α → Bool) : List α → Option α
  | [] => none
  | x :: xs =>
    match pickBy better xs with
    | none => some x
    | some y => if better y x then some y else some x

/-- The MESSAGE part of a record (02 R23). -/
def Call.message (c : Call) : Option MessagePart :=
  match c.part with
  | .message m => some m
  | _ => none

/-- The records that are not FREE with their handles, in slot order. -/
def State.records (s : State) : List (Handle × Call) :=
  s.handles.filterMap fun h => (s.call h).map (h, ·)

/-! ## Output and advance (07 R132) -/

/-- The output of a player in the frame being computed (07 R131, R132). -/
def State.playerOutput (s : State) (i : Nat) : Int :=
  match (s.player i).call, (s.player i).phrase with
  | some _, some ph =>
    let a := (s.phrase ph).start + 2 * (s.player i).offset
    let s0 := s.memory.sample a
    if (s.player i).second then
      (s0 + (if (s.player i).offset + 1 < (s.phrase ph).length then s.memory.sample (a + 2) else s0)).fdiv 2 * 256
    else s0 * 256
  | _, _ => 0

/-- A player after the frame's output: the half, then the offset, goes on, or the gap runs down (07 R132, R135). An offset
that has reached the length says that the phrase's last output has been given (log 7). -/
def Player.advance (p : Player) : Player :=
  match p.phrase with
  | some _ => if p.second then { p with second := false, offset := p.offset + 1 } else { p with second := true }
  | none => { p with gap := p.gap - 1 }

/-- The player has given the last output of its phrase (07 R132; log 7). -/
def State.phraseDone (s : State) (i : Nat) : Bool :=
  match (s.player i).phrase with
  | some ph => decide ((s.phrase ph).length ≤ (s.player i).offset)
  | none => false

/-- A freed player is IDLE with everything cleared (07 R131). -/
def State.freePlayer (s : State) (i : Nat) : State := s.setPlayer i .idle

/-! ## Messages (07 section 7.5) -/

/-- A message waits for a player (07 R133). -/
def State.messageWaits (s : State) (h : Handle) (c : Call) : Bool :=
  match c.message with
  | some m =>
    c.state == .active && m.player.isNone && (m.playback == .cueing || m.playback == .paused) && decide (0 < s.heardCount h)
  | none => false

/-- Between waiting messages the higher level goes first, and among equals the one opened earlier (07 R137). -/
def servedBefore (a b : Handle × Call) : Bool :=
  decide (b.2.level < a.2.level) || (a.2.level == b.2.level && decide (a.2.openSeq < b.2.openSeq))

/-- Between messages holding players the lower level is the victim, and among equals the one opened later (07 R137). -/
def stolenBefore (a b : Handle × Call) : Bool :=
  decide (a.2.level < b.2.level) || (a.2.level == b.2.level && decide (b.2.openSeq < a.2.openSeq))

/-- The waiting message the arbiter serves next (07 R137). -/
def State.nextWaiting (s : State) : Option (Handle × Call) :=
  pickBy servedBefore (s.records.filter fun r => s.messageWaits r.1 r.2)

/-- The lowest-numbered IDLE player (07 R133). -/
def State.idlePlayer (s : State) : Option Nat := (List.range 4).find? fun i => (s.player i).call.isNone

/-- A message takes a player at the start of the phrase at its index (07 R133). -/
def State.giveToMessage (s : State) (i : Nat) (h : Handle) (m : MessagePart) : State :=
  (s.setPlayer i ⟨some h, m.phrases[m.index]?, m.offset, false, 0⟩).updCall h fun c =>
    { c with part := .message { m with player := some i, playback := .playing } }

/-- At most `n` rounds of the arbiter: an IDLE player goes to the waiting message that is first in order (07 R137). -/
def State.serveRounds : Nat → State → State
  | 0, s => s
  | n + 1, s =>
    match s.idlePlayer, s.nextWaiting with
    | some i, some (h, c) =>
      match c.message with
      | some m => State.serveRounds n (s.giveToMessage i h m)
      | none => s
    | _, _ => s

/-- The arbiter serves waiting messages; there are four players (07 R137). -/
def State.servePlayers (s : State) : State := State.serveRounds 4 s

/-- A freed player goes to the arbiter at once, before anything else of the event that freed it (07 R137, R138; log 15). -/
def State.releasePlayer (s : State) (i : Nat) : State := (s.freePlayer i).servePlayers

/-- A message is paused: rewound to the start of its phrase, its player freed (07 R134). -/
def State.pauseMessage (s : State) (h : Handle) (m : MessagePart) : State :=
  let s := match m.player with
    | some i => s.freePlayer i
    | none => s
  s.updCall h fun c => { c with part := .message { m with offset := 0, player := none, playback := .paused } }

/-- A message holding a player whose heard count has fallen to 0 is paused (07 R134). -/
def State.pauseIfUnheard (s : State) (h : Handle) : State :=
  match s.call h with
  | some c =>
    match c.message with
    | some m => if m.player.isSome && decide (s.heardCount h = 0) then s.pauseMessage h m else s
    | none => s
  | none => s

/-- Every unheard message is paused (07 R134). -/
def State.pauseUnheard (s : State) : State := s.handles.foldl State.pauseIfUnheard s

/-- The message an asking ALARM takes a player from, when none is IDLE (07 R137). -/
def State.victim (s : State) : Option (Handle × Call) :=
  pickBy stolenBefore (s.records.filter fun r => r.2.message.any (·.player.isSome))

/-- The player an ALARM receives, with the state after a theft if one was needed (07 R137). -/
def State.playerForAlarm (s : State) : State × Option Nat :=
  match s.idlePlayer with
  | some i => (s, some i)
  | none =>
    match s.victim with
    | some (h, c) =>
      match c.message with
      | some m => (s.pauseMessage h m, m.player)
      | none => (s, none)
    | none => (s, none)

end Sys2Proof.Machine
end

