-- ==== Sys2Proof/Machine/Sequencer.lean ====
section
/-! DEFINITION. The Alarm Sequencer's steps and tone generators (08 section 8.4). -/

namespace Sys2Proof.Machine

/-! ## Tone generators (08 R151) -/

/-- The phase increment of a frequency: floor(f * 2^32 / 48,000 + 1/2) (08 R151). -/
def toneIncrement (f : Nat) : BitVec 32 := BitVec.ofNat 32 ((f * 4294967296 + 24000) / 48000)

/-- The triangle value t of a phase (08 R151, stages 1 and 2). -/
def triangle (p : BitVec 32) : Int :=
  if p.toNat / 256 < 8388608 then 2 * ((p.toNat / 256 : Nat) : Int) - 8388608 else 25165823 - 2 * ((p.toNat / 256 : Nat) : Int)

/-- The generator's output at a tone level (08 R151, stage 3). -/
def toneOutput (p : BitVec 32) (level : Nat) : Int := (triangle p * (level : Int)).fdiv 32768

/-- The step kinds that sound the generator (08 R151). -/
def StepKind.sounds : StepKind → Bool
  | .tone => true
  | .silence => false
  | .phrase => false
  | .substituted => true

/-! ## Beginning a step (08 R150, R152, R153) -/

/-- Frames of a number of milliseconds (08 R150). -/
def framesOfMs (ms : Nat) : Nat := Config.framesPerMs * ms

/-- The length in ms of the tone in place of `n` stored samples: n / 24 rounded half up, at least 10 (08 R153). -/
def substitutedMs (n : Nat) : Nat := max 10 ((n + 12) / 24)

/-- The tone in place of a phrase whose entry is not VERIFIED: 3,000 ms for an EMPTY one (08 R153). -/
def Phrase.substituteMs (e : Phrase) : Nat := if e.state = .empty then 3000 else substitutedMs e.length

/-- A position at the start of a TONE or SUBSTITUTED step: a WARBLE program on f1 with 12,000 frames to the switch (08 R152). A STEADY
program's warble half and frames to switch, which have no meaning, are f1 and 0 (DESIGN CHOICE, log 33). -/
def tonePosition (g : AlarmProgram) (rep idx : Nat) (k : StepKind) (frames : Nat) : StepPosition :=
  { repeatNo := rep, index := idx, kind := k, framesLeft := frames, player := none, onF2 := false,
    toSwitch := if g.shape = .warble then Config.warbleFrames else 0 }

/-- A tone begins: phase 0, on f1 (08 R151, R152). -/
def toneStart (g : AlarmProgram) (rep idx : Nat) (k : StepKind) (frames : Nat) : AlarmSeq :=
  ⟨some (tonePosition g rep idx k frames), 0, toneIncrement g.f1⟩

/-- The ALARM part of a record (02 R23). -/
def Call.alarm (c : Call) : Option AlarmPart :=
  match c.part with
  | .alarm a => some a
  | _ => none

/-- The phrase-substituted flag of an alarm is set (08 R153). -/
def State.markSubstituted (s : State) (h : Handle) : State :=
  s.updCall h fun c =>
    match c.part with
    | .alarm a => { c with part := .alarm { a with substituted := true } }
    | _ => c

/-- A PHRASE step begins on a VERIFIED phrase: the alarm receives a player at once (07 R137, R138; 08 R153). The position fields that
have no meaning in it are 0 and f1 (DESIGN CHOICE, log 33). -/
def State.beginPhrase (s : State) (h : Handle) (rep idx id : Nat) : State :=
  let r := s.playerForAlarm
  let s := match r.2 with
    | some i => r.1.setPlayer i ⟨some h, some id, 0, false, 0⟩
    | none => r.1
  s.setAlarmSeq h.slot { s.alarmSeq h.slot with
    position := some { repeatNo := rep, index := idx, kind := .phrase, framesLeft := 0, player := r.2, onF2 := false, toSwitch := 0 } }

/-- A step of a running alarm begins (08 R150, R153). In a SILENCE step the warble half and the frames to switch are f1 and 0 (DESIGN
CHOICE, log 33). -/
def State.beginStep (s : State) (h : Handle) (g : AlarmProgram) (rep idx : Nat) : State :=
  match g.steps[idx]? with
  | none => s
  | some (.tone ms) => s.setAlarmSeq h.slot (toneStart g rep idx .tone (framesOfMs ms))
  | some (.silence ms) =>
    s.setAlarmSeq h.slot { s.alarmSeq h.slot with
      position := some { repeatNo := rep, index := idx, kind := .silence, framesLeft := framesOfMs ms, player := none,
                         onF2 := false, toSwitch := 0 } }
  | some (.phrase id) =>
    if (s.phrase id).state = .verified then s.beginPhrase h rep idx id
    else (s.setAlarmSeq h.slot (toneStart g rep idx .substituted (framesOfMs (s.phrase id).substituteMs))).markSubstituted h

/-- The program that a live alarm runs (08 R141 keeps it from changing). -/
def State.programOf (s : State) (h : Handle) : Option AlarmProgram :=
  match s.call h with
  | some c => c.alarm.bind fun a => s.program a.program
  | none => none

/-- An alarm slot after a frame of a tone: the step's frames and the frames to switch count down, and the phase goes on (08 R150 to
R152). -/
def AlarmSeq.sounded (q : AlarmSeq) (x : StepPosition) : AlarmSeq :=
  ⟨some { x with framesLeft := x.framesLeft - 1, toSwitch := x.toSwitch - 1 }, q.phase + q.increment, q.increment⟩

/-- The generator and the counts of an alarm slot after a frame (08 R150, R151, R152). A PHRASE step counts no frames. -/
def AlarmSeq.advance (q : AlarmSeq) : AlarmSeq :=
  match q.position with
  | none => q
  | some x =>
    match x.kind with
    | .tone => q.sounded x
    | .substituted => q.sounded x
    | .silence => { q with position := some { x with framesLeft := x.framesLeft - 1 } }
    | .phrase => q

/-- The frequency of a WARBLE tone changes to the other; the phase goes on (08 R152). -/
def AlarmSeq.switchTone (q : AlarmSeq) (g : AlarmProgram) (x : StepPosition) : AlarmSeq :=
  { q with position := some { x with onF2 := !x.onF2, toSwitch := Config.warbleFrames },
           increment := toneIncrement (if x.onF2 then g.f1 else g.f2) }

end Sys2Proof.Machine
end

