-- ==== Sys2Proof/Machine/Ending.lean ====
section
/-! DEFINITION. A call's entry to ENDING (02 R26), what the Call Table does with an endpoint's reports (03 R58, R59), the
passage to ENDED (02 R27) and to FREE (02 R28). -/

namespace Sys2Proof.Machine

/-- What the endpoints read of the part. -/
def State.ctx (s : State) : EpCtx := ⟨s.mixMode, s.bank, s.calls⟩

/-! ## Sweep answers (02 R33, R35, R36) -/

/-- The data of a delivering sweep's answer: handle, taken, skipped, bumped, heard (02 R33). -/
def Sweep.data (sw : Sweep) (h : Handle) (heard : Nat) : List Byte :=
  byteHandle h ++ byte1 sw.taken ++ byte1 sw.skipped ++ byte1 sw.bumped ++ byte1 heard

/-- The data of a DROP sweep's answer: removed, not listed, the call's state (02 R36). -/
def Sweep.dropData (sw : Sweep) (st : CallState) : List Byte := byte1 sw.removed ++ byte1 sw.notListed ++ byte1 st.code

/-- The answer code of a sweep stopped by its call's entry to ENDING (02 R33, R35, R36; 08 R143). -/
def Sweep.stopCode (sw : Sweep) (t : CallType) (r : EndReason) : AnswerCode :=
  match sw.kind with
  | .opening => if t = .alarm then .unknownCall else if r = .phraseFailed then .notReady else .cleared
  | .add => if r = .cleared then .cleared else .unknownCall
  | .drop => if r = .cleared then .cleared else .unknownCall

/-- The request of a stopped sweep is answered with the counts up to the stop (02 R33, R35, R36). -/
def State.answerStopped (s : State) (h : Handle) (t : CallType) (sw : Sweep) (r : EndReason) : State :=
  if sw.answers then
    s.answer sw.port (sw.stopCode t r) (if sw.kind = .drop then sw.dropData .ending else sw.data h 0)
  else s

/-- A sweep that delivers listings is in progress (02 R34). -/
def Call.delivering (c : Call) : Bool := c.sweep.any fun sw => sw.kind != .drop

/-! ## Entry to ENDING (02 R26) -/

/-- The stations whose participants are joined and not muted (04 R74, R76). -/
def State.speakers (s : State) (h : Handle) (ps : List Participant) : List Nat :=
  (ps.filter fun p => (s.ep p.station).fg.any fun a => a.listing.call == h && !a.listing.muted).map (·.station)

/-- The part of a record at its entry to ENDING: a MESSAGE is FINISHED with the position it had (07 R136); a TALK keeps its
speakers and leader for the fade and empties its list (06 R119). -/
def State.endingPart (s : State) (h : Handle) (p : CallPart) : CallPart :=
  match p with
  | .program o lv => .program o lv
  | .page => .page
  | .message m =>
    .message { m with offset := (m.player.map fun i => (s.player i).offset).getD m.offset, player := none, playback := .finished }
  | .talk t =>
    .talk { t with participants := [], kept := s.speakers h t.participants, keptLeader := t.participants.head?.map (·.station) }
  | .alarm a => .alarm a

/-- The player a call holds (07 R131). -/
def State.playerOf (s : State) (h : Handle) : Option Nat := (List.range 4).find? fun i => (s.player i).call == some h

/-- A call's player is freed, if it holds one (02 R26). -/
def State.freePlayerOf (s : State) (h : Handle) : State :=
  match s.playerOf h with
  | some i => s.freePlayer i
  | none => s

/-- The Sequencer's part in an ALARM's ending: position and generator cleared, owners released (08 R155). -/
def State.endAlarm (s : State) (h : Handle) : State :=
  { s.setAlarmSeq h.slot .initial with
    triggers := s.triggers.map fun t => if t.owned = some h then { t with owned := none } else t }

/-- The reports of an endpoint to the Hold Line Unit are taken (05 R102, R103); a loss with cause ENDING changes nothing more. -/
def State.takeInterruption (e : Nat) (s : State) (r : Report) : State :=
  match r with
  | .interruption h o true => s.setHold o ((s.hold o).begins h e)
  | .interruption h o false => s.setHold o ((s.hold o).ends h e)
  | .lost _ _ => s

/-- The ending call's listing leaves endpoint `e` (02 R26, 03 R52). -/
def State.withdrawAt (h : Handle) (cl : ListClass) (s : State) (e : Nat) : State :=
  if (s.ep e).lists h then
    let r := (s.ep e).remove s.ctx cl h .ending
    r.2.foldl (State.takeInterruption e) (s.setEp e r.1)
  else s

/-- The call's listings leave every endpoint (02 R26). -/
def State.withdraw (s : State) (h : Handle) (cl : ListClass) : State :=
  (List.range Config.endpoints).foldl (State.withdrawAt h cl) s

/-- A live call's entry to ENDING: reason, listings, player, hold line, alarm position, sweep (02 R26). -/
def State.enterEnding (s : State) (h : Handle) (c : Call) (r : EndReason) : State :=
  let s1 := s.setRecord h.slot (some { c with state := .ending, reason := some r, sweep := none, part := s.endingPart h c.part })
  let s2 := (s1.freePlayerOf h).withdraw h c.type.listClass
  let s3 := s2.unbindHold h c
  let s4 := if c.type = .alarm then s3.endAlarm h else s3
  match c.sweep with
  | some sw => s4.answerStopped h c.type sw r
  | none => s4

/-- A cause of ENDING reaches a call; one that is ENDING or ENDED keeps its reason (02 R25). -/
def State.endCall (s : State) (h : Handle) (r : EndReason) : State :=
  match s.call h with
  | some c => if c.state.live then s.enterEnding h c r else s
  | none => s

/-! ## Reports of losses (03 R58, R59) -/

/-- A station leaves a TALK call's list with its listing (06 R108). -/
def Call.dropParticipant (c : Call) (e : Nat) : Call :=
  match c.part with
  | .talk t => { c with part := .talk { t with participants := t.participants.filter (·.station ≠ e) } }
  | _ => c

/-- A bump is counted by the call's delivering sweep (02 R32, 03 R50, R65; log 13). -/
def Call.countBump (c : Call) : Call :=
  if c.delivering then { c with sweep := c.sweep.map fun sw => { sw with bumped := sw.bumped + 1 } } else c

/-- The end reason of a last loss (03 R59). -/
def Cause.reason : Cause → EndReason
  | .bump => .displaced
  | .drop => .noTargets
  | .disable => .noTargets
  | .ending => .noTargets

/-- The loss of a last listing ends the call, unless a delivering sweep keeps the cause for its end (02 R34, 03 R59). -/
def State.lastLoss (s : State) (h : Handle) (k : Cause) : State :=
  match s.call h with
  | none => s
  | some c =>
    if s.listingCount h = 0 then
      if c.delivering then
        s.updCall h fun c => { c with sweep := c.sweep.map fun sw => { sw with lastLoss := some k.reason } }
      else s.endCall h k.reason
    else s

/-- The Call Table takes a report of endpoint `e` (03 R58, R59). A DROP's own test follows in its sweep (02 R36). -/
def State.takeReport (e : Nat) (s : State) (r : Report) : State :=
  match r with
  | .interruption h o b => s.takeInterruption e (.interruption h o b)
  | .lost h .bump => (s.updCall h fun c => (c.dropParticipant e).countBump).lastLoss h .bump
  | .lost h .disable => (s.updCall h fun c => c.dropParticipant e).lastLoss h .disable
  | .lost h .drop => s.updCall h fun c => c.dropParticipant e
  | .lost _ .ending => s

/-- An endpoint takes one event, and its reports are taken in order (03 R58). -/
def State.atEndpoint (s : State) (e : Nat) (f : EpCtx → Endpoint → Endpoint × List Report) : State :=
  let r := f s.ctx (s.ep e)
  r.2.foldl (State.takeReport e) (s.setEp e r.1)

/-! ## ENDED and FREE (02 R27, R28) -/

/-- An ENDING call with no term above 0 becomes ENDED and its expiry timer starts (02 R27, R28). -/
def State.endFadedAt (s : State) (h : Handle) : State :=
  match s.call h with
  | some c =>
    if c.state = .ending ∧ s.sounds h = false then
      let s1 := s.setRecord h.slot (some { c with state := .ended, endSeq := s.seq })
      State.nextSeq { s1 with expiries := s1.expiries ++ [⟨h.slot, h.gen, .ofMs 5000⟩] }
    else s
  | none => s

/-- Every faded call becomes ENDED, in slot order (log 16). -/
def State.endFaded (s : State) : State := s.handles.foldl State.endFadedAt s

/-- A record becomes FREE; a timer it may still have is left to find it gone (02 R28). -/
def State.freeRecord (s : State) (h : Handle) : State := s.setRecord h.slot none

/-- The expiry timer of a record is stopped (02 R43). -/
def State.stopExpiry (s : State) (h : Handle) : State :=
  { s with expiries := s.expiries.filter fun x => !(x.slot == h.slot && x.gen == h.gen) }

end Sys2Proof.Machine
end

