-- ==== Sys2Proof/Machine/Starting.lean ====
section
/-! DEFINITION. Taking a call slot (02 R31, R43), the start of an alarm with its displacement (08 section 8.2), the retry of
pending trigger starts (08 R147), and the settling of the Call Table at the end of an event. -/

namespace Sys2Proof.Machine

/-! ## Taking a slot -/

/-- A FREE slot is taken: its generation is increased by one, modulo 256 (02 R21). -/
def State.takeSlot (s : State) (i : Nat) (c : Call) : State :=
  State.nextSeq { s with calls := s.calls.set i ⟨((s.slot i).gen + 1) % 256, some { c with openSeq := s.seq }⟩ }

/-- The lowest-numbered FREE general slot (02 R20). -/
def State.freeGeneral (s : State) : Option Nat := (List.range Config.generalSlots).find? fun i => (s.slot i).record.isNone

/-- The alarm slots (02 R20). -/
def alarmSlots : List Nat := [60, 61, 62, 63]

/-- The lowest-numbered FREE alarm slot (02 R43). -/
def State.freeAlarm (s : State) : Option Nat := alarmSlots.find? fun i => (s.slot i).record.isNone

/-- A sweep at its start (02 R31). -/
def Sweep.start (k : SweepKind) (p : Port) (answers : Bool) (rest : List Nat) (skipped : Nat) : Sweep :=
  { kind := k, port := p, answers, rest, taken := 0, skipped, bumped := 0, removed := 0, notListed := 0, lastLoss := none,
    displaced := none }

/-! ## Displacement (08 R144) -/

/-- The records in the alarm slots. -/
def State.alarmRecords (s : State) : List (Handle × Call) :=
  alarmSlots.filterMap fun i => (s.slot i).record.map (s.handleOf i, ·)

/-- The live call of a program, OPENING or ACTIVE (08 R143). -/
def State.liveCallOf (s : State) (id : Nat) : Option Handle :=
  (s.alarmRecords.find? fun r => r.2.state.live && r.2.alarm.any (·.program == id)).map (·.1)

/-- The record to displace for an alarm of a level (08 R144). -/
def State.toDisplace (s : State) (level : Nat) : Option (Handle × Call) :=
  match pickBy (fun a b => decide (a.2.endSeq < b.2.endSeq)) (s.alarmRecords.filter (·.2.state = .ended)) with
  | some r => some r
  | none => (pickBy stolenBefore (s.alarmRecords.filter (·.2.state.live))).filter (·.2.level < level)

/-- An alarm record is displaced and freed at once, with its handle and end reason (02 R43, 08 R144). The player of one that was
live is freed, and the arbiter gives it on before the slot is taken again (07 R137, R138; 08 R155; log 15). -/
def State.displace (s : State) (h : Handle) (c : Call) : State × (Handle × EndReason) :=
  if c.state = .ended then ((s.stopExpiry h).freeRecord h, (h, c.reason.getD .displaced))
  else (((s.endCall h .displaced).freeRecord h).servePlayers, (h, .displaced))

/-- The slot of a new alarm, with the record displaced for it, if one can be had (08 R144). -/
def State.obtainAlarmSlot (s : State) (level : Nat) : Option (State × Nat × Option (Handle × EndReason)) :=
  match s.freeAlarm with
  | some i => some (s, i, none)
  | none =>
    match s.toDisplace level with
    | some (h, c) => some ((s.displace h c).1, h.slot, some (s.displace h c).2)
    | none => none

/-! ## Starting an alarm (08 R143, R147) -/

/-- What a start comes to: the answer code with its data, the state, and the handle of a call it opened. -/
structure StartResult where
  code : AnswerCode
  data : List Byte
  state : State
  opened : Option Handle

/-- The record of a new alarm (02 R43). -/
def Call.newAlarm (p : Port) (id : Nat) (g : AlarmProgram) (sw : Sweep) : Call :=
  { level := g.level, opener := p, locked := true, state := .opening, gain := Config.unity, ramp := 0, lanes := [],
    sweep := some sw, listingCount := 0, heardCount := 0, reason := none,
    part := .alarm { program := id, substituted := false, unserved := 0 }, openSeq := 0, endSeq := 0 }

/-- The alarm is opened in a slot and its first step begins (08 R143 step 6, R150). -/
def State.openAlarm (s : State) (p : Port) (id : Nat) (g : AlarmProgram) (sw : Sweep) (i : Nat) : State :=
  let s := s.takeSlot i (Call.newAlarm p id g sw)
  s.beginStep (s.handleOf i) g 1 0

/-- The start of program `g` with id `id`, once it has no live call (08 R143 steps 3 to 6). -/
def State.startProgram (s : State) (p : Port) (id : Nat) (answers : Bool) (g : AlarmProgram) : StartResult :=
  if !s.geometryReady g.targets then ⟨.notReady, [], s, none⟩
  else
    let x := s.expand .alarm [] (fun _ => false) g.targets
    if x.1 = [] then ⟨.noTargets, byte1 0 ++ byte1 x.2, s, none⟩
    else
      match s.obtainAlarmSlot g.level with
      | none => ⟨.alarmLimit, [], s, none⟩
      | some (s1, i, d) =>
        let s2 := s1.openAlarm p id g { Sweep.start .opening p answers x.1 x.2 with displaced := d } i
        ⟨.ok, [], s2, some (s2.handleOf i)⟩

/-- A start of an alarm, by request or by a trigger input (08 R143, R147). -/
def State.startAlarm (s : State) (p : Port) (id : Nat) (answers : Bool) : StartResult :=
  match s.program id with
  | none => ⟨.badParam, [], s, none⟩
  | some g =>
    match s.liveCallOf id with
    | some h => ⟨.alreadyActive, byteHandle h, s, none⟩
    | none => s.startProgram p id answers g

/-! ## Trigger starts (08 R147) -/

/-- What a try of a start leaves in the trigger's record; a mark that stays set keeps its place (08 R147). -/
def Trigger.afterTry (t : Trigger) (r : StartResult) : Trigger :=
  match r.code with
  | .ok => { t with pending := none, lastResult := some .ok, owned := if t.mode = .held then r.opened else t.owned }
  | .alarmLimit => { t with pending := some (t.pending.getD r.state.seq), lastResult := some .alarmLimit }
  | a => { t with pending := none, lastResult := some a }

/-- An input tries to start its bound program, the Bridge Port as opener (08 R147). -/
def State.tryTrigger (s : State) (i : Nat) : State :=
  let r := s.startAlarm .bridge (s.trigger i).program false
  (r.state.setTrigger i ((r.state.trigger i).afterTry r)).nextSeq

/-- Insert an input into a list ordered by the stamps of the pending marks. -/
def insertByStamp (x : Nat × Nat) : List (Nat × Nat) → List (Nat × Nat)
  | [] => [x]
  | y :: ys => if x.1 < y.1 then x :: y :: ys else y :: insertByStamp x ys

/-- The pending inputs in the order in which their marks were set (08 R147). -/
def State.pendingInputs (s : State) : List Nat :=
  (((List.range 4).filterMap fun i => (s.trigger i).pending.map (·, i)).foldr insertByStamp []).map (·.2)

/-- The pending starts are tried, each against the slots the earlier tries have left (08 R147; log 14). -/
def State.retryPending (s : State) : State := s.pendingInputs.foldl State.tryTrigger s

/-! ## The end of an event -/

/-- Between two states an alarm slot's record left OPENING or ACTIVE, or became FREE (08 R147). -/
def alarmReleased (s0 s : State) : Bool :=
  alarmSlots.any fun i =>
    match (s0.slot i).record with
    | none => false
    | some c0 =>
      match (s.slot i).record with
      | none => true
      | some c => (s0.slot i).gen != (s.slot i).gen || (c0.state.live && !c.state.live)

/-- Unheard messages are paused (07 R134), faded calls become ENDED (02 R27) and the arbiter serves waiting messages (07 R137). -/
def State.settleCalls (s : State) : State := s.pauseUnheard.endFaded.servePlayers

/-- What follows in the same event from what a command did to the calls and endpoints: `s0` is the state before it. -/
def settle (s0 s : State) : State :=
  let s1 := s.settleCalls
  let s2 := if alarmReleased s0 s1 then s1.retryPending.settleCalls else s1
  s2.refresh

end Sys2Proof.Machine
end

