-- ==== Sys2Proof/Machine/Sweeps.lean ====
section
/-! DEFINITION. The sweeps: one endpoint of a delivering sweep, one removal of a DROP sweep, and their ends (02 sections 2.4,
2.5). -/

namespace Sys2Proof.Machine

/-- Change the sweep of a call. -/
def State.updSweep (s : State) (h : Handle) (f : Sweep → Sweep) : State :=
  s.updCall h fun c => { c with sweep := c.sweep.map f }

/-- The sweep field of a call becomes none. -/
def State.dropSweep (s : State) (h : Handle) : State := s.updCall h fun c => { c with sweep := none }

/-- A sweep's request is answered; a trigger start has none (08 R147). -/
def State.answerSweep (s : State) (sw : Sweep) (a : AnswerCode) (data : List Byte) : State :=
  if sw.answers then s.answer sw.port a data else s

/-- The displaced record that a START_ALARM's OK answer carries (08 R143; layout log 18). -/
def Sweep.displacedData (sw : Sweep) : List Byte :=
  match sw.displaced with
  | some (h, r) => byteHandleOpt (some h) ++ byteOpt byte1 (some r.code)
  | none => byteHandleOpt none ++ byteOpt byte1 none

/-- The OK data of a delivering sweep; an alarm's opening adds the displaced record (02 R33, 08 R143). -/
def Sweep.okData (sw : Sweep) (h : Handle) (t : CallType) (heard : Nat) : List Byte :=
  sw.data h heard ++ if t = .alarm ∧ sw.kind = .opening then sw.displacedData else []

/-! ## Delivery (02 R32) -/

/-- The participant list is full (02 R32). -/
def Call.talkFull (c : Call) : Bool :=
  match c.part with
  | .talk t => decide (Config.participantCap ≤ t.participants.length)
  | _ => false

/-- The sweep skips an endpoint when it reaches it (01 R16, 02 R32). -/
def Call.skips (c : Call) (ep : Endpoint) : Bool := (!ep.enabled && c.type != .alarm) || c.talkFull

/-- A station joins the end of a TALK call's list with its muted flag clear (06 R108). -/
def Call.addParticipant (c : Call) (e : Nat) : Call :=
  match c.part with
  | .talk t => { c with part := .talk { t with participants := t.participants ++ [⟨e, false⟩] } }
  | _ => c

/-- The listing a sweep delivers (03 R45). -/
def Call.newListing (c : Call) (h : Handle) : Listing := ⟨h, c.type, c.level, none, false, false, none⟩

/-- The next endpoint of a delivering sweep: skipped and counted, or delivered a listing (02 R32). -/
def State.deliver (s : State) (h : Handle) (c : Call) (e : Nat) (rest : List Nat) : State :=
  if c.skips (s.ep e) then s.updSweep h fun sw => { sw with rest, skipped := sw.skipped + 1 }
  else
    let s1 := (s.updSweep h fun sw => { sw with rest, taken := sw.taken + 1, lastLoss := none }).updCall h
      (·.addParticipant e)
    s1.atEndpoint e fun x ep => ep.arrive x c.type.listClass (c.newListing h)

/-! ## The end of a delivering sweep (02 R33, R34, R35) -/

/-- The opening sweep has passed its last endpoint (02 R33). -/
def State.endOpening (s : State) (h : Handle) (c : Call) (sw : Sweep) : State :=
  if 0 < s.listingCount h then
    (s.updCall h fun c => { c with state := .active, sweep := none }).answerSweep sw .ok
      (sw.okData h c.type (s.heardCount h))
  else if sw.taken = 0 then
    ((s.unbindHold h c).freeRecord h).answerSweep sw .noTargets (sw.data h 0)
  else ((s.dropSweep h).answerSweep sw .noTargets (sw.data h 0)).endCall h (sw.lastLoss.getD .displaced)

/-- An ADD sweep has passed its last endpoint (02 R34, R35). -/
def State.endAdd (s : State) (h : Handle) (c : Call) (sw : Sweep) : State :=
  let s1 := (s.dropSweep h).answerSweep sw .ok (sw.okData h c.type (s.heardCount h))
  if 0 < s.listingCount h then s1 else s1.endCall h (sw.lastLoss.getD .displaced)

/-- A delivering sweep with no endpoint left ends (02 R33, R35). -/
def State.endDelivery (s : State) (h : Handle) : State :=
  match s.call h with
  | none => s
  | some c =>
    match c.sweep with
    | none => s
    | some sw =>
      if sw.rest = [] then
        match sw.kind with
        | .opening => s.endOpening h c sw
        | .add => s.endAdd h c sw
        | .drop => s
      else s

/-- One turn of a delivering sweep. -/
def State.sweepTurn (s : State) (h : Handle) (c : Call) (rest : List Nat) : State :=
  match rest with
  | [] => s.endDelivery h
  | e :: es => (s.deliver h c e es).endDelivery h

/-! ## A DROP sweep (02 R36) -/

/-- A DROP sweep ends or stops with its OK answer (02 R36). -/
def State.endDrop (s : State) (h : Handle) (st : CallState) : State :=
  match (s.call h).bind (·.sweep) with
  | none => s
  | some sw => (s.dropSweep h).answerSweep sw .ok (sw.dropData st)

/-- The call is left without listings, or a TALK with fewer than two (02 R36). -/
def State.dropEnds (s : State) (h : Handle) (c : Call) : Bool :=
  decide (s.listingCount h = 0) || (c.type == .talk && decide (s.listingCount h < 2))

/-- One turn of a DROP sweep at its next endpoint (02 R36). -/
def State.dropTurn (s : State) (h : Handle) (c : Call) (rest : List Nat) : State :=
  match rest with
  | [] => s.endDrop h .active
  | e :: es =>
    if (s.ep e).lists h then
      let s1 := (s.updSweep h fun sw => { sw with rest := es, removed := sw.removed + 1 }).atEndpoint e fun x ep =>
        ep.remove x c.type.listClass h .drop
      if s1.dropEnds h c then (s1.endDrop h .ending).endCall h .noTargets
      else if es = [] then s1.endDrop h .active else s1
    else
      let s1 := s.updSweep h fun sw => { sw with rest := es, notListed := sw.notListed + 1 }
      if es = [] then s1.endDrop h .active else s1

/-! ## The sweep commands -/

/-- The sweep's port may have the Call Table's next turn; a trigger's sweep is no port's (10 R185; log 5). -/
def State.sweepHasTurn (s : State) (sw : Sweep) : Bool := !sw.answers || s.hasTurn sw.port .callTable
/-- A port's sweep is served a turn; a trigger's sweep sets no mark (10 R185; log 5). -/
def State.serveSweep (s : State) (sw : Sweep) : State := if sw.answers then s.serve sw.port .callTable else s

/-- SWEEP_DELIVERY: the delivering sweep of the call in a slot reaches its next endpoint, if it has the turn (02 R32). -/
def execSweepDelivery (i : Nat) (s : State) : Host.Outcome State Fault Refusal :=
  .next <|
    match (s.slot i).record with
    | none => s
    | some c =>
      match c.sweep with
      | none => s
      | some sw =>
        if sw.kind ≠ .drop ∧ s.sweepHasTurn sw then settle s ((s.serveSweep sw).sweepTurn (s.handleOf i) c sw.rest) else s

/-- DROP_SWEEP_REMOVAL: the DROP sweep of the call in a slot reaches its next endpoint, if it has the turn (02 R36). -/
def execDropSweepRemoval (i : Nat) (s : State) : Host.Outcome State Fault Refusal :=
  .next <|
    match (s.slot i).record with
    | none => s
    | some c =>
      match c.sweep with
      | none => s
      | some sw =>
        if sw.kind = .drop ∧ s.sweepHasTurn sw then settle s ((s.serveSweep sw).dropTurn (s.handleOf i) c sw.rest) else s

end Sys2Proof.Machine
end

