-- ==== Sys2Proof/Machine/Calls.lean ====
section
/-! DEFINITION. The requests on calls (02; 06 R112) and the expiry of an ENDED record (02 R28). -/

namespace Sys2Proof.Machine

/-- A refused request is answered with a code and no data (10 R179). -/
def State.refuse (s : State) (p : Port) (a : AnswerCode) : State := s.answer p a []

/-! ## The checks of a handle (02 R21, R24, R38) -/

/-- The call a request names, or the answer of the first check that fails: slot, generation, state, lock (02 R38). `gate` is
the state's answer, none where the request is taken; `changes` says that the lock applies. -/
def State.callFor (s : State) (p : Port) (h : Handle) (gate : Call → Option AnswerCode) (changes : Bool) :
    Except AnswerCode Call :=
  if 63 < h.slot then .error .badParam
  else
    match s.call h with
    | none => .error .unknownCall
    | some c =>
      match gate c with
      | some a => .error a
      | none => if changes ∧ c.locked ∧ p = .system then .error .locked else .ok c

/-- ADD_TARGETS and DROP_TARGETS by the call's state (02 R24). -/
def gateSweep (c : Call) : Option AnswerCode :=
  match c.state with
  | .opening => some .notReady
  | .active => if c.sweep.isSome then some .notReady else none
  | .ending => some .unknownCall
  | .ended => some .unknownCall
/-- RETIRE_CALL by the call's state (02 R24). -/
def gateRetire (c : Call) : Option AnswerCode :=
  match c.state with
  | .opening => some .notReady
  | .active => none
  | .ending => some .unknownCall
  | .ended => some .unknownCall
/-- SET_CALL_GAIN and SET_PARTICIPANT by the call's state (02 R24, 06 R112). -/
def gateLive (c : Call) : Option AnswerCode := if c.state.live then none else some .unknownCall
/-- COLLECT_END by the call's state (02 R24, R41). -/
def gateCollect (c : Call) : Option AnswerCode := if c.state = .ended then none else some .notReady
/-- QUERY_CALL is taken in every state (02 R24, R42). -/
def gateAny (_ : Call) : Option AnswerCode := none

/-! ## OPEN_CALL (02 section 2.4) -/

/-- The source lanes and the part of a new call, none where a source field is out of its range (02 R30). -/
def openSource (f : OpenFields) (t : CallType) : Option (List Nat × CallPart) :=
  match t with
  | .page => if f.lane1 ≤ 63 then some ([f.lane1], .page) else none
  | .program =>
    if f.lane1 ≤ 63 ∧ (f.lane2 ≤ 63 ∨ f.lane2 = 255) ∧ (f.holdLine ≤ 3 ∨ f.holdLine = 255) then
      some (if f.lane2 = 255 then [f.lane1] else [f.lane1, f.lane2],
            .program (if f.holdLine = 255 then none else some f.holdLine) (clampTo 8 15 (f.holdLevel.getD 8)))
    else none
  | .message =>
    if 1 ≤ f.phraseCount ∧ f.phraseCount ≤ 8 ∧ (f.phraseIds.take f.phraseCount).all (fun i => decide (i ≤ 127)) ∧
        f.repeatCount ≤ 15 ∧ f.repeatGap ≤ 10000 then
      some ([], .message { phrases := f.phraseIds.take f.phraseCount, repeatCount := f.repeatCount, repeatGap := f.repeatGap,
                           index := 0, offset := 0, repeatNo := 1, player := none, playback := .cueing })
    else none
  | .talk => (Duplex.ofCode f.duplex).map fun d => ([], .talk { duplex := d, participants := [], kept := [], keptLeader := none })
  | .alarm => none

/-- Every phrase of a MESSAGE is VERIFIED (02 R29 step 4). -/
def State.phrasesVerified (s : State) (part : CallPart) : Bool :=
  match part with
  | .message m => m.phrases.all fun i => (s.phrase i).state == .verified
  | _ => true

/-- The record of a new call (02 R23). -/
def openRecord (f : OpenFields) (p : Port) (t : CallType) (lanes : List Nat) (part : CallPart) (sw : Sweep) : Call :=
  { level := clampLevel t f.level, opener := p, locked := false, state := .opening, gain := f.gain.getD Config.unity,
    ramp := f.ramp.getD (defaultRamp t), lanes, sweep := some sw, listingCount := 0, heardCount := 0, reason := none, part,
    openSeq := 0, endSeq := 0 }

/-- The binding of a new PROGRAM call to its hold output (05 R101). -/
def State.bindHold (s : State) (h : Handle) (c : Call) : State :=
  match c.holdLine with
  | some o => s.setHold o ((s.hold o).bind h)
  | none => s

/-- The least number of endpoints an expansion must list (02 R29 step 5). -/
def leastTargets (t : CallType) : Nat := if t = .talk then 2 else 1

/-- A call is opened in a slot: the record is written, its binding reported, and its sweep begins (02 R31). -/
def State.openIn (s : State) (p : Port) (i : Nat) (c : Call) : State :=
  let s1 := s.takeSlot i c
  (s1.bindHold (s1.handleOf i) c).enterPhase p (.sweeping i)

/-- OPEN_CALL of a type with its source and target list: steps 4 to 6 of R29. -/
def State.openWith (s : State) (p : Port) (f : OpenFields) (t : CallType) (lanes : List Nat) (part : CallPart)
    (ts : List Target) : State :=
  if !s.phrasesVerified part then s.refuse p .notReady
  else
    let x := s.expand t lanes (fun _ => false) ts
    if x.1.length < leastTargets t then s.answer p .noTargets (byte1 0 ++ byte1 x.2)
    else
      match s.freeGeneral with
      | none => s.refuse p .tableFull
      | some i => s.openIn p i (openRecord f p t lanes part (Sweep.start .opening p true x.1 x.2))

/-- The Call Table takes an OPEN_CALL (02 R29). -/
def takeOpenCall (p : Port) (f : OpenFields) (s : State) : State :=
  match CallType.ofCode f.type with
  | none => s.refuse p .badParam
  | some t =>
    match openSource f t with
    | none => s.refuse p .badParam
    | some (lanes, part) =>
      if 7 < f.ramp.getD 0 then s.refuse p .badParam
      else
        match s.checkTargets f.targets with
        | .error a => s.refuse p a
        | .ok ts => s.openWith p f t lanes part ts

/-- OPEN_CALL (02 R29 to R31). -/
def execOpenCall (p : Port) (tag : Nat) (fields : OpenFields) (s : State) : Host.Outcome State Fault Refusal :=
  .next (s.request p .callTable (.openCall p tag fields) (takeOpenCall p fields))

/-! ## ADD_TARGETS and DROP_TARGETS (02 R35, R36) -/

/-- A sweep begins on an ACTIVE call for a port's request (02 R35, R36). -/
def State.beginSweep (s : State) (p : Port) (h : Handle) (sw : Sweep) : State :=
  (s.updCall h fun c => { c with sweep := some sw }).enterPhase p (.sweeping h.slot)

/-- The Call Table takes an ADD_TARGETS (02 R35). -/
def takeAddTargets (p : Port) (h : Handle) (ds : List Descriptor) (s : State) : State :=
  match s.callFor p h gateSweep true with
  | .error a => s.refuse p a
  | .ok c =>
    match s.checkTargets ds with
    | .error a => s.refuse p a
    | .ok ts =>
      let x := s.expand c.type c.lanes (fun e => (s.ep e).lists h) ts
      if x.1 = [] then s.answer p .noTargets (byte1 x.2) else s.beginSweep p h (Sweep.start .add p true x.1 x.2)

/-- ADD_TARGETS (02 R35). -/
def execAddTargets (p : Port) (tag : Nat) (call : Handle) (targets : List Descriptor) (s : State) :
    Host.Outcome State Fault Refusal :=
  .next (s.request p .callTable (.addTargets p tag call targets) (takeAddTargets p call targets))

/-- The Call Table takes a DROP_TARGETS (02 R36). -/
def takeDropTargets (p : Port) (h : Handle) (ds : List Descriptor) (s : State) : State :=
  match s.callFor p h gateSweep true with
  | .error a => s.refuse p a
  | .ok c =>
    match s.checkTargets ds with
    | .error a => s.refuse p a
    | .ok ts =>
      let sw := Sweep.start .drop p true (s.expandAll ts) 0
      if s.expandAll ts = [] then s.answer p .ok (sw.dropData c.state) else s.beginSweep p h sw

/-- DROP_TARGETS (02 R36). -/
def execDropTargets (p : Port) (tag : Nat) (call : Handle) (targets : List Descriptor) (s : State) :
    Host.Outcome State Fault Refusal :=
  .next (s.request p .callTable (.dropTargets p tag call targets) (takeDropTargets p call targets))

/-! ## SET_CALL_GAIN (02 R37) -/

/-- The call's term takes a new target at every endpoint that admits it (02 R37, 04 R80). -/
def State.refitCall (s : State) (h : Handle) (cl : ListClass) : State :=
  { s with endpoints := s.endpoints.map fun ep => if ep.admits h then ep.refit s.ctx cl else ep }

/-- The call gain is set (02 R37). -/
def State.setGain (s : State) (h : Handle) (c : Call) (g : Nat) : State :=
  (s.updCall h fun c => { c with gain := g }).refitCall h c.type.listClass

/-- The override of the listing at an endpoint is set or cleared (02 R37). -/
def State.setOverride (s : State) (h : Handle) (c : Call) (e : Nat) (g : Option Nat) : State :=
  let ep := (s.ep e).updListing h fun l => { l with override := g }
  s.setEp e (if ep.admits h then ep.refit s.ctx c.type.listClass else ep)

/-- The Call Table takes a SET_CALL_GAIN (02 R37; action codes 10 R178). -/
def takeSetCallGain (p : Port) (h : Handle) (action gain e : Nat) (s : State) : State :=
  match s.callFor p h gateLive true with
  | .error a => s.refuse p a
  | .ok c =>
    match action with
    | 0 => (s.setGain h c gain).answer p .ok []
    | 1 =>
      if e ≤ 175 ∧ (s.ep e).lists h then (s.setOverride h c e (some gain)).answer p .ok [] else s.refuse p .badParam
    | 2 => if e ≤ 175 ∧ (s.ep e).lists h then (s.setOverride h c e none).answer p .ok [] else s.refuse p .badParam
    | _ => s.refuse p .badParam

/-- SET_CALL_GAIN (02 R37). -/
def execSetCallGain (p : Port) (tag : Nat) (call : Handle) (action gain endpoint : Nat) (s : State) :
    Host.Outcome State Fault Refusal :=
  .next (s.request p .callTable (.setCallGain p tag call action gain endpoint) (takeSetCallGain p call action gain endpoint))

/-! ## RETIRE_CALL (02 R39, 08 R154) -/

/-- A HELD input whose debounced level is ACTIVE owns the call (08 R154). -/
def State.heldInputOwns (s : State) (h : Handle) : Bool :=
  s.triggers.cells.any fun t => t.owned == some h && t.mode == .held && t.debounced

/-- The Call Table takes a RETIRE_CALL (02 R39). -/
def takeRetireCall (p : Port) (h : Handle) (s : State) : State :=
  match s.callFor p h gateRetire true with
  | .error a => s.refuse p a
  | .ok _ => if s.heldInputOwns h then s.refuse p .inUse else settle s ((s.answer p .ok []).endCall h .retired)

/-- RETIRE_CALL (02 R39). -/
def execRetireCall (p : Port) (tag : Nat) (call : Handle) (s : State) : Host.Outcome State Fault Refusal :=
  .next (s.request p .callTable (.retireCall p tag call) (takeRetireCall p call))

/-! ## QUERY_CALL (02 R42; layout log 18) -/

/-- The playback position of a message; while it holds a player the offset is the player's (07 section 7.5). -/
def State.messageOffset (s : State) (m : MessagePart) : Nat := (m.player.map fun i => (s.player i).offset).getD m.offset

/-- The bytes of a step position (08 R150). -/
def StepPosition.data (x : StepPosition) : List Byte :=
  byte2 x.repeatNo ++ byte1 x.index ++ byte1 x.kind.code ++ byte3 x.framesLeft ++ byteOpt byte1 x.player ++ byteFlag x.onF2 ++
  byte2 x.toSwitch

/-- An optional step position: a presence byte, then the position or zeros. -/
def positionData (o : Option StepPosition) : List Byte :=
  match o with
  | some x => byte1 1 ++ x.data
  | none => byte1 0 ++ List.replicate 12 0

/-- The bytes of the part that belongs to the call's type (02 R23, R42; 08 R156; layout log 18). -/
def State.partData (s : State) (h : Handle) (part : CallPart) : List Byte :=
  match part with
  | .program o lv => byteOpt byte1 o ++ byte1 lv
  | .page => []
  | .message m =>
    byteList byte1 m.phrases ++ byte1 m.repeatCount ++ byte2 m.repeatGap ++ byte1 m.index ++ byte3 (s.messageOffset m) ++
    byte2 m.repeatNo ++ byteOpt byte1 m.player ++ byte1 m.playback.code
  | .talk t => byte1 t.duplex.code ++ byteList (fun (x : Participant) => byte1 x.station ++ byteFlag x.muted) t.participants
  | .alarm a => byte1 a.program ++ positionData (s.alarmSeq h.slot).position ++ byteFlag a.substituted ++ byte1 a.unserved

/-- The call's ADMITTED listings. -/
def State.admittedCount (s : State) (h : Handle) : Nat := s.endpoints.cells.countP (·.admits h)
/-- The call's departing terms above 0 (02 R42). -/
def State.departingCount (s : State) (h : Handle) : Nat :=
  (s.endpoints.cells.flatMap Endpoint.departing).countP fun d => d.term.call == h && decide (0 < d.term.applied)

/-- The sweep field as an answer gives it: none, or the kind and its port (02 R23, R42). -/
def sweepData (o : Option Sweep) : List Byte :=
  match o with
  | some sw => byte1 1 ++ byte1 sw.kind.code ++ byte1 (portCode sw.port)
  | none => byte1 0 ++ byte2 0

/-- The data of QUERY_CALL (02 R42; layout log 18). -/
def State.callData (s : State) (h : Handle) (c : Call) : List Byte :=
  byteHandle h ++ byte1 c.type.code ++ byte1 c.level ++ byte1 (portCode c.opener) ++ byteFlag c.locked ++ byte1 c.state.code ++
  byte2 c.gain ++ byte1 c.ramp ++ byteList byte1 c.lanes ++ sweepData c.sweep ++ byte1 c.listingCount ++ byte1 c.heardCount ++
  byteOpt byte1 (c.reason.map EndReason.code) ++ s.partData h c.part ++
  byte1 (s.admittedCount h) ++ byte1 (s.listingCount h - s.admittedCount h) ++ byte2 (s.departingCount h)

/-- The Call Table takes a QUERY_CALL (02 R42). -/
def takeQueryCall (p : Port) (h : Handle) (s : State) : State :=
  match s.callFor p h gateAny false with
  | .error a => s.refuse p a
  | .ok c => s.answer p .ok (s.callData h c)

/-- QUERY_CALL (02 R42). -/
def execQueryCall (p : Port) (tag : Nat) (call : Handle) (s : State) : Host.Outcome State Fault Refusal :=
  .next (s.request p .callTable (.queryCall p tag call) (takeQueryCall p call))

/-! ## COLLECT_END (02 R41) and the expiry (02 R28) -/

/-- The data of COLLECT_END: end reason, type, level; another port than the opener reads a mark that the end was not
collected (02 R41; layout log 18). -/
def Call.endData (c : Call) (p : Port) : List Byte :=
  byte1 ((c.reason.map EndReason.code).getD 0) ++ byte1 c.type.code ++ byte1 c.level ++
  if c.opener = p then [] else byte1 1

/-- The Call Table takes a COLLECT_END (02 R41). -/
def takeCollectEnd (p : Port) (h : Handle) (s : State) : State :=
  match s.callFor p h gateCollect false with
  | .error a => s.refuse p a
  | .ok c =>
    let s1 := s.answer p .ok (c.endData p)
    if c.opener = p then settle s (s1.freeRecord h) else s1

/-- COLLECT_END (02 R41). -/
def execCollectEnd (p : Port) (tag : Nat) (call : Handle) (s : State) : Host.Outcome State Fault Refusal :=
  .next (s.request p .callTable (.collectEnd p tag call) (takeCollectEnd p call))

/-- The expiry timer of a record with this handle runs. -/
def State.expiryRuns (s : State) (h : Handle) : Bool := s.expiries.any fun x => x.slot == h.slot && x.gen == h.gen

/-- END_EXPIRY: an expiry timer runs out; the record becomes FREE if it is still ENDED with the timer's generation (02 R28). -/
def execEndExpiry (slot gen : Nat) (s : State) : Host.Outcome State Fault Refusal :=
  .next <|
    if s.expiryRuns ⟨slot, gen⟩ then
      let s1 := s.stopExpiry ⟨slot, gen⟩
      if (s.call ⟨slot, gen⟩).any (·.state == .ended) then settle s (s1.freeRecord ⟨slot, gen⟩) else s1
    else s

/-! ## CLEAR_CALLS (02 R40) -/

/-- The calls CLEAR_CALLS ends: OPENING or ACTIVE and not locked (02 R40). -/
def State.clearable (s : State) : List Handle :=
  s.handles.filter fun h => (s.call h).any fun c => c.state.live && !c.locked

/-- Every call of a list enters ENDING with reason CLEARED (02 R40). The manual gives no order of the endings of one CLEAR_CALLS; they
come in slot order (DESIGN CHOICE, log 34). -/
def State.clearAll (s : State) (hs : List Handle) : State := hs.foldl (fun s h => s.endCall h .cleared) s

/-- The Call Table takes a CLEAR_CALLS (02 R40). -/
def takeClearCalls (p : Port) (s : State) : State :=
  settle s ((s.clearAll s.clearable).answer p .ok (byte1 s.clearable.length))

/-- CLEAR_CALLS (02 R40). -/
def execClearCalls (p : Port) (tag : Nat) (s : State) : Host.Outcome State Fault Refusal :=
  .next (s.request p .callTable (.clearCalls p tag) (takeClearCalls p))

/-! ## SET_PARTICIPANT (06 R112) -/

/-- A participant's entry with a new flag. -/
def Participant.mute (e : Nat) (f : Bool) (x : Participant) : Participant := if x.station = e then { x with muted := f } else x

/-- The flag is written into the participant's entry and the copy on its listing (06 R112). -/
def State.setMuted (s : State) (h : Handle) (t : TalkPart) (e : Nat) (f : Bool) : State :=
  let s1 := s.updCall h fun c => { c with part := .talk { t with participants := t.participants.map (·.mute e f) } }
  s1.setEp e ((s1.ep e).updListing h fun l => { l with muted := f })

/-- The Call Table takes a SET_PARTICIPANT (06 R112). The place counts from 1, the leader's (log 18). -/
def takeSetParticipant (p : Port) (h : Handle) (e muted : Nat) (s : State) : State :=
  match s.callFor p h gateLive true with
  | .error a => s.refuse p a
  | .ok c =>
    match c.part, flagOfCode muted with
    | .talk t, some f =>
      match t.participants.findIdx? (·.station == e) with
      | some k =>
        if 144 ≤ e ∧ e ≤ 175 then
          (s.setMuted h t e f).answer p .ok (byte1 (k + 1) ++ byteFlag (!((s.ep e).admits h)) ++ byteFlag f)
        else s.refuse p .badParam
      | none => s.refuse p .badParam
    | _, _ => s.refuse p .badParam

/-- SET_PARTICIPANT (06 R112). -/
def execSetParticipant (p : Port) (tag : Nat) (call : Handle) (station muted : Nat) (s : State) :
    Host.Outcome State Fault Refusal :=
  .next (s.request p .callTable (.setParticipant p tag call station muted) (takeSetParticipant p call station muted))

end Sys2Proof.Machine
end

