-- ==== Sys2Proof/Machine/Endpoints.lean ====
section
/-! DEFINITION. The requests of the Endpoint Table (01, 05 section 5.2). -/

namespace Sys2Proof.Machine

/-! ## SET_ENDPOINT (01 R8) -/

/-- The zone-only fields have values of their ranges (01 R8). -/
def zoneFieldsOk (fireZone role : Option Nat) : Bool :=
  fireZone.all (fun f => decide (f ≤ 7)) && role.all (fun r => (Role.ofCode r).isSome)

/-- The fields are stored in one step; absent ones keep their values (01 R8, R5). -/
def Endpoint.store (ep : Endpoint) (fireZone : Option Nat) (role : Option Role) (enabled : Option Bool)
    (alarmTrim : Option Nat) : Endpoint :=
  { ep with fireZone := fireZone.getD ep.fireZone, role := role.getD ep.role, enabled := enabled.getD ep.enabled,
            alarmTrim := (alarmTrim.map (clampTo Config.alarmTrimMin Config.unity)).getD ep.alarmTrim }

/-- An ALARM term takes its target from a changed alarm trim (01 R5). -/
def Endpoint.refitAlarm (x : EpCtx) (ep : Endpoint) : Endpoint := if ep.fgAlarm then ep.refit x .foreground else ep

/-- The endpoint changes from enabled to disabled (01 R6). -/
def disables (ep : Endpoint) (enabled : Option Bool) : Bool := ep.enabled && enabled == some false

/-- The Endpoint Table stores the fields and makes the removals of a disabling (01 R8). -/
def State.storeEndpoint (s : State) (e : Nat) (fireZone : Option Nat) (role : Option Role) (enabled : Option Bool)
    (alarmTrim : Option Nat) : State :=
  let s1 := s.setEp e (((s.ep e).store fireZone role enabled alarmTrim).refitAlarm s.ctx)
  if disables (s.ep e) enabled then s1.atEndpoint e fun x ep => ep.disable x else s1

/-- The Endpoint Table takes a SET_ENDPOINT (01 R8). A coded field with no such code is refused with its range check
(10 R178; log 19). -/
def takeSetEndpoint (p : Port) (e : Nat) (fireZone role enabled alarmTrim : Option Nat) (s : State) : State :=
  if fireZone.isNone ∧ role.isNone ∧ enabled.isNone ∧ alarmTrim.isNone then s.refuse p .badParam
  else if 175 < e then s.refuse p .badParam
  else if !isZone e ∧ (fireZone.isSome ∨ role.isSome) then s.refuse p .badParam
  else
    match zoneFieldsOk fireZone role, optCode Role.ofCode role, optCode flagOfCode enabled with
    | true, some r, some n =>
      if alarmTrim.isSome ∧ p = .system then s.refuse p .locked
      else settle s ((s.storeEndpoint e fireZone r n alarmTrim).answer p .ok [])
    | _, _, _ => s.refuse p .badParam

/-- SET_ENDPOINT (01 R8). -/
def execSetEndpoint (p : Port) (tag : Nat) (endpoint : Nat) (fireZone role enabled alarmTrim : Option Nat) (s : State) :
    Host.Outcome State Fault Refusal :=
  .next (s.request p .endpointTable (.setEndpoint p tag endpoint fireZone role enabled alarmTrim)
    (takeSetEndpoint p endpoint fireZone role enabled alarmTrim))

/-! ## SET_LOCAL_TRIM (01 R4) -/

/-- The Endpoint Table takes a SET_LOCAL_TRIM (01 R4). -/
def takeSetLocalTrim (p : Port) (e trim : Nat) (s : State) : State :=
  if isZone e then
    (s.setEp e (Endpoint.refit s.ctx .background { s.ep e with localTrim := min trim Config.unity })).answer p .ok []
  else s.refuse p .badParam

/-- SET_LOCAL_TRIM (01 R4). -/
def execSetLocalTrim (p : Port) (tag : Nat) (endpoint trim : Nat) (s : State) : Host.Outcome State Fault Refusal :=
  .next (s.request p .endpointTable (.setLocalTrim p tag endpoint trim) (takeSetLocalTrim p endpoint trim))

/-! ## SET_DECK (01 R12) -/

/-- A deck record covers a zone of a run of `count` zones, at least one (01 R12); an unused deck covers none. -/
def runsMeet (first count : Nat) (d : Deck) : Bool :=
  decide (0 < d.count) && decide (first < d.first + d.count) && decide (d.first < first + count)

/-- Another deck record than `d` covers a zone of the new run (01 R12). -/
def State.deckOverlaps (s : State) (d first count : Nat) : Bool :=
  (List.range 16).any fun k => k != d && runsMeet first count (s.deck k)

/-- Write deck record `d`. -/
def State.setDeck (s : State) (d : Nat) (x : Deck) : State := { s with decks := s.decks.set d x }

/-- The Endpoint Table takes a SET_DECK (01 R12). -/
def takeSetDeck (p : Port) (d first count : Nat) (s : State) : State :=
  if 15 < d ∨ 144 < count then s.refuse p .badParam
  else if count = 0 then (s.setDeck d { s.deck d with count := 0 }).answer p .ok []
  else if 143 < first ∨ 143 < first + count - 1 then s.refuse p .badParam
  else if s.deckOverlaps d first count then s.refuse p .badParam
  else (s.setDeck d ⟨first, count⟩).answer p .ok []

/-- SET_DECK (01 R12). -/
def execSetDeck (p : Port) (tag : Nat) (deck first count : Nat) (s : State) : Host.Outcome State Fault Refusal :=
  .next (s.request p .endpointTable (.setDeck p tag deck first count) (takeSetDeck p deck first count))

/-! ## QUERY_ENDPOINT (01 R9; layout log 18) -/

/-- A listing in an answer: handle, level, state code (ADMITTED 0, WAITING 1, DEPARTING 2), gain override. -/
def listingData (h : Handle) (level state : Nat) (override : Option Nat) : List Byte :=
  byteHandle h ++ byte1 level ++ byte1 state ++ byteOpt byte2 override

/-- An empty mark: the listing's place in the answer with nothing in it. -/
def emptyListing : List Byte := byte1 0 ++ List.replicate 7 0

/-- A slot's admitted listing, or an empty mark. -/
def slotData (o : Option Admitted) : List Byte :=
  match o with
  | some a => byte1 1 ++ listingData a.listing.call a.listing.level 0 a.listing.override
  | none => emptyListing

/-- A departing slot's term, or an empty mark. -/
def depData (o : Option Departing) : List Byte :=
  match o with
  | some d => byte1 1 ++ listingData d.term.call d.level 2 d.override
  | none => emptyListing

/-- A waiting listing. -/
def waitData (l : Listing) : List Byte := listingData l.call l.level 1 l.override

/-- A term's applied and target coefficients. -/
def termData (t : Term) : List Byte := byte2 t.applied ++ byte2 t.target

/-- The fields of the record that a station reports fixed (01 R1). -/
def State.zoneData (s : State) (e : Nat) : List Byte :=
  if isZone e then byteOpt byte1 (s.deckOf e) ++ byte1 (s.ep e).fireZone ++ byte1 (s.ep e).role.code
  else byteOpt byte1 none ++ byte1 0 ++ byte1 Role.mono.code

/-- Service state and channel in use; a station reports IN_SERVICE and none (01 R1). -/
def State.serviceData (s : State) (e : Nat) : List Byte :=
  if isZone e then byte1 (s.ep e).service.code ++ byteOpt byte1 (some (s.ep e).channel)
  else byte1 ServiceState.inService.code ++ byteOpt byte1 none

/-- The data of QUERY_ENDPOINT (01 R9). The two banks' values come as A trim, A depth, B trim, B depth, an order that 01 R9
leaves open (DESIGN CHOICE, log 18). -/
def State.endpointData (s : State) (e : Nat) : List Byte :=
  let ep := s.ep e
  byte1 e ++ byteFlag (!isZone e) ++ s.zoneData e ++
  byte2 ep.trimA ++ byte2 ep.duckA ++ byte2 ep.trimB ++ byte2 ep.duckB ++ byte1 s.bank.code ++
  byte2 ep.localTrim ++ byte2 ep.alarmTrim ++ byteFlag ep.enabled ++ s.serviceData e ++
  slotData ep.fg ++ slotData ep.bg ++ depData ep.dep0 ++ depData ep.dep1 ++
  byteList waitData ep.fgWait ++ byteList waitData ep.bgWait ++ byteList termData ep.terms ++
  byteFlag (s.clip.get (clipLane e ep) false)

/-- The Endpoint Table takes a QUERY_ENDPOINT; the lane's clip flag is cleared (01 R9, R10). -/
def takeQueryEndpoint (p : Port) (e : Nat) (s : State) : State :=
  if 175 < e then s.refuse p .badParam
  else ({ s with clip := s.clip.set (clipLane e (s.ep e)) false } : State).answer p .ok (s.endpointData e)

/-- QUERY_ENDPOINT (01 R9). -/
def execQueryEndpoint (p : Port) (tag : Nat) (endpoint : Nat) (s : State) : Host.Outcome State Fault Refusal :=
  .next (s.request p .endpointTable (.queryEndpoint p tag endpoint) (takeQueryEndpoint p endpoint))

/-! ## SET_BANK and BANK_SWAP (05 R94 to R96) -/

/-- An endpoint with the named bank's trim and duck depth written, if present (05 R95). -/
def Endpoint.writeBank (bk : Bank) (trim depth : Option Nat) (ep : Endpoint) : Endpoint :=
  match bk with
  | .a => { ep with trimA := (trim.map (min · Config.unity)).getD ep.trimA, duckA := (depth.map (min · Config.unity)).getD ep.duckA }
  | .b => { ep with trimB := (trim.map (min · Config.unity)).getD ep.trimB, duckB := (depth.map (min · Config.unity)).getD ep.duckB }

/-- The endpoints of a list with the named bank written (05 R95). -/
def State.writeBank (s : State) (es : List Nat) (bk : Bank) (trim depth : Option Nat) : State :=
  { s with endpoints := s.endpoints.mapIdx fun e ep => if es.contains e then ep.writeBank bk trim depth else ep }

/-- The Endpoint Table takes a SET_BANK (05 R94, R95). -/
def takeSetBank (p : Port) (bank : Nat) (ds : List Descriptor) (trim depth : Option Nat) (s : State) : State :=
  match Bank.ofCode bank with
  | none => s.refuse p .badParam
  | some bk =>
    if trim.isNone ∧ depth.isNone then s.refuse p .badParam
    else
      match s.checkTargets ds with
      | .error a => s.refuse p a
      | .ok ts =>
        if bk = s.bank ∨ s.swapPending then s.refuse p .notReady
        else
          (s.writeBank (s.expandAll ts) bk trim depth).answer p .ok (byte1 bk.code ++ byte1 (s.expandAll ts).length)

/-- SET_BANK (05 R94). -/
def execSetBank (p : Port) (tag : Nat) (bank : Nat) (targets : List Descriptor) (trim depth : Option Nat) (s : State) :
    Host.Outcome State Fault Refusal :=
  .next (s.request p .endpointTable (.setBank p tag bank targets trim depth) (takeSetBank p bank targets trim depth))

/-- The Endpoint Table takes a BANK_SWAP: the mark is set, and the execution phase lasts to the next boundary (05 R96). -/
def takeBankSwap (p : Port) (s : State) : State :=
  if s.swapPending then s.refuse p .notReady else ({ s with swapPending := true } : State).enterPhase p .swapping

/-- BANK_SWAP (05 R96). -/
def execBankSwap (p : Port) (tag : Nat) (s : State) : Host.Outcome State Fault Refusal :=
  .next (s.request p .endpointTable (.bankSwap p tag) (takeBankSwap p))

end Sys2Proof.Machine
end

