-- ==== Sys2Proof/Machine/Alarms.lean ====
section
/-! DEFINITION. The Alarm Sequencer's requests, trigger inputs and step events (08). -/

namespace Sys2Proof.Machine

/-! ## DEFINE_ALARM and QUERY_ALARM (08 R141, R142) -/

/-- A step of a request: its kind known, a phrase id at most 127, a duration clamped to 10 to 60,000 ms (08 R141). -/
def parseStep (x : StepField) : Option AlarmStep :=
  match x.kind with
  | 0 => some (.tone (clampTo 10 60000 x.value))
  | 1 => some (.silence (clampTo 10 60000 x.value))
  | 2 => if x.value ≤ 127 then some (.phrase x.value) else none
  | _ => none

/-- Between 1 and 16 steps, each one good (08 R141). -/
def parseSteps (xs : List StepField) : Option (List AlarmStep) :=
  if xs.length = 0 ∨ 16 < xs.length then none else xs.mapM parseStep

/-- The program a request's fields give, with its clamps; none where step 3 of R141 fails. -/
def parseProgram (f : AlarmFields) : Option AlarmProgram :=
  match ToneShape.ofCode f.shape, parseTargets 8 f.targets, parseSteps f.steps with
  | some shape, some targets, some steps =>
    if f.repeatCount ≤ 255 then
      some { level := clampTo 12 15 f.level, targets, shape, f1 := clampTo 200 4000 f.f1, f2 := clampTo 200 4000 f.f2,
             toneLevel := min f.toneLevel Config.unity, steps, repeatCount := f.repeatCount }
    else none
  | _, _, _ => none

/-- What a DEFINE_ALARM writes: the empty mark, or a program; none where step 3 of R141 fails (mark byte: log 19). -/
def parseDefinition (mark : Nat) (fields : Option AlarmFields) : Option (Option AlarmProgram) :=
  match flagOfCode mark, fields with
  | some true, _ => some none
  | some false, some f => (parseProgram f).map some
  | some false, none => none
  | none, _ => none

/-- A step in an answer: its kind, then a duration in ms or a phrase id in two bytes, as in the step of a DEFINE_ALARM frame (10
section 10.3); the two bytes of the phrase id are DESIGN CHOICE, log 18. -/
def AlarmStep.data : AlarmStep → List Byte
  | .tone ms => byte1 0 ++ byte2 ms
  | .silence ms => byte1 1 ++ byte2 ms
  | .phrase id => byte1 2 ++ byte2 id

/-- A target in an answer: a descriptor's four bytes. -/
def targetData (t : Target) : List Byte :=
  byte1 (Target.descriptor t).kind ++ byte1 (Target.descriptor t).p1 ++ byte1 (Target.descriptor t).p2 ++ byte1 (Target.descriptor t).p3

/-- A program as stored: the empty mark, and the fields in the order of R139 when it is not set (layout log 18). -/
def programData (o : Option AlarmProgram) : List Byte :=
  match o with
  | none => byte1 1
  | some g =>
    byte1 0 ++ byte1 g.level ++ byteList targetData g.targets ++ byte1 g.shape.code ++ byte2 g.f1 ++ byte2 g.f2 ++
    byte2 g.toneLevel ++ byteList AlarmStep.data g.steps ++ byte1 g.repeatCount

/-- A call of the program is OPENING, ACTIVE or ENDING (08 R141 step 4). -/
def State.programInUse (s : State) (id : Nat) : Bool :=
  s.alarmRecords.any fun r => r.2.state != .ended && r.2.alarm.any (·.program == id)

/-- The Alarm Sequencer takes a DEFINE_ALARM (08 R141). -/
def takeDefineAlarm (p : Port) (id mark : Nat) (fields : Option AlarmFields) (s : State) : State :=
  if p = .system then s.refuse p .locked
  else if 7 < id then s.refuse p .badParam
  else
    match parseDefinition mark fields with
    | none => s.refuse p .badParam
    | some g =>
      if s.programInUse id then s.refuse p .inUse
      else ({ s with programs := s.programs.set id g } : State).answer p .ok (programData g)

/-- DEFINE_ALARM (08 R141). -/
def execDefineAlarm (p : Port) (tag : Nat) (program mark : Nat) (fields : Option AlarmFields) (s : State) :
    Host.Outcome State Fault Refusal :=
  .next (s.request p .alarmSequencer (.defineAlarm p tag program mark fields) (takeDefineAlarm p program mark fields))

/-- The trigger inputs bound to a program, each with its mode and pending mark (08 R142), in input order (DESIGN CHOICE, log 18). -/
def State.boundInputs (s : State) (id : Nat) : List Byte :=
  byteList (fun i => byte1 i ++ byte1 (s.trigger i).mode.code ++ byteFlag (s.trigger i).pending.isSome)
    ((List.range 4).filter fun i => (s.trigger i).program == id)

/-- The data of QUERY_ALARM (08 R142; layout log 18). -/
def State.alarmData (s : State) (id : Nat) : List Byte :=
  programData (s.program id) ++ byteHandleOpt (s.liveCallOf id) ++
  positionData ((s.liveCallOf id).bind fun h => (s.alarmSeq h.slot).position) ++ s.boundInputs id

/-- The Alarm Sequencer takes a QUERY_ALARM (08 R142). -/
def takeQueryAlarm (p : Port) (id : Nat) (s : State) : State :=
  if 7 < id then s.refuse p .badParam else s.answer p .ok (s.alarmData id)

/-- QUERY_ALARM (08 R142). -/
def execQueryAlarm (p : Port) (tag : Nat) (program : Nat) (s : State) : Host.Outcome State Fault Refusal :=
  .next (s.request p .alarmSequencer (.queryAlarm p tag program) (takeQueryAlarm p program))

/-! ## START_ALARM (08 R143) -/

/-- The Alarm Sequencer takes a START_ALARM (08 R143). -/
def takeStartAlarm (p : Port) (id : Nat) (s : State) : State :=
  let r := s.startAlarm p id true
  match r.opened with
  | some h => settle s (r.state.enterPhase p (.sweeping h.slot))
  | none => s.answer p r.code r.data

/-- START_ALARM (08 R143). -/
def execStartAlarm (p : Port) (tag : Nat) (program : Nat) (s : State) : Host.Outcome State Fault Refusal :=
  .next (s.request p .alarmSequencer (.startAlarm p tag program) (takeStartAlarm p program))

/-! ## Trigger inputs (08 section 8.3) -/

/-- A trigger record in an answer, in the order of R146; the timer's remaining time in the two bytes of a duration in ms (08 R149,
10 R178; layout log 18). -/
def Trigger.data (t : Trigger) : List Byte :=
  byte1 t.program ++ byte1 t.mode.code ++ byteFlag t.pin ++ byteFlag t.debounced ++
  byteOpt byte2 (if t.timer.isRunning then some t.timer.msLeft else none) ++ byteHandleOpt t.owned ++ byteFlag t.pending.isSome ++
  byteOpt byte1 (t.lastResult.map AnswerCode.code)

/-- The Alarm Sequencer takes a SET_TRIGGER (08 R149). -/
def takeSetTrigger (p : Port) (i program mode : Nat) (s : State) : State :=
  if p = .system then s.refuse p .locked
  else
    match TriggerMode.ofCode mode with
    | none => s.refuse p .badParam
    | some m =>
      if 3 < i ∨ 7 < program then s.refuse p .badParam
      else
        let t := { s.trigger i with program, mode := m, pending := none, owned := none }
        (s.setTrigger i t).answer p .ok t.data

/-- SET_TRIGGER (08 R149). -/
def execSetTrigger (p : Port) (tag : Nat) (input program mode : Nat) (s : State) : Host.Outcome State Fault Refusal :=
  .next (s.request p .alarmSequencer (.setTrigger p tag input program mode) (takeSetTrigger p input program mode))

/-- The debounce timer after a change of the pin level: 20 ms anew while it differs from the debounced level (08 R146). -/
def Trigger.pinTo (t : Trigger) (level : Bool) : Trigger :=
  if level = t.pin then t
  else { t with pin := level, timer := if level = t.debounced then .stopped else .ofMs 20 }

/-- TRIGGER_PIN_CHANGE: the pin level of an input changes (08 R146). -/
def execTriggerPinChange (i : Nat) (active : Bool) (s : State) : Host.Outcome State Fault Refusal :=
  .next (s.setTrigger i ((s.trigger i).pinTo active))

/-- An activation of an input (08 R147). -/
def State.activate (s : State) (i : Nat) : State :=
  match (s.trigger i).mode with
  | .off => s
  | .latched => s.tryTrigger i
  | .held => s.tryTrigger i

/-- A release of a HELD input ends its owned call and clears its mark (08 R147, R148). -/
def State.release (s : State) (i : Nat) : State :=
  if (s.trigger i).mode = .held then
    let s1 := s.setTrigger i { s.trigger i with owned := none, pending := none }
    match (s.trigger i).owned with
    | some h => s1.endCall h .inputReleased
    | none => s1
  else s

/-- The debounced level takes the pin level (08 R146). -/
def State.debounce (s : State) (i : Nat) : State :=
  let s1 := s.setTrigger i { s.trigger i with debounced := (s.trigger i).pin, timer := .stopped }
  if (s.trigger i).pin = (s.trigger i).debounced then s1
  else if (s.trigger i).pin then s1.activate i
  else s1.release i

/-- DEBOUNCE_EXPIRY: the debounce timer of an input runs out (08 R146 to R148). -/
def execDebounceExpiry (i : Nat) (s : State) : Host.Outcome State Fault Refusal :=
  .next (if (s.trigger i).timer.isRunning then settle s (s.debounce i) else s)

/-! ## Steps (08 section 8.4) -/

/-- A step of a running alarm is done: the next step, the next repeat, or the program is complete (08 R150). -/
def State.nextStep (s : State) (h : Handle) (g : AlarmProgram) (x : StepPosition) : State :=
  if x.index + 1 < g.steps.length then s.beginStep h g x.repeatNo (x.index + 1)
  else if g.repeatCount = 0 ∨ x.repeatNo < g.repeatCount then s.beginStep h g (min (x.repeatNo + 1) 65535) 0
  else s.endCall h .complete

/-- The end of a counted step, when it is due (08 R150; log 7). -/
def State.alarmStepEnd (s : State) (i : Nat) : State :=
  match (s.alarmSeq i).position, s.programOf (s.handleOf i) with
  | some x, some g => if x.kind ≠ .phrase ∧ x.framesLeft = 0 then s.nextStep (s.handleOf i) g x else s
  | _, _ => s

/-- The frames of a TONE, SILENCE or SUBSTITUTED step have run out (08 R150). -/
def State.stepDone (s : State) (i : Nat) : Bool :=
  (s.alarmSeq i).position.any fun x => x.kind != .phrase && x.framesLeft == 0

/-- ALARM_STEP_END: a counted step is done; before that nothing happens (08 R150; log 8). -/
def execAlarmStepEnd (i : Nat) (s : State) : Host.Outcome State Fault Refusal :=
  .next (if s.stepDone i then settle s (s.alarmStepEnd i) else s)

/-- The end of an alarm's phrase, when it is due: the player is freed and goes to the arbiter, then the Sequencer is told that the
step is done (07 R137, R138; 08 R153; log 7, 15). -/
def State.alarmPhraseComplete (s : State) (i : Nat) : State :=
  match (s.player i).call with
  | some h =>
    match (s.alarmSeq h.slot).position, s.programOf h with
    | some x, some g => if s.phraseDone i then (s.releasePlayer i).nextStep h g x else s
    | _, _ => s
  | none => s

/-- ALARM_PHRASE_COMPLETE: an alarm's player has given its phrase's last output; before that nothing happens (07 R138; log 8). -/
def execAlarmPhraseComplete (i : Nat) (s : State) : Host.Outcome State Fault Refusal :=
  .next (if s.phraseDone i then settle s (s.alarmPhraseComplete i) else s)

/-- The frequency change of a WARBLE tone, when it is due (08 R152; log 7). -/
def State.warbleSwitch (s : State) (i : Nat) : State :=
  match (s.alarmSeq i).position, s.programOf (s.handleOf i) with
  | some x, some g =>
    if x.kind.sounds ∧ g.shape = .warble ∧ x.toSwitch = 0 then s.setAlarmSeq i ((s.alarmSeq i).switchTone g x) else s
  | _, _ => s

/-- WARBLE_SWITCH: 250 ms of a WARBLE tone have passed (08 R152). -/
def execWarbleSwitch (i : Nat) (s : State) : Host.Outcome State Fault Refusal := .next (s.warbleSwitch i)

end Sys2Proof.Machine
end

