-- ==== Sys2Proof/Machine/Faults.lean ====
section
/-! DEFINITION. Confirming and clearing faults (09 section 9.3), the fault list (09 section 9.4), and the spare pool with its
switching (09 section 9.6). -/

namespace Sys2Proof.Machine

/-! ## Maps and active faults -/

/-- The severity of a kind (09 R165). -/
def State.severityOf (s : State) (k : FaultKind) : Nat := s.severities.get k.code 0
/-- The actions of a severity (09 R165). -/
def State.actionsOf (s : State) (v : Nat) : Actions := s.actions.get v ⟨false, false⟩
/-- The kinds whose source is a channel (09 R158). -/
def FaultKind.ofChannel : FaultKind → Bool
  | .lineOpen => true
  | .lineShort => true
  | .ampProtect => true
  | .ampSilent => true
  | .portLoss => false
  | .scanTimeout => false
  | .phraseBad => false
/-- The active fault of a source and kind. -/
def State.activeFault (s : State) (src : FaultSource) (k : FaultKind) : Option ActiveFault :=
  s.activeFaults.find? fun f => f.source == src && f.kind == k
/-- The active fault of a channel; a channel holds at most one (09 section 9.3). -/
def State.channelFault (s : State) (c : Nat) : Option ActiveFault := s.activeFaults.find? fun f => f.source == .channel c
/-- A channel with an active fault of any kind is faulted (09 R171). -/
def State.isFaulted (s : State) (c : Nat) : Bool := (s.channelFault c).isSome
/-- A channel's active fault has fallback yes (09 R171). -/
def State.hasFallback (s : State) (c : Nat) : Bool := (s.channelFault c).any (·.fallback)

/-! ## The fault list (09 R166 to R168) -/

/-- The order of the list: severity, highest first, then the order of confirmation (09 R166). -/
def FaultEntry.before (a b : FaultEntry) : Bool :=
  decide (b.severity < a.severity) || (a.severity == b.severity && decide (a.seq < b.seq))
/-- An entry takes its place by the order (09 R166). -/
def insertEntry (x : FaultEntry) : List FaultEntry → List FaultEntry
  | [] => [x]
  | y :: ys => if x.before y then x :: y :: ys else y :: insertEntry x ys
/-- A new entry of an active fault, its marks clear (09 R166, R167). -/
def State.newEntry (s : State) (f : ActiveFault) : FaultEntry :=
  { source := f.source, kind := f.kind, severity := f.severity, active := true, acked := false, reportedSystem := false,
    reportedBridge := false, attention := (s.actionsOf f.severity).attention, seq := f.seq }
/-- The entry is of a source and kind. -/
def FaultEntry.isOf (x : FaultEntry) (src : FaultSource) (k : FaultKind) : Bool := x.source == src && x.kind == k

/-- The list after the listing of a confirmed fault (09 R167). -/
def listInto (e : FaultEntry) (l : List FaultEntry) : List FaultEntry :=
  if l.length < Config.faultPlaces then insertEntry e l
  else
    match l.getLast? with
    | some x => if x.severity < e.severity then insertEntry e l.dropLast else l
    | none => insertEntry e l

/-- A confirmed fault is listed; a CLEARED entry of its source and kind is retired first (09 R167). -/
def State.listFault (s : State) (f : ActiveFault) : State :=
  { s with faults := listInto (s.newEntry f) (s.faults.filter fun x => !(x.isOf f.source f.kind)) }

/-- An unlisted active fault is listed if there is room (09 R168). -/
def State.refillOne (s : State) (f : ActiveFault) : State :=
  if !(s.isListed f) ∧ s.faults.length < Config.faultPlaces then { s with faults := insertEntry (s.newEntry f) s.faults } else s
/-- Unlisted active faults are listed into the room, earliest confirmed first (09 R168). -/
def State.refill (s : State) : State := s.activeFaults.foldl State.refillOne s
/-- An entry that is CLEARED and acknowledged is retired, and the room is refilled (09 R168). -/
def State.retireEntries (s : State) : State :=
  State.refill { s with faults := s.faults.filter fun x => x.active || !x.acked }
/-- A cleared fault's entry: CLEARED, and not reported to either port (09 R168). -/
def FaultEntry.clear (x : FaultEntry) : FaultEntry := { x with active := false, reportedSystem := false, reportedBridge := false }

/-! ## Confirmation and clearing without the spare pool -/

/-- A fault is confirmed: recorded, listed, and the fault outputs evaluated (09 R162). An active one changes nothing. -/
def State.recordFault (s : State) (src : FaultSource) (k : FaultKind) : State :=
  if (s.activeFault src k).isSome then s
  else
    let f : ActiveFault := { source := src, kind := k, severity := s.severityOf k,
                             fallback := k.ofChannel && (s.actionsOf (s.severityOf k)).fallback, seq := s.seq }
    ((State.nextSeq { s with activeFaults := s.activeFaults ++ [f] }).listFault f).evalFaultOuts

/-- A fault clears: it leaves the active faults, its entry is CLEARED or retired, and the outputs follow (09 R162, R168). A
fault that is not active changes nothing. -/
def State.clearFault (s : State) (src : FaultSource) (k : FaultKind) : State :=
  if (s.activeFault src k).isNone then s
  else
    State.evalFaultOuts <| State.retireEntries
      { s with activeFaults := s.activeFaults.filter fun f => !(f.source == src && f.kind == k),
               faults := s.faults.map fun x => if x.isOf src k then x.clear else x }

/-! ## The spare pool (09 R171 to R176) -/

/-- Set a zone's service fields. -/
def State.setService (s : State) (z : Nat) (v : ServiceState) (ch : Nat) (dest : Option Nat) (t : Timer) : State :=
  s.setEp z { s.ep z with service := v, channel := ch, movingTo := dest, switchTimer := t }
/-- A move goes out on the Relay Link (09 R171). -/
def State.sendMove (s : State) (z c : Nat) : State := { s with relay := s.relay ++ [.move z c] }
/-- The assignment of a spare channel. -/
def State.spareOf (s : State) (c : Nat) : Option Nat := s.spares.get (c - 144) none
/-- Set the assignment of a spare channel. -/
def State.setSpare (s : State) (c : Nat) (v : Option Nat) : State := { s with spares := s.spares.set (c - 144) v }
/-- The spare assigned to a zone. -/
def State.spareFor (s : State) (z : Nat) : Option Nat :=
  ((List.range 16).map (· + 144)).find? fun c => s.spareOf c == some z
/-- The lowest-numbered spare that is FREE and not faulted (09 R172). -/
def State.freeSpare (s : State) : Option Nat :=
  ((List.range 16).map (· + 144)).find? fun c => (s.spareOf c).isNone && !(s.isFaulted c)

/-- A zone becomes SWITCHING toward a channel: 40 ms, and the move is sent (09 R172, R174). -/
def State.startMove (s : State) (z c : Nat) : State := (s.setService z .switching (s.ep z).channel (some c) (.ofMs 40)).sendMove z c

/-- A spare is given to a zone (09 R172, R173). -/
def State.giveSpare (s : State) (z c : Nat) : State := (s.setSpare c (some z)).startMove z c

/-- A zone asks the pool for a spare, for a fault with a place in the order of confirmations (09 R172). -/
def State.askPool (s : State) (z seq : Nat) : State :=
  match s.freeSpare with
  | some c => s.giveSpare z c
  | none =>
    let s1 := if (s.ep z).channel = z then s else s.sendMove z z
    let s2 := s1.setService z .outOfService z none .stopped
    { s2 with spareWait := s2.spareWait ++ [⟨z, seq⟩] }

/-- The order of the spare wait list: zones whose admitted foreground is an ALARM first, and within a group by the faults'
confirmations (09 R173). -/
def State.waitsBefore (s : State) (a b : SpareWait) : Bool :=
  ((s.ep a.zone).fgAlarm && !(s.ep b.zone).fgAlarm) || ((s.ep a.zone).fgAlarm == (s.ep b.zone).fgAlarm && decide (a.seq < b.seq))
/-- The head of the spare wait list (09 R173). -/
def State.waitHead (s : State) : Option SpareWait := pickBy s.waitsBefore s.spareWait
/-- A zone leaves the spare wait list. -/
def State.leaveWait (s : State) (z : Nat) : State := { s with spareWait := s.spareWait.filter (·.zone ≠ z) }

/-- A spare that is FREE and not faulted goes to the head of the wait list (09 R173). -/
def State.offerSpare (s : State) (c : Nat) : State :=
  if s.isFaulted c ∨ (s.spareOf c).isSome then s
  else
    match s.waitHead with
    | some w => (s.leaveWait w.zone).giveSpare w.zone c
    | none => s

/-- A spare fails its zone in FALLBACK: the spare becomes FREE and the zone asks the pool (09 R175). -/
def State.spareFails (s : State) (z c seq : Nat) : State := (s.setSpare c none).askPool z seq

/-- A confirmed channel fault with fallback yes acts on its zone (09 R172, R175); a SWITCHING zone waits for its expiry
(09 R176). -/
def State.actOnFault (s : State) (c seq : Nat) : State :=
  if isZone c then
    if (s.ep c).service = .inService then s.askPool c seq else s
  else
    match s.spareOf c with
    | some z => if (s.ep z).service = .fallback then s.spareFails z c seq else s
    | none => s

/-- A channel's fault is confirmed, with its effect on the pool (09 R162). -/
def State.confirmChannel (s : State) (c : Nat) (k : FaultKind) : State :=
  let s1 := s.recordFault (.channel c) k
  match s1.activeFault (.channel c) k with
  | some f => if f.fallback && (s.activeFault (.channel c) k).isNone then s1.actOnFault c f.seq else s1
  | none => s1

/-- A channel's fault clears as the channel returns to NORMAL: a zone returns to its primary, a FREE spare becomes available
(09 R173, R174). -/
def State.channelRecovers (s : State) (c : Nat) (k : FaultKind) : State :=
  let s1 := s.clearFault (.channel c) k
  if isZone c then
    match (s1.ep c).service with
    | .fallback => s1.startMove c c
    | .outOfService => (s1.setService c .inService c none .stopped).leaveWait c
    | .inService => s1
    | .switching => s1
  else s1.offerSpare c

/-- A channel confirms another kind: the old fault clears and the new one is confirmed, in one event (09 R162). That a FREE spare is
not offered to the spare wait list between the two is DEDUCED, log 36; the fault outputs' two evaluations are log 20. -/
def State.changeKind (s : State) (c : Nat) (old k : FaultKind) : State := (s.clearFault (.channel c) old).confirmChannel c k

/-- A zone arrives on its primary: its spare becomes FREE and is offered, and a fault with fallback yes on the primary makes
the zone ask the pool (09 R174, R176). -/
def State.arriveHome (s : State) (z : Nat) : State :=
  let s1 := s.setService z .inService z none .stopped
  let s2 := match s1.spareFor z with
    | some c => (s1.setSpare c none).offerSpare c
    | none => s1
  match s2.channelFault z with
  | some f => if f.fallback then s2.askPool z f.seq else s2
  | none => s2

/-- A zone arrives on a spare: it returns if its primary's fault has cleared, and else moves on if the spare fails it
(09 R172, R176). -/
def State.arriveSpare (s : State) (z c : Nat) : State :=
  let s1 := s.setService z .fallback c none .stopped
  if !(s1.isFaulted z) then s1.startMove z z
  else
    match s1.channelFault c with
    | some f => if f.fallback then s1.spareFails z c f.seq else s1
    | none => s1

end Sys2Proof.Machine
end

