-- ==== Sys2Proof/Machine/Phrases.lean ====
section
/-! DEFINITION. The Phrase Directory's requests, the Verify Unit and message playback (07). -/

namespace Sys2Proof.Machine

/-! ## Named, in play, under check (07 R124) -/

/-- A MESSAGE record names a phrase: OPENING, ACTIVE or ENDING with its id in its list (07 R124). -/
def Call.names (id : Nat) (c : Call) : Bool := c.state != .ended && c.message.any fun m => m.phrases.contains id
/-- The number of MESSAGE calls that name a phrase (07 R124, R127). -/
def State.namedBy (s : State) (id : Nat) : Nat := s.calls.cells.countP fun sl => sl.record.any (Call.names id)
/-- The players for which a phrase is the current one (07 R124). -/
def State.playersOf (s : State) (id : Nat) : List Nat := (List.range 4).filter fun i => (s.player i).phrase == some id
/-- A phrase is named or in play (07 R124). -/
def State.phraseInUse (s : State) (id : Nat) : Bool := decide (0 < s.namedBy id) || !(s.playersOf id).isEmpty
/-- The Verify Unit is checking a phrase: it is at the head of the queue (07 R128). -/
def State.underCheck (s : State) (id : Nat) : Bool := s.verifyQueue.head? == some id

/-! ## Beginning a check (07 R129) -/

/-- An entry at the beginning of its check: DEFINED or BAD becomes VERIFYING (07 R129). -/
def Phrase.beginCheck (e : Phrase) : Phrase :=
  match e.state with
  | .defined => { e with state := .verifying }
  | .bad => { e with state := .verifying }
  | .empty => e
  | .verifying => e
  | .verified => e

/-- The Verify Unit begins on the head of the queue, if there is one (07 R129). -/
def State.beginCheck (s : State) : State :=
  let s1 := { s with verifySummed := 0, verifySum := 0 }
  match s1.verifyQueue with
  | [] => s1
  | id :: _ => s1.setPhrase id (s1.phrase id).beginCheck

/-! ## The requests (07 sections 7.2, 7.3) -/

/-- The fields of a DEFINE_PHRASE are in their ranges (07 R125 step 2). -/
def phraseFieldsOk (start length check : Nat) : Bool :=
  decide (start % 2 = 0) && decide (start ≤ 16777214) && decide (1 ≤ length) && decide (length ≤ 4194304) &&
  decide (start + 2 * length ≤ 16777216) && decide (check ≤ 16777215)

/-- The Phrase Directory takes a DEFINE_PHRASE; a PHRASE_BAD fault of the entry clears (07 R125, 09 R164). -/
def takeDefinePhrase (p : Port) (id start length check : Nat) (s : State) : State :=
  if 127 < id then s.refuse p .badParam
  else if !phraseFieldsOk start length check then s.refuse p .badParam
  else if s.phraseInUse id || s.underCheck id then s.refuse p .inUse
  else
    (((s.setPhrase id ⟨.defined, start, length, check⟩).clearFault (.phrase id) .phraseBad).answer p .ok []).refresh

/-- DEFINE_PHRASE (07 R125). -/
def execDefinePhrase (p : Port) (tag : Nat) (phrase start length check : Nat) (s : State) : Host.Outcome State Fault Refusal :=
  .next (s.request p .phraseDirectory (.definePhrase p tag phrase start length check)
    (takeDefinePhrase p phrase start length check))

/-- An id leaves the verify queue; at the head its check is abandoned and the unit begins on the next (07 R126). -/
def State.unqueue (s : State) (id : Nat) : State :=
  let s1 := { s with verifyQueue := s.verifyQueue.filter (· ≠ id) }
  if s.underCheck id then s1.beginCheck else s1

/-- The entry becomes EMPTY; its other fields then have no meaning (07 R122, R126). -/
def State.emptyPhrase (s : State) (id : Nat) : State :=
  State.refresh (((s.setPhrase id { s.phrase id with state := .empty }).unqueue id).clearFault (.phrase id) .phraseBad)

/-- The Phrase Directory takes a RETIRE_PHRASE (07 R126, 09 R164). -/
def takeRetirePhrase (p : Port) (id : Nat) (s : State) : State :=
  if 127 < id then s.refuse p .badParam
  else if s.phraseInUse id then s.refuse p .inUse
  else if (s.phrase id).state = .empty then s.answer p .ok []
  else (s.answer p .ok []).emptyPhrase id

/-- RETIRE_PHRASE (07 R126). -/
def execRetirePhrase (p : Port) (tag : Nat) (phrase : Nat) (s : State) : Host.Outcome State Fault Refusal :=
  .next (s.request p .phraseDirectory (.retirePhrase p tag phrase) (takeRetirePhrase p phrase))

/-- A field of an entry, absent while the entry is EMPTY (07 R127). -/
def Phrase.field (e : Phrase) (v : Nat) : Option Nat := if e.state = .empty then none else some v

/-- The data of QUERY_PHRASE (07 R127; layout log 18). -/
def State.phraseData (s : State) (id : Nat) : List Byte :=
  let e := s.phrase id
  byte1 e.state.code ++ byteOpt byte3 (e.field e.start) ++ byteOpt byte3 (e.field e.length) ++ byteOpt byte3 (e.field e.check) ++
  byteOpt byte1 ((s.verifyQueue.findIdx? (· == id)).map (· + 1)) ++
  byteOpt byte3 (if s.underCheck id then some s.verifySummed else none) ++
  byteList byte1 (s.playersOf id) ++ byte1 (s.namedBy id)

/-- The Phrase Directory takes a QUERY_PHRASE (07 R127). -/
def takeQueryPhrase (p : Port) (id : Nat) (s : State) : State :=
  if 127 < id then s.refuse p .badParam else s.answer p .ok (s.phraseData id)

/-- QUERY_PHRASE (07 R127). -/
def execQueryPhrase (p : Port) (tag : Nat) (phrase : Nat) (s : State) : Host.Outcome State Fault Refusal :=
  .next (s.request p .phraseDirectory (.queryPhrase p tag phrase) (takeQueryPhrase p phrase))

/-- An id joins the tail of the queue; in an empty one it is at the head and its check begins (07 R128, R129). -/
def State.queuePhrase (s : State) (id : Nat) : State :=
  let s1 := { s with verifyQueue := s.verifyQueue ++ [id] }
  if s.verifyQueue.isEmpty then s1.beginCheck else s1

/-- The Phrase Directory takes a VERIFY_PHRASE (07 R128). -/
def takeVerifyPhrase (p : Port) (id : Nat) (s : State) : State :=
  if 127 < id then s.refuse p .badParam
  else if (s.phrase id).state = .empty then s.refuse p .notReady
  else if s.verifyQueue.contains id then s.answer p .ok []
  else if Config.verifyPlaces ≤ s.verifyQueue.length then s.refuse p .busy
  else (s.queuePhrase id).answer p .ok []

/-- VERIFY_PHRASE (07 R128). -/
def execVerifyPhrase (p : Port) (tag : Nat) (phrase : Nat) (s : State) : Host.Outcome State Fault Refusal :=
  .next (s.request p .phraseDirectory (.verifyPhrase p tag phrase) (takeVerifyPhrase p phrase))

/-! ## The Verify Unit (07 R129, R130) -/

/-- A stored sample as an unsigned 16-bit number (07 R123). -/
def Memory.unsigned (m : Memory) (a : Nat) : Nat := 256 * (m.read a).toNat + (m.read (a + 1)).toNat

/-- The running sum modulo 2^24 after `n` more samples from a byte address (07 R129). -/
def Memory.sumFrom (m : Memory) (a : Nat) : Nat → Nat → Nat
  | 0, sum => sum
  | n + 1, sum => Memory.sumFrom m (a + 2) n ((sum + m.unsigned a) % 16777216)

/-- The step of an alarm whose player's phrase fails becomes SUBSTITUTED for the stored samples still to begin (08 R153). -/
def State.failStep (s : State) (h : Handle) (pl : Player) (length : Nat) : State :=
  match (s.alarmSeq h.slot).position, s.programOf h with
  | some x, some g =>
    let left := length - pl.offset - pl.second.toNat
    (s.setAlarmSeq h.slot (toneStart g x.repeatNo x.index .substituted (framesOfMs (substitutedMs left)))).markSubstituted h
  | _, _ => s

/-- A player that plays a failed phrase for an ALARM stops and becomes IDLE, and the step is told (07 R130, 08 R153). -/
def State.failPlayer (id : Nat) (s : State) (i : Nat) : State :=
  match (s.player i).call with
  | some h =>
    if (s.player i).phrase = some id ∧ (s.call h).any (·.type == .alarm) then
      (s.freePlayer i).failStep h (s.player i) (s.phrase id).length
    else s
  | none => s

/-- Every live MESSAGE call that names a phrase enters ENDING with PHRASE_FAILED (07 R130), in slot order (DESIGN CHOICE, log 34). -/
def State.failMessages (s : State) (id : Nat) : State :=
  s.handles.foldl (fun s h => if (s.call h).any (Call.names id) then s.endCall h .phraseFailed else s) s

/-- A check ends in a mismatch (07 R130). -/
def State.checkFailed (s : State) (id : Nat) : State :=
  let s1 := (s.setPhrase id { s.phrase id with state := .bad }).recordFault (.phrase id) .phraseBad
  (List.range 4).foldl (State.failPlayer id) (s1.failMessages id)

/-- A check ends in a match (07 R130). -/
def State.checkPassed (s : State) (id : Nat) : State :=
  (s.setPhrase id { s.phrase id with state := .verified }).clearFault (.phrase id) .phraseBad

/-- The head's check ends: its id leaves the queue and the unit begins on the next head (07 R130). -/
def State.endCheck (s : State) (id : Nat) : State :=
  let passed := s.verifySum = (s.phrase id).check
  let s1 := { s with verifyQueue := s.verifyQueue.drop 1 }
  (if passed then s1.checkPassed id else s1.checkFailed id).beginCheck

/-- A block of stored samples of the head's phrase is added to the sum; at the phrase's end the check ends (07 R129). -/
def State.readBlock (s : State) (id n : Nat) : State :=
  let e := s.phrase id
  let k := min (min n Config.verifyBlock) (e.length - s.verifySummed)
  let s1 := { s with verifySummed := s.verifySummed + k,
                     verifySum := s.memory.sumFrom (e.start + 2 * s.verifySummed) k s.verifySum }
  if e.length ≤ s1.verifySummed then s1.endCheck id else s1

/-- VERIFY_BLOCK_READ: a read of the Memory Port for the Verify Unit completes (07 R129, R130). -/
def execVerifyBlockRead (n : Nat) (s : State) : Host.Outcome State Fault Refusal :=
  .next <|
    match s.verifyQueue with
    | [] => s
    | id :: _ => settle s (s.readBlock id n)

/-! ## Message playback (07 R135) -/

/-- A message's position with its player's phrase (07 R135). -/
def State.movePlayback (s : State) (i : Nat) (h : Handle) (m : MessagePart) (gap : Nat) : State :=
  (s.setPlayer i { s.player i with phrase := if gap = 0 then m.phrases[m.index]? else none, offset := 0, second := false, gap }).updCall h
    fun c => { c with part := .message m }

/-- A message whose player has given the last output of its phrase moves on (07 R135). -/
def State.messageMovesOn (s : State) (i : Nat) (h : Handle) (m : MessagePart) : State :=
  if m.index + 1 < m.phrases.length then s.movePlayback i h { m with index := m.index + 1, offset := 0 } 0
  else if m.repeatCount = 0 ∨ m.repeatNo < m.repeatCount then
    s.movePlayback i h { m with index := 0, offset := 0, repeatNo := min (m.repeatNo + 1) 65535 } (framesOfMs m.repeatGap)
  else s.endCall h .complete

/-- The call a player serves with its record. -/
def State.served (s : State) (i : Nat) : Option (Handle × Call) := (s.player i).call.bind fun h => (s.call h).map (h, ·)

/-- The end of a phrase of a message, when it is due (07 R135; log 7). -/
def State.messagePhraseEnd (s : State) (i : Nat) : State :=
  match s.served i with
  | some (h, c) =>
    match c.message with
    | some m => if s.phraseDone i then s.messageMovesOn i h m else s
    | none => s
  | none => s

/-- MESSAGE_PHRASE_END: a player has given the last output of its message's phrase; before that nothing happens (07 R135; log 8). -/
def execMessagePhraseEnd (i : Nat) (s : State) : Host.Outcome State Fault Refusal :=
  .next (if s.phraseDone i then settle s (s.messagePhraseEnd i) else s)

/-- The end of a repeat gap, when it is due: the player takes phrase index 0 (07 R135; log 7). -/
def State.repeatGapEnd (s : State) (i : Nat) : State :=
  match s.served i with
  | some (_, c) =>
    match c.message with
    | some m =>
      if (s.player i).phrase.isNone ∧ (s.player i).gap = 0 then
        s.setPlayer i { s.player i with phrase := m.phrases[m.index]?, offset := 0, second := false }
      else s
    | none => s
  | none => s

/-- REPEAT_GAP_END: the gap between two repeats has run out (07 R135). -/
def execRepeatGapEnd (i : Nat) (s : State) : Host.Outcome State Fault Refusal := .next (s.repeatGapEnd i)

end Sys2Proof.Machine
end

