-- ==== Sys2Proof/Machine/Frame.lean ====
section
/-! DEFINITION. The frame boundary: events that are due, input framing, bank and mode changes, ramps, the mix and the counts of
frames (01 sections 1.7, 1.8; 04). -/

namespace Sys2Proof.Machine

/-! ## Events counted in frames (log 7) -/

/-- The player events that are due, taken for one player. -/
def State.playerDue (s : State) (i : Nat) : State :=
  let s1 := settle s (s.messagePhraseEnd i)
  let s2 := s1.repeatGapEnd i
  settle s2 (s2.alarmPhraseComplete i)
/-- The step and warble events that are due, taken for one alarm slot. -/
def State.alarmDue (s : State) (i : Nat) : State := (settle s (s.alarmStepEnd i)).warbleSwitch i
/-- Every event counted in frames that is due is taken before the next frame is computed (07 R135, 08 R150, R152; log 7). -/
def State.takeDue (s : State) : State := alarmSlots.foldl State.alarmDue ((List.range 4).foldl State.playerDue s)

/-! ## Input ports (01 R17, R18) -/

/-- An input port at a boundary that carries, or does not carry, its frame marker (01 R17). -/
def InPort.boundary (x : InPort) (marker : Bool) : InPort :=
  match x.framing with
  | .framed => if marker then { x with lastMarker := true } else { x with framing := .lost, lastMarker := false }
  | .acquiring => if marker && x.lastMarker then ⟨.framed, true, .stopped⟩ else { x with lastMarker := marker }
  | .lost => if marker && x.lastMarker then ⟨.framed, true, .stopped⟩ else { x with lastMarker := marker }

/-- The report of a port's change into or out of LOST (01 R18). -/
def State.reportFraming (s : State) (i : Nat) (before after : Framing) : State :=
  if before ≠ .lost ∧ after = .lost then s.recordFault (.inputPort i) .portLoss
  else if before = .lost ∧ after = .framed then s.clearFault (.inputPort i) .portLoss
  else s

/-- One input port takes the boundary. -/
def State.inputBoundary (f : FrameInput) (s : State) (i : Nat) : State :=
  let x := (s.input i).boundary (f.markers.getD i false)
  (s.setInput i x).reportFraming i (s.input i).framing x.framing
/-- The four input ports take the boundary, in the order of their numbers: where several change at one boundary, port 0's fault is
confirmed or cleared first (DESIGN CHOICE, log 34). -/
def State.inputsBoundary (s : State) (f : FrameInput) : State := (List.range 4).foldl (State.inputBoundary f) s

/-- ACQUIRE_TIMEOUT: 100 ms after a reset a port that is still ACQUIRING becomes LOST (01 R17, R18). -/
def execAcquireTimeout (i : Nat) (s : State) : Host.Outcome State Fault Refusal :=
  .next (if (s.input i).framing = .acquiring ∧ (s.input i).acquire.isRunning then
      ((s.setInput i { s.input i with framing := .lost, acquire := .stopped }).reportFraming i .acquiring .lost).refresh
    else s)

/-! ## The rounding mode and the bank (04 R88, 05 R97) -/

/-- The pending rounding mode becomes the mode in force (04 R88). -/
def State.applyMode (s : State) : State := { s with mixMode := s.pendingMode.getD s.mixMode, pendingMode := none }
/-- The pending swap changes the selector and clears the mark (05 R96, R97). -/
def State.applySwap (s : State) : State :=
  { s with bank := if s.swapPending then s.bank.other else s.bank, swapPending := false }
/-- Every target is recomputed (04 R80). -/
def State.refitEndpoints (s : State) : State := { s with endpoints := s.endpoints.map (Endpoint.refitAll s.ctx) }
/-- The request in progress is a BANK_SWAP in its execution phase. -/
def PortRec.swapping (r : PortRec) : Bool := r.inProgress.any fun ip => ip.phase == .swapping
/-- A BANK_SWAP in its execution phase is answered with the bank now active (05 R96). -/
def State.answerSwap (s : State) (p : Port) : State := if (s.port p).swapping then s.answer p .ok (byte1 s.bank.code) else s
/-- Mode and bank take effect together, with each target recomputed once (04 R88, 05 R97). -/
def State.applyPending (s : State) : State :=
  if s.pendingMode.isSome || s.swapPending then
    ((s.applyMode.applySwap.refitEndpoints).answerSwap .system).answerSwap .bridge
  else s

/-! ## Source values (04 section 4.2) -/

/-- What the sources give in the frame being computed: 64 input lanes and 4 players. -/
structure Sources where
  lanes : List Int
  players : List Int

/-- An input lane reads its sample while its port is FRAMED and 0 otherwise (01 R17). -/
def State.laneValue (s : State) (f : FrameInput) (k : Nat) : Int :=
  if (s.input (k / 16)).framing = .framed then f.lanes.getD k 0 else 0
/-- The sources of the frame (01 R17, 07 R132). -/
def State.sources (s : State) (f : FrameInput) : Sources :=
  ⟨(List.range 64).map (s.laneValue f), (List.range 4).map s.playerOutput⟩
/-- The sample of a lane. -/
def Sources.lane (x : Sources) (k : Nat) : Int := x.lanes.getD k 0

/-- The source value of a PROGRAM term by the zone's role (04 R71). -/
def programSource (x : Sources) (role : Role) (lanes : List Nat) : Int :=
  match lanes with
  | [l, r] =>
    match role with
    | .mono => (x.lane l + x.lane r).fdiv 2
    | .left => x.lane l
    | .right => x.lane r
  | l :: _ => x.lane l
  | [] => 0

/-- The sum of the speakers' microphones but for the station's own (04 R74). -/
def talkSum (x : Sources) (speakers : List Nat) (e : Nat) : Int :=
  ((speakers.filter (· ≠ e)).map fun st => x.lane (st - 144)).sum
/-- The source value of a TALK term at a station: FULL or the leader's own, or the leader's microphone (04 R74, R75, R76). -/
def talkSource (x : Sources) (d : Duplex) (speakers : List Nat) (leader : Option Nat) (e : Nat) : Int :=
  match d with
  | .full => talkSum x speakers e
  | .lead =>
    match leader with
    | some l => if l = e then talkSum x speakers e else if speakers.contains l then x.lane (l - 144) else 0
    | none => 0

/-- The source value of an ALARM by the step it is at (04 R73). -/
def State.alarmSource (s : State) (x : Sources) (h : Handle) : Int :=
  match (s.alarmSeq h.slot).position, s.programOf h with
  | some pos, some g =>
    match pos.kind with
    | .tone => toneOutput (s.alarmSeq h.slot).phase g.toneLevel
    | .substituted => toneOutput (s.alarmSeq h.slot).phase g.toneLevel
    | .silence => 0
    | .phrase => (pos.player.map fun i => x.players.getD i 0).getD 0
  | _, _ => 0

/-- The source value of a call's term at an endpoint (04 R70 to R76). An ENDING TALK keeps its set and leader (04 R76). -/
def State.callSource (s : State) (x : Sources) (e : Nat) (h : Handle) (c : Call) : Int :=
  match c.part with
  | .page => x.lane (c.lanes.headD 0)
  | .program _ _ => programSource x (s.ep e).role c.lanes
  | .message m => (m.player.map fun i => x.players.getD i 0).getD 0
  | .talk t =>
    if c.state.live then talkSource x t.duplex (s.speakers h t.participants) (t.participants.head?.map (·.station)) e
    else talkSource x t.duplex t.kept t.keptLeader e
  | .alarm _ => s.alarmSource x h

/-- The source value of a term. -/
def State.sourceOf (s : State) (x : Sources) (e : Nat) (t : Term) : Int :=
  match s.call t.call with
  | some c => s.callSource x e t.call c
  | none => 0

/-! ## Accumulation, scaling, lanes (04 sections 4.6, 4.7; 01 R19) -/

/-- The accumulator of an endpoint: the sum of source times applied coefficient (04 R84). -/
def State.accumulate (s : State) (x : Sources) (e : Nat) : Int :=
  ((s.ep e).terms.map fun t => s.sourceOf x e t * (t.applied : Int)).sum
/-- The scaled value of an endpoint before saturation (04 R85). -/
def State.mixOf (s : State) (x : Sources) (e : Nat) : Int := scale s.mixMode (s.accumulate x e)

/-- A zone's mix goes out on the lane of its channel in use (01 R7, R19). -/
def Endpoint.goesOutOn (ep : Endpoint) (lane : Nat) : Bool :=
  (ep.service == .inService || ep.service == .fallback) && ep.channel == lane
/-- The endpoint whose mix a lane carries (01 R19). A primary's lane carries its own zone's, a spare's the zone's on it. -/
def State.carried (s : State) (lane : Nat) : Option Nat :=
  if lane < 144 then (if (s.ep lane).goesOutOn lane then some lane else none)
  else if lane < 160 then zoneNumbers.find? fun z => (s.ep z).goesOutOn lane
  else some (lane - 16)

/-- The sample of each output lane from the endpoints' scaled values; a lane that carries no mix carries 0 (01 R19, 04 R86). -/
def State.laneSamples (s : State) (mixes : List Int) : Table Int 192 :=
  Table.build 192 fun l => (((s.carried l).map fun e => saturate (mixes.getD e 0)).getD 0)

/-- A saturation sets the clip flag of the endpoint's lane (04 R86). -/
def State.clipAt (mixes : List Int) (s : State) (e : Nat) : State :=
  if saturates (mixes.getD e 0) then { s with clip := s.clip.set (clipLane e (s.ep e)) true } else s

/-- The frame's mixes: clip flags, the lanes' samples for the following frame, the samples that go out now, and the peaks
(04 R68, R86, R89; log 11). -/
def State.mixFrame (s : State) (f : FrameInput) : State :=
  let x := s.sources f
  let mixes := (List.range Config.endpoints).map (s.mixOf x)
  let lanes := s.laneSamples mixes
  let s1 := (List.range Config.endpoints).foldl (State.clipAt mixes) s
  { s1 with outputs := s.mixed, mixed := lanes,
            peak := s.peak.mapIdx fun l p => max p (lanes.get l 0).natAbs }

/-! ## After the frame -/

/-- The running timer of a LEARN_LINE loses one frame. -/
def Phase.tick (ph : Phase) : Phase :=
  match ph with
  | .learning c t => .learning c t.tick
  | .waiting => .waiting
  | .sweeping i => .sweeping i
  | .swapping => .swapping
/-- A port's timers lose one frame. -/
def PortRec.tick (r : PortRec) : PortRec := { r with inProgress := r.inProgress.map fun ip => { ip with phase := ip.phase.tick } }

/-- Players, generators and every running timer go on by one frame (07 R132, 08 R150; log 6). -/
def State.advance (s : State) : State :=
  { s with
    players := s.players.map Player.advance, alarms := s.alarms.map AlarmSeq.advance,
    endpoints := s.endpoints.map fun ep => { ep with switchTimer := ep.switchTimer.tick },
    expiries := s.expiries.map fun x => { x with timer := x.timer.tick },
    holds := s.holds.map fun h => { h with timer := h.timer.tick },
    triggers := s.triggers.map fun t => { t with timer := t.timer.tick },
    inputs := s.inputs.map fun x => { x with acquire := x.acquire.tick },
    linkTimer := s.linkTimer.tick, system := s.system.tick, bridge := s.bridge.tick }

/-- Every term takes one ramp step (04 R68, R81). -/
def State.stepTerms (s : State) : State := { s with endpoints := s.endpoints.map Endpoint.stepTerms }

/-- The work of a frame boundary after the due events: framing, mode and bank, ramps, mix, counts (04 R68). -/
def State.boundary (s : State) (f : FrameInput) : State :=
  ((((s.inputsBoundary f).applyPending).stepTerms).mixFrame f).advance

/-- AUDIO_FRAME_BOUNDARY (04 R68). -/
def execAudioFrameBoundary (input : FrameInput) (s : State) : Host.Outcome State Fault Refusal :=
  .next (settle s.takeDue (s.takeDue.boundary input))

end Sys2Proof.Machine
end

