-- ==== Sys2Proof/Machine/Links.lean ====
section
/-! DEFINITION. The two links: the Bridge Port's bytes, the System Port's periods, and STATUS, which a port takes itself
(10 sections 10.4, 10.5, 10.8). -/

namespace Sys2Proof.Machine

/-! ## STATUS (10 R188) -/

/-- The entries not reported to a port (09 R169, 10 R188). -/
def State.unreported (s : State) (p : Port) : Nat := s.faults.countP fun x => !(x.reported p)
/-- The handles of the ALARM calls that are OPENING or ACTIVE (10 R188), in slot order (DESIGN CHOICE, log 18). -/
def State.activeAlarms (s : State) : List Handle :=
  s.handles.filter fun h => (s.call h).any fun c => c.type == .alarm && c.state.live

/-- The data of STATUS (10 R188; layout log 18). -/
def State.statusData (s : State) (p : Port) : List Byte :=
  byte1 (s.port p).endsToCollect ++ byte1 (s.unreported p) ++ byteFlag s.overflow ++ byteList byteHandle s.activeAlarms ++
  byteFlag s.degraded ++ s.holds.cells.flatMap (fun h => byteFlag h.level) ++
  s.faultOuts.cells.flatMap (fun o => byteFlag o.level ++ byteFlag o.latch) ++
  byte1 s.bank.code ++ byteFlag s.swapPending ++ byte1 s.mixMode.code ++ byte1 (s.port p).discarded

/-- The port takes a STATUS and sets its frames-discarded count to 0 (10 R188). -/
def State.takeStatus (s : State) (p : Port) : State :=
  let s1 := s.answer p .ok (s.statusData p)
  s1.setPort p { s1.port p with discarded := 0 }

/-- STATUS (10 R188): the port's own, with no owner's turn. -/
def execStatus (p : Port) (tag : Nat) (s : State) : Host.Outcome State Fault Refusal :=
  let s1 := s.setPort p ((s.port p).present (.status p tag))
  .next (if (s1.port p).waits (.status p tag) then s1.takeStatus p else s1)

/-! ## A complete frame (10 R178, R183) -/

/-- A port's request in progress is a STATUS that has just arrived. -/
def PortRec.hasStatus (r : PortRec) : Bool :=
  match r.inProgress with
  | some ⟨.status _ _, .waiting⟩ => true
  | _ => false

/-- The command phase of the bytes of a complete frame; a STATUS is taken in the same event (10 R183). -/
def State.frameIn (s : State) (p : Port) (bytes : List Byte) : State :=
  let b := bytes.map BitVec.toNat
  let code := b.getD 0 0
  let tag := b.getD 1 0
  let s1 := s.setPort p ((s.port p).command code tag (decodeRequest p code tag (b.drop 4)))
  if (s1.port p).hasStatus then s1.takeStatus p else s1

/-- The parameter length in a header: bytes 2 and 3 (10 R178). -/
def headerLength (bytes : List Byte) : Nat := be2 (bytes.getD 2 0).toNat (bytes.getD 3 0).toNat

/-! ## The Bridge Port (10 R180) -/

/-- What a frame assembler comes to with one more byte: the assembler, whether a frame was discarded, and a complete frame. -/
structure Assembled where
  assembler : Assembler
  discarded : Bool
  frame : Option (List Byte)
deriving DecidableEq, Repr

/-- The bytes collected with one more (10 R180). -/
def collect (bytes : List Byte) : Assembled :=
  if bytes.length < 4 then ⟨.collecting bytes, false, none⟩
  else if 512 < headerLength bytes then ⟨.discarding, true, none⟩
  else if bytes.length < 4 + headerLength bytes then ⟨.collecting bytes, false, none⟩
  else ⟨.empty, false, some bytes⟩

/-- A byte reaches the assembler (10 R180; a framing error while it is empty: log 25). -/
def Assembler.receive (a : Assembler) (byte : Byte) (framingError : Bool) : Assembled :=
  match a with
  | .discarding => ⟨.discarding, false, none⟩
  | .empty =>
    if framingError then ⟨.discarding, true, none⟩
    else if byte = 0 then ⟨.empty, false, none⟩
    else collect [byte]
  | .collecting bytes => if framingError then ⟨.discarding, true, none⟩ else collect (bytes ++ [byte])

/-- The port record with the assembler's outcome. -/
def PortRec.assembled (r : PortRec) (x : Assembled) : PortRec :=
  let r1 := { r with assembler := x.assembler }
  if x.discarded then r1.discard else r1

/-- BRIDGE_BYTE_RECEIVED (10 R180). -/
def execBridgeByteReceived (byte : Byte) (framingError : Bool) (s : State) : Host.Outcome State Fault Refusal :=
  let x := s.bridge.assembler.receive byte framingError
  let s1 := s.setPort .bridge (s.bridge.assembled x)
  .next (match x.frame with
    | some f => s1.frameIn .bridge f
    | none => s1)

/-- The assembler after a gap of 20 ms: an incomplete frame is discarded and counted (10 R180). -/
def PortRec.gap (r : PortRec) : PortRec :=
  match r.assembler with
  | .empty => r
  | .collecting _ => PortRec.discard { r with assembler := .empty }
  | .discarding => { r with assembler := .empty }

/-- BRIDGE_INTERBYTE_TIMEOUT (10 R180). -/
def execBridgeInterbyteTimeout (s : State) : Host.Outcome State Fault Refusal := .next (s.setPort .bridge s.bridge.gap)

/-- The answer at the head of the queue leaves it. -/
def PortRec.dropAnswer (r : PortRec) : PortRec := { r with answers := r.answers.drop 1 }

/-- BRIDGE_ANSWER_SENT (10 R180). -/
def execBridgeAnswerSent (s : State) : Host.Outcome State Fault Refusal := .next (s.setPort .bridge s.bridge.dropAnswer)

/-! ## The System Port (10 R181) -/

/-- The bytes of an answer frame (10 R179). -/
def Answer.bytes (a : Answer) : List Byte :=
  byte1 a.code ++ byte1 a.tag ++ byte1 a.answer.code ++ byte2 a.data.length ++ a.data

/-- The answer shown from the period's first byte was shifted out whole in `n` bytes (10 R181). -/
def PortRec.readAnswer (r : PortRec) (n : Nat) (shown : Bool) : PortRec :=
  match r.answers with
  | [] => r
  | a :: _ => if shown && decide (a.bytes.length ≤ n) then r.dropAnswer else r

/-- What the inward bytes of a period come to (10 R181). -/
inductive Inward
  | nothing
  | broken
  | frame (bytes : List Byte)
deriving DecidableEq, Repr

/-- The inward bytes of a period: no request, a frame broken off or too long, or a complete frame; later bytes are not read (10
R181). That a period with no whole byte is no request, and is not counted, is the model's choice (DESIGN CHOICE, log 35). -/
def inwardOf (bytes : List Byte) : Inward :=
  match bytes with
  | [] => .nothing
  | b :: _ =>
    if b = 0 then .nothing
    else if bytes.length < 4 then .broken
    else if 512 < headerLength bytes then .broken
    else if bytes.length < 4 + headerLength bytes then .broken
    else .frame (bytes.take (4 + headerLength bytes))

/-- SYSTEM_PERIOD_END: the removal of the answer read comes before the frame's command phase (10 R181). The operand holds all the bytes
of the period, and State none of them: that a reset taken within the period, by which 10 R177 empties the assembler, leaves the whole
operand to be decided at the period's end is the model's choice (DESIGN CHOICE, log 37). -/
def execSystemPeriodEnd (inward : List Byte) (shown : Bool) (s : State) : Host.Outcome State Fault Refusal :=
  let s1 := s.setPort .system (s.system.readAnswer inward.length shown)
  .next (match inwardOf inward with
    | .nothing => s1
    | .broken => s1.setPort .system s1.system.discard
    | .frame f => s1.frameIn .system f)

end Sys2Proof.Machine
end

