-- ==== Sys2Proof/Machine/Resets.lean ====
section
/-! DEFINITION. The two resets (00 section 4.5 and each block's reset rule). -/

namespace Sys2Proof.Machine

/-- POWER_ON: every record at its default. The trigger pins keep following the pins (08 R146), the phrase memory is not the
part's (07 R123), and the queue of commands is not a record of the part. -/
def execPowerOn (s : State) : Host.Outcome State Fault Refusal :=
  .next { State.reset with
    memory := s.memory, pending := s.pending,
    triggers := Table.build 4 fun i => Trigger.initial (if i = 0 then .latched else .off) (s.trigger i).pin }

/-- An endpoint after the RESET input: its configuration kept, no listings, in service on its primary (01 R2, 09 R171). -/
def Endpoint.reset (e : Nat) (ep : Endpoint) : Endpoint :=
  { Endpoint.initial (if e < 144 then e else 0) with
    fireZone := ep.fireZone, role := ep.role, trimA := ep.trimA, duckA := ep.duckA, trimB := ep.trimB, duckB := ep.duckB,
    localTrim := ep.localTrim, alarmTrim := ep.alarmTrim, enabled := ep.enabled }

/-- A phrase entry after the RESET input: a check in progress is abandoned (07 R122). -/
def Phrase.reset (e : Phrase) : Phrase := if e.state = .verifying then { e with state := .defined } else e

/-- RESET_INPUT: the standing configuration is kept and the live state cleared (00 section 4.5; 01 R2, R10, R11, R17; 02 R44;
04 R67; 05 R93, R100; 07 R122, R128, R131; 08 R140, R146, R156; 09 R159 to R171; 10 R177, R187, R189). -/
def execResetInput (s : State) : Host.Outcome State Fault Refusal :=
  .next { State.reset with
    endpoints := s.endpoints.mapIdx Endpoint.reset, decks := s.decks, calls := s.calls.map fun sl => ⟨sl.gen, none⟩,
    bank := s.bank, mixMode := s.mixMode, holds := s.holds.map fun h => { Hold.initial with delay := h.delay },
    phrases := s.phrases.map Phrase.reset, memory := s.memory, programs := s.programs,
    triggers := s.triggers.map fun t => { Trigger.initial t.mode t.pin with program := t.program },
    channels := s.channels.map fun c => { Channel.initial with nominal := c.nominal }, supervision := s.supervision,
    severities := s.severities, actions := s.actions, faultOuts := s.faultOuts.map fun o => { FaultOut.initial with mode := o.mode },
    seq := s.seq, pending := s.pending }

end Sys2Proof.Machine
end

