-- ==== Sys2Proof/Machine/Settings.lean ====
section
/-! DEFINITION. The requests of the Mix Engine and the Hold Line Unit, and the end of a release delay (04 R88, 05 section 5.3). -/

namespace Sys2Proof.Machine

/-- The Mix Engine takes a SET_MIX_MODE: the mode named becomes the pending mode (04 R88). -/
def takeSetMixMode (p : Port) (mode : Nat) (s : State) : State :=
  match MixMode.ofCode mode with
  | none => s.refuse p .badParam
  | some m => ({ s with pendingMode := some m } : State).answer p .ok []

/-- SET_MIX_MODE (04 R88). -/
def execSetMixMode (p : Port) (tag : Nat) (mode : Nat) (s : State) : Host.Outcome State Fault Refusal :=
  .next (s.request p .mixEngine (.setMixMode p tag mode) (takeSetMixMode p mode))

/-- The record of a hold output as SET_HOLD answers it (05 R105; layout log 18). -/
def Hold.data (h : Hold) : List Byte :=
  byte2 h.delay ++ byte1 h.state.code ++ byteFlag h.level ++
  byteOpt byte2 (if h.timer.isRunning then some h.timer.msLeft else none) ++ byteList byteHandle h.bound ++ byte2 h.pairs.length

/-- The Hold Line Unit takes a SET_HOLD (05 R105). -/
def takeSetHold (p : Port) (o : Nat) (delay : Option Nat) (s : State) : State :=
  if 3 < o ∨ 10000 < delay.getD 0 then s.refuse p .badParam
  else
    let x := { s.hold o with delay := delay.getD (s.hold o).delay }
    (s.setHold o x).answer p .ok x.data

/-- SET_HOLD (05 R105). -/
def execSetHold (p : Port) (tag : Nat) (output : Nat) (delay : Option Nat) (s : State) : Host.Outcome State Fault Refusal :=
  .next (s.request p .holdLineUnit (.setHold p tag output delay) (takeSetHold p output delay))

/-- HOLD_RELEASE_TIMEOUT: the release timer runs out and the output is released; a stopped timer does nothing (05 R104). -/
def execHoldReleaseTimeout (o : Nat) (s : State) : Host.Outcome State Fault Refusal :=
  .next (if (s.hold o).timer.isRunning then s.setHold o { s.hold o with state := .released, timer := .stopped } else s)

end Sys2Proof.Machine
end

