-- ==== Sys2Proof/Machine/Supervision.lean ====
section
/-! DEFINITION. Readings, channel states, the requests of the Line Supervisor and its timers (09). -/

namespace Sys2Proof.Machine

/-! ## Readings (09 R157, R158, R161) -/

/-- The class of a reading: a fault kind, or none for a normal one (09 R158). -/
def classify (nominal : Option Nat) (tolerance : Nat) (code : Nat) (protect signal : Bool) (peak : Nat) : Option FaultKind :=
  let off := fun (n : Nat) => n * tolerance / 64
  if protect then some .ampProtect
  else if nominal.any (fun n => decide (code < n - off n)) then some .lineShort
  else if nominal.any (fun n => decide (n + off n < code)) then some .lineOpen
  else if !signal && decide (Config.silentPeak ≤ peak) then some .ampSilent
  else none

/-- What a reading does to a channel's fault (09 R161). -/
inductive ChannelAction
  | nothing
  | confirm (k : FaultKind)
  | clear (k : FaultKind)
  | change (old k : FaultKind)
deriving DecidableEq, Repr

/-- A suspicion at a count: a count that reaches the confirm count confirms (09 R161). -/
def suspectAt (confirm : Nat) (k : FaultKind) (n : Nat) : ChannelState × ChannelAction :=
  if confirm ≤ n then (.faulted k, .confirm k) else (.suspect k n, .nothing)
/-- A recovery at a count: a count that reaches the recover count clears (09 R161). -/
def recoverAt (recover : Nat) (k : FaultKind) (n : Nat) : ChannelState × ChannelAction :=
  if recover ≤ n then (.normal, .clear k) else (.recovering k n, .nothing)

/-- The next state of a channel and what it does, by the class of the reading (09 R161). -/
def channelNext (v : Supervision) (st : ChannelState) (cls : Option FaultKind) : ChannelState × ChannelAction :=
  match st, cls with
  | .normal, none => (.normal, .nothing)
  | .normal, some k => suspectAt v.confirm k 1
  | .suspect _ _, none => (.normal, .nothing)
  | .suspect k n, some k' => if k = k' then suspectAt v.confirm k (n + 1) else suspectAt v.confirm k' 1
  | .faulted k, none => recoverAt v.recover k 1
  | .faulted k, some k' => if k = k' then (.faulted k, .nothing) else (.faulted k', .change k k')
  | .recovering k n, none => recoverAt v.recover k (n + 1)
  | .recovering k _, some k' => if k = k' then (.faulted k, .nothing) else (.faulted k', .change k k')

/-- A channel's fault is confirmed, cleared or changed (09 R161, R162). -/
def State.actOnChannel (s : State) (c : Nat) (a : ChannelAction) : State :=
  match a with
  | .nothing => s
  | .confirm k => s.confirmChannel c k
  | .clear k => s.channelRecovers c k
  | .change old k => s.changeKind c old k

/-- A port's LEARN_LINE of channel `c` is in its execution phase (09 R160). -/
def State.learns (s : State) (p : Port) (c : Nat) : Bool :=
  (s.port p).inProgress.any fun ip =>
    match ip.phase with
    | .learning x _ => x == c
    | _ => false
/-- A reading of `c` ends a port's LEARN_LINE of it with the code stored (09 R160). -/
def State.learnAt (s : State) (c code : Nat) (p : Port) : State :=
  if s.learns p c then (s.setChannel c { s.channelRec c with nominal := some code }).answer p .ok (byte2 code) else s

/-- A complete frame on the Supervision Link: the link timer restarts and a SCAN_TIMEOUT clears (09 R157, R163). -/
def State.linkFrame (s : State) : State := State.clearFault { s with linkTimer := .ofMs 3000 } .link .scanTimeout

/-- A reading of channel `c`: its peak is taken, learning is served, and the reading is classified and applied (09 R157). -/
def State.reading (s : State) (c code : Nat) (protect signal : Bool) : State :=
  let peak := s.peak.get c 0
  let s1 := ({ s with peak := s.peak.set c 0 } : State)
  let s2 := (s1.learnAt c code .system).learnAt c code .bridge
  let r := s2.channelRec c
  let n := channelNext s2.supervision r.state (classify r.nominal s2.supervision.tolerance code protect signal peak)
  (s2.setChannel c { r with state := n.1, last := ⟨code, protect, signal⟩ }).actOnChannel c n.2

/-- SUPERVISION_READING: a complete frame on the Supervision Link; a channel above 159 is discarded (09 R157). -/
def execSupervisionReading (c code : Nat) (protect signal : Bool) (s : State) : Host.Outcome State Fault Refusal :=
  .next (settle s (if c < Config.channels then s.linkFrame.reading c code protect signal else s.linkFrame))

/-- SCAN_TIMEOUT_EXPIRY: the link timer runs out and the fault is confirmed at once (09 R163). -/
def execScanTimeoutExpiry (s : State) : Host.Outcome State Fault Refusal :=
  .next (if s.linkTimer.isRunning then (State.recordFault { s with linkTimer := .stopped } .link .scanTimeout).refresh else s)

/-- The move of a zone has ended (09 R172, R174, R176). -/
def State.arrive (s : State) (z : Nat) : State :=
  match (s.ep z).movingTo with
  | some c => if c = z then s.arriveHome z else s.arriveSpare z c
  | none => s

/-- SWITCH_TIMER_EXPIRY: a SWITCHING zone's timer runs out (09 R176). -/
def execSwitchTimerExpiry (z : Nat) (s : State) : Host.Outcome State Fault Refusal :=
  .next (if isZone z ∧ (s.ep z).switchTimer.isRunning then settle s (s.arrive z) else s)

/-! ## Settings and learning (09 R159, R160) -/

/-- The Line Supervisor takes a SET_SUPERVISION (09 R159). -/
def takeSetSupervision (p : Port) (tolerance confirm recover forget : Option Nat) (s : State) : State :=
  if tolerance.isNone ∧ confirm.isNone ∧ recover.isNone ∧ forget.isNone then s.refuse p .badParam
  else if 159 < forget.getD 0 then s.refuse p .badParam
  else
    let v : Supervision :=
      { tolerance := (tolerance.map (clampTo 1 63)).getD s.supervision.tolerance,
        confirm := (confirm.map (clampTo 1 15)).getD s.supervision.confirm,
        recover := (recover.map (clampTo 1 15)).getD s.supervision.recover }
    let s1 := match forget with
      | some c => s.setChannel c { s.channelRec c with nominal := none }
      | none => s
    ({ s1 with supervision := v } : State).answer p .ok (byte1 v.tolerance ++ byte1 v.confirm ++ byte1 v.recover)

/-- SET_SUPERVISION (09 R159). -/
def execSetSupervision (p : Port) (tag : Nat) (tolerance confirm recover forget : Option Nat) (s : State) :
    Host.Outcome State Fault Refusal :=
  .next (s.request p .lineSupervisor (.setSupervision p tag tolerance confirm recover forget)
    (takeSetSupervision p tolerance confirm recover forget))

/-- The Line Supervisor takes a LEARN_LINE (09 R160). -/
def takeLearnLine (p : Port) (c : Nat) (s : State) : State :=
  if 159 < c then s.refuse p .badParam
  else if (s.activeFault .link .scanTimeout).isSome then s.refuse p .notReady
  else s.enterPhase p (.learning c (.ofMs 5000))

/-- LEARN_LINE (09 R160). -/
def execLearnLine (p : Port) (tag : Nat) (channel : Nat) (s : State) : Host.Outcome State Fault Refusal :=
  .next (s.request p .lineSupervisor (.learnLine p tag channel) (takeLearnLine p channel))

/-- A port's LEARN_LINE is in its execution phase. -/
def PortRec.learning (r : PortRec) : Bool :=
  r.inProgress.any fun ip =>
    match ip.phase with
    | .learning _ _ => true
    | _ => false

/-- LEARN_TIMEOUT: the 5,000 ms of a port's LEARN_LINE run out (09 R160). -/
def execLearnTimeout (p : Port) (s : State) : Host.Outcome State Fault Refusal :=
  .next (if (s.port p).learning then s.answer p .timeout [] else s)

/-! ## Queries and maps (09 R161, R165) -/

/-- A channel state's code, kind and count (09 R161; layout log 18). -/
def ChannelState.data (x : ChannelState) : List Byte :=
  match x with
  | .normal => byte1 0 ++ byteOpt byte1 none ++ byteOpt byte1 none
  | .suspect k n => byte1 1 ++ byteOpt byte1 (some k.code) ++ byteOpt byte1 (some n)
  | .faulted k => byte1 2 ++ byteOpt byte1 (some k.code) ++ byteOpt byte1 none
  | .recovering k n => byte1 3 ++ byteOpt byte1 (some k.code) ++ byteOpt byte1 (some n)

/-- The pool record of a spare: FREE 0, or ASSIGNED 1 and its zone; absent for a primary (09 R161, R171; layout log 18). -/
def State.poolData (s : State) (c : Nat) : List Byte :=
  if isZone c then byte1 0 ++ byte3 0
  else byte1 1 ++ byteFlag (s.spareOf c).isSome ++ byteOpt byte1 (s.spareOf c)

/-- The data of QUERY_CHANNEL (09 R161; layout log 18). -/
def State.channelData (s : State) (c : Nat) : List Byte :=
  let r := s.channelRec c
  r.state.data ++ byteOpt byte2 r.nominal ++ byte2 r.last.code ++ byteFlag r.last.protect ++ byteFlag r.last.signalPresent ++
  byteOpt byte1 ((s.channelFault c).map (·.severity)) ++ s.poolData c

/-- The Line Supervisor takes a QUERY_CHANNEL (09 R161). -/
def takeQueryChannel (p : Port) (c : Nat) (s : State) : State :=
  if 159 < c then s.refuse p .badParam else s.answer p .ok (s.channelData c)

/-- QUERY_CHANNEL (09 R161). -/
def execQueryChannel (p : Port) (tag : Nat) (channel : Nat) (s : State) : Host.Outcome State Fault Refusal :=
  .next (s.request p .lineSupervisor (.queryChannel p tag channel) (takeQueryChannel p channel))

/-- The Line Supervisor takes a SET_SEVERITY (09 R165). -/
def takeSetSeverity (p : Port) (kind severity : Nat) (s : State) : State :=
  match FaultKind.ofCode kind with
  | none => s.refuse p .badParam
  | some k =>
    if 2 < severity then s.refuse p .badParam
    else ({ s with severities := s.severities.set k.code severity } : State).answer p .ok []

/-- SET_SEVERITY (09 R165). -/
def execSetSeverity (p : Port) (tag : Nat) (kind severity : Nat) (s : State) : Host.Outcome State Fault Refusal :=
  .next (s.request p .lineSupervisor (.setSeverity p tag kind severity) (takeSetSeverity p kind severity))

/-- The Line Supervisor takes a SET_ACTIONS (09 R165). -/
def takeSetActions (p : Port) (severity : Nat) (fallback attention : Option Nat) (s : State) : State :=
  match optCode flagOfCode fallback, optCode flagOfCode attention with
  | some f, some a =>
    if 2 < severity ∨ (f.isNone ∧ a.isNone) then s.refuse p .badParam
    else
      let x := s.actionsOf severity
      ({ s with actions := s.actions.set severity ⟨f.getD x.fallback, a.getD x.attention⟩ } : State).answer p .ok []
  | _, _ => s.refuse p .badParam

/-- SET_ACTIONS (09 R165). -/
def execSetActions (p : Port) (tag : Nat) (severity : Nat) (fallback attention : Option Nat) (s : State) :
    Host.Outcome State Fault Refusal :=
  .next (s.request p .lineSupervisor (.setActions p tag severity fallback attention)
    (takeSetActions p severity fallback attention))

/-! ## The fault list's requests (09 R169) -/

/-- Set an entry's reported mark for a port. -/
def FaultEntry.report (x : FaultEntry) (p : Port) (v : Bool) : FaultEntry :=
  match p with
  | .system => { x with reportedSystem := v }
  | .bridge => { x with reportedBridge := v }

/-- The entry FAULT_NEXT answers, with its place counted from 1, and the list-overflow flag (09 R169; layout log 18). Its state is
coded ACTIVE 0, CLEARED 1, in the order of 09 R166 (DESIGN CHOICE, log 18). -/
def nextEntryData (o : Option (Nat × FaultEntry)) (overflow : Bool) : List Byte :=
  (match o with
   | some (i, x) =>
     byte1 1 ++ byte1 x.source.code.1 ++ byte1 x.source.code.2 ++ byte1 x.kind.code ++ byte1 x.severity ++
     byteFlag (!x.active) ++ byteFlag x.acked ++ byte1 (i + 1)
   | none => byte1 0 ++ List.replicate 7 0) ++ byteFlag overflow

/-- The list with every entry unreported to a port if the request carries the restart mark (09 R169). -/
def restartList (p : Port) (restart : Bool) (l : List FaultEntry) : List FaultEntry :=
  if restart then l.map (·.report p false) else l

/-- The first entry not reported to a port, with its index (09 R169). -/
def firstUnreported (p : Port) (l : List FaultEntry) : Option (Nat × FaultEntry) :=
  (l.findIdx? fun x => !(x.reported p)).bind fun i => l[i]?.map (i, ·)

/-- The list with that entry reported to the port (09 R169). -/
def reportFirst (p : Port) (l : List FaultEntry) : List FaultEntry :=
  match firstUnreported p l with
  | some (i, x) => l.set i (x.report p true)
  | none => l

/-- The Line Supervisor takes a FAULT_NEXT (09 R169). -/
def takeFaultNext (p : Port) (restart : Nat) (s : State) : State :=
  match flagOfCode restart with
  | none => s.refuse p .badParam
  | some r =>
    let l := restartList p r s.faults
    (State.answer { s with faults := reportFirst p l } p .ok (nextEntryData (firstUnreported p l) s.overflow)).refresh

/-- FAULT_NEXT (09 R169). -/
def execFaultNext (p : Port) (tag : Nat) (restart : Nat) (s : State) : Host.Outcome State Fault Refusal :=
  .next (s.request p .lineSupervisor (.faultNext p tag restart) (takeFaultNext p restart))

/-- The entry of a source and kind is acknowledged; a CLEARED one is retired (09 R168, R169). -/
def State.ackEntry (s : State) (src : FaultSource) (k : FaultKind) : State :=
  State.retireEntries { s with faults := s.faults.map fun x => if x.isOf src k then { x with acked := true } else x }

/-- The Line Supervisor takes a FAULT_ACK (09 R169); the entry's state is coded ACTIVE 0, CLEARED 1 (DESIGN CHOICE, log 18). -/
def takeFaultAck (p : Port) (source number kind : Nat) (s : State) : State :=
  match FaultSource.ofCode source number, FaultKind.ofCode kind with
  | some src, some k =>
    match s.faults.find? (·.isOf src k) with
    | some x => ((s.ackEntry src k).answer p .ok (byteFlag (!x.active))).refresh
    | none => s.refuse p .badParam
  | _, _ => s.refuse p .badParam

/-- FAULT_ACK (09 R169). -/
def execFaultAck (p : Port) (tag : Nat) (source number kind : Nat) (s : State) : Host.Outcome State Fault Refusal :=
  .next (s.request p .lineSupervisor (.faultAck p tag source number kind) (takeFaultAck p source number kind))

/-! ## The fault outputs' requests (09 R170) -/

/-- The mode a SET_PIN names, with its severity where the mode has one (09 R170; log 27). -/
def pinModeOf (mode severity : Nat) : Option PinMode :=
  match mode with
  | 0 => some .off
  | 1 => if severity ≤ 2 then some (.severity severity) else none
  | 2 => some .manual
  | _ => none

/-- The manual level a SET_PIN leaves: stored for MANUAL, kept otherwise; none for a byte that is no level (09 R170). -/
def manualLevelOf (m : PinMode) (level : Nat) (old : Bool) : Option Bool :=
  match m with
  | .manual => flagOfCode level
  | .off => some old
  | .severity _ => some old

/-- A fault output's mode in an answer: its code, and the severity where it has one (layout log 18). -/
def PinMode.data (m : PinMode) : List Byte :=
  match m with
  | .off => byte1 0 ++ byteOpt byte1 none
  | .severity n => byte1 1 ++ byteOpt byte1 (some n)
  | .manual => byte1 2 ++ byteOpt byte1 none

/-- A fault output's record in an answer (09 R170; layout log 18). -/
def FaultOut.data (o : FaultOut) : List Byte := o.mode.data ++ byteFlag o.manual ++ byteFlag o.level ++ byteFlag o.latch

/-- The Line Supervisor takes a SET_PIN (09 R170). -/
def takeSetPin (p : Port) (o mode severity level : Nat) (s : State) : State :=
  match pinModeOf mode severity with
  | none => s.refuse p .badParam
  | some m =>
    match manualLevelOf m level (s.faultOut o).manual with
    | none => s.refuse p .badParam
    | some v =>
      if 2 < o then s.refuse p .badParam
      else
        let x := FaultOut.eval s.activeFaults { s.faultOut o with mode := m, manual := v }
        (s.setFaultOut o x).answer p .ok x.data

/-- SET_PIN (09 R170). -/
def execSetPin (p : Port) (tag : Nat) (output mode severity level : Nat) (s : State) : Host.Outcome State Fault Refusal :=
  .next (s.request p .lineSupervisor (.setPin p tag output mode severity level) (takeSetPin p output mode severity level))

/-- The Line Supervisor takes a PIN_ACK (09 R170). -/
def takePinAck (p : Port) (o : Nat) (s : State) : State :=
  if 2 < o then s.refuse p .badParam else (s.setFaultOut o { s.faultOut o with latch := false }).answer p .ok []

/-- PIN_ACK (09 R170). -/
def execPinAck (p : Port) (tag : Nat) (output : Nat) (s : State) : Host.Outcome State Fault Refusal :=
  .next (s.request p .lineSupervisor (.pinAck p tag output) (takePinAck p output))

end Sys2Proof.Machine
end

