-- ==== Sys2Proof/Machine/Dispatch.lean ====
section
/-! DEFINITION. One arm for each command: the direct call of its meaning. -/

namespace Sys2Proof.Machine

def exec (i : Instr) (s : State) : Host.Outcome State Fault Refusal :=
  match i with
  | .powerOn => Sys2Proof.Machine.execPowerOn s
  | .resetInput => Sys2Proof.Machine.execResetInput s
  | .bridgeByteReceived byte framingError => Sys2Proof.Machine.execBridgeByteReceived byte framingError s
  | .bridgeInterbyteTimeout => Sys2Proof.Machine.execBridgeInterbyteTimeout s
  | .bridgeAnswerSent => Sys2Proof.Machine.execBridgeAnswerSent s
  | .systemPeriodEnd inward shown => Sys2Proof.Machine.execSystemPeriodEnd inward shown s
  | .status p tag => Sys2Proof.Machine.execStatus p tag s
  | .setEndpoint p tag endpoint fireZone role enabled alarmTrim => Sys2Proof.Machine.execSetEndpoint p tag endpoint fireZone role enabled alarmTrim s
  | .setLocalTrim p tag endpoint trim => Sys2Proof.Machine.execSetLocalTrim p tag endpoint trim s
  | .setDeck p tag deck first count => Sys2Proof.Machine.execSetDeck p tag deck first count s
  | .queryEndpoint p tag endpoint => Sys2Proof.Machine.execQueryEndpoint p tag endpoint s
  | .setBank p tag bank targets trim depth => Sys2Proof.Machine.execSetBank p tag bank targets trim depth s
  | .bankSwap p tag => Sys2Proof.Machine.execBankSwap p tag s
  | .openCall p tag fields => Sys2Proof.Machine.execOpenCall p tag fields s
  | .addTargets p tag call targets => Sys2Proof.Machine.execAddTargets p tag call targets s
  | .dropTargets p tag call targets => Sys2Proof.Machine.execDropTargets p tag call targets s
  | .setCallGain p tag call action gain endpoint => Sys2Proof.Machine.execSetCallGain p tag call action gain endpoint s
  | .retireCall p tag call => Sys2Proof.Machine.execRetireCall p tag call s
  | .queryCall p tag call => Sys2Proof.Machine.execQueryCall p tag call s
  | .collectEnd p tag call => Sys2Proof.Machine.execCollectEnd p tag call s
  | .clearCalls p tag => Sys2Proof.Machine.execClearCalls p tag s
  | .setParticipant p tag call station muted => Sys2Proof.Machine.execSetParticipant p tag call station muted s
  | .setMixMode p tag mode => Sys2Proof.Machine.execSetMixMode p tag mode s
  | .setHold p tag output delay => Sys2Proof.Machine.execSetHold p tag output delay s
  | .definePhrase p tag phrase start length check => Sys2Proof.Machine.execDefinePhrase p tag phrase start length check s
  | .retirePhrase p tag phrase => Sys2Proof.Machine.execRetirePhrase p tag phrase s
  | .queryPhrase p tag phrase => Sys2Proof.Machine.execQueryPhrase p tag phrase s
  | .verifyPhrase p tag phrase => Sys2Proof.Machine.execVerifyPhrase p tag phrase s
  | .defineAlarm p tag program mark fields => Sys2Proof.Machine.execDefineAlarm p tag program mark fields s
  | .queryAlarm p tag program => Sys2Proof.Machine.execQueryAlarm p tag program s
  | .startAlarm p tag program => Sys2Proof.Machine.execStartAlarm p tag program s
  | .setTrigger p tag input program mode => Sys2Proof.Machine.execSetTrigger p tag input program mode s
  | .setSupervision p tag tolerance confirm recover forget => Sys2Proof.Machine.execSetSupervision p tag tolerance confirm recover forget s
  | .learnLine p tag channel => Sys2Proof.Machine.execLearnLine p tag channel s
  | .queryChannel p tag channel => Sys2Proof.Machine.execQueryChannel p tag channel s
  | .setSeverity p tag kind severity => Sys2Proof.Machine.execSetSeverity p tag kind severity s
  | .setActions p tag severity fallback attention => Sys2Proof.Machine.execSetActions p tag severity fallback attention s
  | .faultNext p tag restart => Sys2Proof.Machine.execFaultNext p tag restart s
  | .faultAck p tag source number kind => Sys2Proof.Machine.execFaultAck p tag source number kind s
  | .setPin p tag output mode severity level => Sys2Proof.Machine.execSetPin p tag output mode severity level s
  | .pinAck p tag output => Sys2Proof.Machine.execPinAck p tag output s
  | .sweepDelivery slot => Sys2Proof.Machine.execSweepDelivery slot s
  | .dropSweepRemoval slot => Sys2Proof.Machine.execDropSweepRemoval slot s
  | .audioFrameBoundary input => Sys2Proof.Machine.execAudioFrameBoundary input s
  | .acquireTimeout inputPort => Sys2Proof.Machine.execAcquireTimeout inputPort s
  | .messagePhraseEnd player => Sys2Proof.Machine.execMessagePhraseEnd player s
  | .repeatGapEnd player => Sys2Proof.Machine.execRepeatGapEnd player s
  | .alarmPhraseComplete player => Sys2Proof.Machine.execAlarmPhraseComplete player s
  | .alarmStepEnd slot => Sys2Proof.Machine.execAlarmStepEnd slot s
  | .warbleSwitch slot => Sys2Proof.Machine.execWarbleSwitch slot s
  | .endExpiry slot gen => Sys2Proof.Machine.execEndExpiry slot gen s
  | .holdReleaseTimeout output => Sys2Proof.Machine.execHoldReleaseTimeout output s
  | .triggerPinChange input active => Sys2Proof.Machine.execTriggerPinChange input active s
  | .debounceExpiry input => Sys2Proof.Machine.execDebounceExpiry input s
  | .verifyBlockRead samples => Sys2Proof.Machine.execVerifyBlockRead samples s
  | .supervisionReading channel code protect signalPresent => Sys2Proof.Machine.execSupervisionReading channel code protect signalPresent s
  | .learnTimeout p => Sys2Proof.Machine.execLearnTimeout p s
  | .scanTimeoutExpiry => Sys2Proof.Machine.execScanTimeoutExpiry s
  | .switchTimerExpiry zone => Sys2Proof.Machine.execSwitchTimerExpiry zone s

end Sys2Proof.Machine
end

