-- ==== Sys2Proof/Safety.lean ====
section
/-! DEFINITION. What the statements are written with: when an owner may take a request, what a reply leaves, the part of the
state that calls and listings never move, and the invariants that every step keeps. -/

namespace Sys2Proof.Machine

/-! ## Requests -/

/-- The owner may take a new request of a port: the port has no request in progress, a place for its answer, and the turn
(10 R182, R183, R185). -/
def State.mayTake (s : State) (p : Port) (o : Owner) : Bool :=
  (s.port p).inProgress.isNone && decide ((s.port p).answers.length < 8) && s.hasTurn p o

/-- The state with one more answer, to command `c`, in a port's queue (10 R179). -/
def State.queued (s : State) (p : Port) (c : Instr) (a : AnswerCode) (data : List Byte) : State :=
  s.setPort p { s.port p with answers := (s.port p).answers ++ [⟨c.code, c.tag, a, data⟩] }

/-- What a request taken whole leaves beside its effect: the owner's mark names the port, and the answer is queued (10 R184,
R185). -/
def State.replied (s : State) (p : Port) (o : Owner) (c : Instr) (a : AnswerCode) (data : List Byte) : State :=
  (s.serve p o).queued p c a data

/-- What a request that enters a spanning phase leaves beside its effect (10 R184). -/
def State.begun (s : State) (p : Port) (o : Owner) (c : Instr) (ph : Phase) : State :=
  (s.serve p o).setPort p { s.port p with inProgress := some ⟨c, ph⟩ }

/-- The port's queue has one answer more than before, and no request is in progress. -/
def AnsweredWith (s t : State) (p : Port) (c : Instr) (a : AnswerCode) (data : List Byte) : Prop :=
  (t.port p).answers = (s.port p).answers ++ [⟨c.code, c.tag, a, data⟩] ∧ (t.port p).inProgress = none

/-- No trigger input has a start pending (08 R147), so that the end of an alarm starts none. -/
def State.noPending (s : State) : Bool := s.triggers.cells.all (·.pending.isNone)

/-! ## The standing part: what no call, listing, player or answer moves -/

/-- An endpoint's configuration and service fields, its places emptied. -/
def Endpoint.standing (ep : Endpoint) : Endpoint :=
  { ep with fg := none, fgWait := [], bg := none, bgWait := [], dep0 := none, dep1 := none, older := .zero }
/-- A hold output's release delay. -/
def Hold.standing (h : Hold) : Hold := { Hold.initial with delay := h.delay }
/-- A trigger's binding, mode, levels and timer. -/
def Trigger.standing (t : Trigger) : Trigger := { t with owned := none, pending := none, lastResult := none }
/-- A port's assembler and count of discarded frames. -/
def PortRec.standing (r : PortRec) : PortRec := { r with inProgress := none, answers := [], endsToCollect := 0, attention := false }
/-- The state with everything emptied that follows from calls: places of endpoints, call records, expiry timers, bindings and
interruptions of hold outputs, players, alarm positions, starts of triggers, answers, ends, attention, ALARM DEGRADED, the
overflow flag and the stamps. Two states with one standing part have the same endpoint configuration and service, decks,
banks, modes, lanes, phrases, programs, channels, settings, maps, faults, outputs, spares, marks and queue. -/
def State.standing (s : State) : State :=
  { s with
    system := s.system.standing, bridge := s.bridge.standing, endpoints := s.endpoints.map Endpoint.standing,
    calls := .fill 64 .initial, expiries := [], holds := s.holds.map Hold.standing, players := .fill 4 .idle,
    triggers := s.triggers.map Trigger.standing, alarms := .fill 4 .initial, degraded := false, overflow := false, seq := 0 }

/-! ## Invariants -/

/-- One class's slot and wait list (03 R46): a waiting listing has no higher level than the admitted one, an empty slot has an
empty list, the list is within its capacity and ordered by non-increasing level, and every listing is of the class. -/
def placesOk (c : ListClass) (slot : Option Admitted) (wait : List Listing) : Prop :=
  (slot = none → wait = []) ∧ (∀ a, slot = some a → ∀ l ∈ wait, l.level ≤ a.listing.level) ∧ wait.length ≤ waitCap c ∧
  wait.Pairwise (fun a b => b.level ≤ a.level) ∧ (∀ a, slot = some a → a.listing.type.listClass = c) ∧
  ∀ l ∈ wait, l.type.listClass = c
/-- The structure of 03 R46 at one endpoint. -/
def Endpoint.placesOk (ep : Endpoint) : Prop :=
  Machine.placesOk .foreground ep.fg ep.fgWait ∧ Machine.placesOk .background ep.bg ep.bgWait
/-- The structure of 03 R46 at every endpoint. -/
def State.placesOk (s : State) : Prop := ∀ ep ∈ s.endpoints.cells, ep.placesOk

/-- The configuration fields of an endpoint lie in their ranges (01 R2). -/
def Endpoint.rangesOk (ep : Endpoint) : Prop :=
  ep.fireZone ≤ 7 ∧ ep.trimA ≤ 32768 ∧ ep.duckA ≤ 32768 ∧ ep.trimB ≤ 32768 ∧ ep.duckB ≤ 32768 ∧ ep.localTrim ≤ 32768 ∧
  8192 ≤ ep.alarmTrim ∧ ep.alarmTrim ≤ 32768
/-- Every endpoint's configuration lies in its ranges (01 R2). -/
def State.rangesOk (s : State) : Prop := ∀ ep ∈ s.endpoints.cells, ep.rangesOk
/-- No zone is covered by two decks, and no deck covers a number above 143 (01 R11, R12). -/
def State.decksOk (s : State) : Prop :=
  ∀ j k z, (s.deck j).covers z → (s.deck k).covers z → j < 16 → k < 16 → j = k ∧ z < 144
/-- A stored target's parameters lie in the ranges of its kind (01 R13). -/
def Target.inRange : Target → Bool
  | .endpoint e => decide (e ≤ 175)
  | .range e n => decide (e ≤ 175 ∧ 1 ≤ n ∧ n ≤ 176)
  | .deck d => decide (d ≤ 15)
  | .fireZone f => decide (f ≤ 7)
  | .deckFire d f => decide (d ≤ 15 ∧ f ≤ 7)
  | .allZones => true
  | .allStations => true
  | .everywhere => true
/-- A stored step's duration or phrase id lies in the range of its kind (08 R139). -/
def AlarmStep.inRange : AlarmStep → Bool
  | .tone ms => decide (10 ≤ ms ∧ ms ≤ 60000)
  | .silence ms => decide (10 ≤ ms ∧ ms ≤ 60000)
  | .phrase id => decide (id ≤ 127)
/-- An alarm program's fields lie in their ranges, and so do each of its steps and targets (08 R139, R141; 01 R13). -/
def AlarmProgram.rangesOk (g : AlarmProgram) : Prop :=
  (∀ t ∈ g.targets, t.inRange = true) ∧ (∀ x ∈ g.steps, x.inRange = true) ∧
  12 ≤ g.level ∧ g.level ≤ 15 ∧ g.toneLevel ≤ 32768 ∧ 1 ≤ g.steps.length ∧ g.steps.length ≤ 16 ∧ 1 ≤ g.targets.length ∧
  g.targets.length ≤ 8 ∧ g.repeatCount ≤ 255 ∧ 200 ≤ g.f1 ∧ g.f1 ≤ 4000 ∧ 200 ≤ g.f2 ∧ g.f2 ≤ 4000
/-- The supervision settings, the severity map, the release delays and the alarm programs lie in their ranges (09 R159, R165;
05 R100; 08 R139). -/
def State.settingsOk (s : State) : Prop :=
  (1 ≤ s.supervision.tolerance ∧ s.supervision.tolerance ≤ 63) ∧ (1 ≤ s.supervision.confirm ∧ s.supervision.confirm ≤ 15) ∧
  (1 ≤ s.supervision.recover ∧ s.supervision.recover ≤ 15) ∧ (∀ v ∈ s.severities.cells, v ≤ 2) ∧
  (∀ h ∈ s.holds.cells, h.delay ≤ 10000) ∧ ∀ g, some g ∈ s.programs.cells → g.rangesOk

/-- The verify queue holds at most 8 ids, none twice, none above 127, and none of an EMPTY entry (07 R128, R126). -/
def State.verifyOk (s : State) : Prop :=
  s.verifyQueue.length ≤ 8 ∧ s.verifyQueue.Nodup ∧ ∀ i ∈ s.verifyQueue, i ≤ 127 ∧ (s.phrase i).state ≠ .empty

/-- The place of a fault in its source and kind. -/
def FaultEntry.key (x : FaultEntry) : FaultSource × FaultKind := (x.source, x.kind)
/-- The fault list holds at most 48 entries and at most one for a source and kind, ordered by severity and then by the order
of confirmation, and an entry of an active fault is ACTIVE (09 R166, R168). -/
def State.faultsOk (s : State) : Prop :=
  s.faults.length ≤ 48 ∧ (s.faults.map FaultEntry.key).Nodup ∧
  s.faults.Pairwise (fun a b => b.severity < a.severity ∨ (a.severity = b.severity ∧ a.seq ≤ b.seq)) ∧
  (s.activeFaults.map fun f => (f.source, f.kind)).Nodup ∧
  ∀ f ∈ s.activeFaults, ∀ x ∈ s.faults, x.key = (f.source, f.kind) → x.active = true

/-- A call record stands in a slot of its kind with a level of its type's range, is locked exactly if it is an ALARM, has an end
reason exactly if it has entered ENDING, and has an opening sweep exactly while OPENING (02 R20, R22, R23, R25, R38). -/
def Call.recordOk (i : Nat) (c : Call) : Prop :=
  (c.type = .alarm ↔ 60 ≤ i) ∧ (levelRange c.type).1 ≤ c.level ∧ c.level ≤ (levelRange c.type).2 ∧ c.ramp ≤ 7 ∧
  (c.locked = true ↔ c.type = .alarm) ∧ (c.reason.isSome = true ↔ c.state.live = false) ∧
  (c.state = .opening ↔ c.sweep.any (·.kind == .opening) = true) ∧ (c.state.live = false → c.sweep = none)
/-- Every slot's generation fits a byte and every record is in order; alarm programs have alarm levels (08 R139). -/
def State.callsOk (s : State) : Prop :=
  (∀ i, (s.slot i).gen < 256 ∧ ∀ c, (s.slot i).record = some c → c.recordOk i) ∧
  ∀ g, some g ∈ s.programs.cells → 12 ≤ g.level ∧ g.level ≤ 15

/-- The listings of a class at an endpoint, the admitted one first. -/
def Endpoint.listings (c : ListClass) (ep : Endpoint) : List Listing := (ep.slot c).toList.map (·.listing) ++ ep.wait c
/-- Every listing stands in a place of its class and names a call that is OPENING or ACTIVE, with that call's type and level; a
call has at most one listing at an endpoint; and a delivering sweep still has to visit only endpoints that do not list its call,
each once (02 R26, R31, R32; 03 R45, R46). -/
def State.listingsOk (s : State) : Prop :=
  (∀ ep ∈ s.endpoints.cells, ∀ cl, ∀ l ∈ ep.listings cl,
    l.type.listClass = cl ∧ ∃ c, s.call l.call = some c ∧ c.state.live = true ∧ c.type = l.type ∧ c.level = l.level) ∧
  (∀ ep ∈ s.endpoints.cells, ∀ cl, ((ep.listings cl).map (·.call)).Nodup) ∧
  ∀ i c sw, (s.slot i).record = some c → c.sweep = some sw → sw.kind ≠ .drop →
    sw.rest.Nodup ∧ ∀ e ∈ sw.rest, e < 176 ∧ (s.ep e).lists (s.handleOf i) = false

/-- A player and the call it serves name each other: an ACTIVE message that is PLAYING, or an alarm at a PHRASE step; an IDLE player
holds nothing; a running alarm's step position stands at the slot of a live ALARM call; an alarm's opening sweep has an endpoint
taken or still to visit; and the program of an ALARM call that is not ENDED is defined (07 R131, R133, R138; 08 R141, R143, R150). -/
def State.playersOk (s : State) : Prop :=
  (∀ i, i < 4 → (s.player i).call = none → s.player i = .idle) ∧
  (∀ i h, i < 4 → (s.player i).call = some h → ∃ c, s.call h = some c ∧ c.state.live = true ∧
    ((∃ m, c.part = .message m ∧ c.state = .active ∧ m.player = some i ∧ m.playback = .playing) ∨
      ∃ a x, c.part = .alarm a ∧ (s.alarmSeq h.slot).position = some x ∧ x.player = some i)) ∧
  (∀ h c m i, s.call h = some c → c.part = .message m → m.player = some i → i < 4 ∧ (s.player i).call = some h) ∧
  (∀ k c sw, 60 ≤ k → (s.slot k).record = some c → c.sweep = some sw → sw.kind = .opening → 0 < sw.taken ∨ sw.rest ≠ []) ∧
  (∀ k c a, 60 ≤ k → (s.slot k).record = some c → c.part = .alarm a → c.state ≠ .ended → (s.program a.program).isSome = true) ∧
  ∀ k x, 60 ≤ k → k < 64 → (s.alarmSeq k).position = some x →
    (∃ c a, (s.slot k).record = some c ∧ c.part = .alarm a ∧ c.state.live = true) ∧
    ∀ i, x.player = some i → x.kind = .phrase ∧ i < 4 ∧ (s.player i).call = some (s.handleOf k)

/-- A message that holds a player is heard somewhere, and while some player is IDLE no ACTIVE message that is heard, CUEING or PAUSED
waits for one (07 R133, R134, R137). -/
def State.messagesServed (s : State) : Prop :=
  ∀ h c m, s.call h = some c → c.part = .message m →
    (m.player.isSome = true → 0 < s.heardCount h) ∧
    (c.state = .active → 0 < s.heardCount h → m.player = none → (m.playback = .cueing ∨ m.playback = .paused) →
      ∀ i, i < 4 → (s.player i).call ≠ none)

/-- A sweep that a request waits for is the execution phase of its port's request, and the other way round (10 R184). -/
def State.sweepsHeld (s : State) : Prop :=
  (∀ i c sw, (s.slot i).record = some c → c.sweep = some sw → sw.answers = true →
    ∃ r, (s.port sw.port).inProgress = some ⟨r, .sweeping i⟩) ∧
  ∀ p r i, (s.port p).inProgress = some ⟨r, .sweeping i⟩ →
    ∃ c sw, (s.slot i).record = some c ∧ c.sweep = some sw ∧ sw.answers = true ∧ sw.port = p

/-- The answers of a port and its request in progress fit the queue of 8 places (10 R182). -/
def PortRec.placesOk (r : PortRec) : Prop := r.answers.length + r.inProgress.isSome.toNat ≤ 8
/-- Both ports' queues keep a place for the request in progress (10 R182). -/
def State.answersOk (s : State) : Prop := ∀ p, (s.port p).placesOk

/-- The counts of every call record are what the endpoints give: its listings, those of them that are heard, and of an ALARM those at
OUT_OF_SERVICE endpoints (02 R23; 03 R58; 08 R156). -/
def State.countsFollow (s : State) : Prop :=
  ∀ i c, (s.slot i).record = some c →
    c.listingCount = s.listingCount (s.handleOf i) ∧ c.heardCount = s.heardCount (s.handleOf i) ∧
    ∀ a, c.part = .alarm a → a.unserved = s.unservedCount (s.handleOf i)

/-- A zone's service state, its channel, its move and the spare it holds agree: IN_SERVICE on its primary; FALLBACK on a spare
assigned to it; SWITCHING with its timer running, holding a spare, toward that spare or its primary; OUT_OF_SERVICE on its primary
and waiting (01 R7; 09 R171 to R174). -/
def State.zoneOk (s : State) (z : Nat) : Prop :=
  let ep := s.ep z
  match ep.service with
  | .inService => ep.channel = z ∧ ep.movingTo = none ∧ ep.switchTimer = .stopped
  | .fallback =>
    144 ≤ ep.channel ∧ ep.channel < 160 ∧ s.spareOf ep.channel = some z ∧ ep.movingTo = none ∧ ep.switchTimer = .stopped
  | .switching => ep.switchTimer.isRunning = true ∧ ∃ sp c, 144 ≤ sp ∧ sp < 160 ∧ s.spareOf sp = some z ∧ ep.movingTo = some c ∧
      (c = z ∨ c = sp)
  | .outOfService =>
    ep.channel = z ∧ ep.movingTo = none ∧ ep.switchTimer = .stopped ∧ ∃ w ∈ s.spareWait, w.zone = z
/-- No zone holds two spares, and only a zone in FALLBACK or SWITCHING holds one; the zones that wait are OUT_OF_SERVICE, each once;
and every zone's service fields agree with the pool (09 R171 to R176). -/
def State.poolOk (s : State) : Prop :=
  (∀ c z, 144 ≤ c → c < 160 → s.spareOf c = some z →
    z < 144 ∧ ((s.ep z).service = .fallback ∨ (s.ep z).service = .switching) ∧
    ∀ d, 144 ≤ d → d < 160 → s.spareOf d = some z → d = c) ∧
  (∀ w ∈ s.spareWait, w.zone < 144 ∧ (s.ep w.zone).service = .outOfService) ∧ (s.spareWait.map (·.zone)).Nodup ∧
  ∀ z, z < 144 → s.zoneOk z

/-- ALARM DEGRADED, the list-overflow flag, the ends to collect and the attention lines are what the records give (08 R156, 09
R166, 10 R187, R189). -/
def State.pinsFollow (s : State) : Prop :=
  s.degraded = s.degradedNow ∧ s.overflow = s.overflowNow ∧
  ∀ p, (s.port p).endsToCollect = s.endsNow p ∧ (s.port p).attention = s.attentionNow p

end Sys2Proof.Machine
end

