-- ==== Sys2Proof/Certificates/Slice0/Obligations.lean ====
section
/-! DEFINITION. The statements for the provers. Each cites the rules of spec/ it rests on; the queue and the other conventions of
the model are named by their log entries. -/

open Sys2Proof Sys2Proof.Machine

/-! ## The queue and the whole machine -/

/-- A step of a state with command `c` at the front of its queue is `exec c` on the state with the queue's rest (log 1). On an
empty queue the part idles: the step leaves the state as it is, which is the model's choice (log 2). -/
def Obligations.StepRunsFrontCommand : Prop :=
  (∀ (c : Instr) (rest : List Instr) (s : State), s.pending = c :: rest → step s = exec c { s with pending := rest }) ∧
  ∀ s : State, s.pending = [] → step s = .next s

/-- Every command of the table completes, in every state: there is a next state, in which the phrase memory, which the part does
not write (07), and the queue are as before. -/
def Obligations.EveryCommandCompletes : Prop :=
  ∀ (c : Instr) (s : State), ∃ t, exec c s = .next t ∧ t.memory = s.memory ∧ t.pending = s.pending

/-! ## Resets (00 section 4.5) -/

/-- An endpoint record right after power-on, with `channel` as its channel in use (01 R2). The older mark of two empty departing
slots is the model's (log 21). -/
def powerOnEndpoint (channel : Nat) : Endpoint :=
  { fireZone := 0, role := .mono, trimA := 32768, duckA := 8192, trimB := 32768, duckB := 8192, localTrim := 32768,
    alarmTrim := 32768, enabled := true, service := .inService, channel, movingTo := none, switchTimer := .stopped,
    fg := none, fgWait := [], bg := none, bgWait := [], dep0 := none, dep1 := none, older := .zero }

/-- The general emergency alarm: seven short blasts and a long one, over and over (08 R140). Its f2, which a STEADY program does not
use, is the model's (log 21). -/
def generalAlarm : AlarmProgram :=
  { level := 15, targets := [.everywhere], shape := .steady, f1 := 800, f2 := 800, toneLevel := 32768,
    steps := [.tone 1000, .silence 1000, .tone 1000, .silence 1000, .tone 1000, .silence 1000, .tone 1000, .silence 1000,
              .tone 1000, .silence 1000, .tone 1000, .silence 1000, .tone 1000, .silence 1000, .tone 5000, .silence 3000],
    repeatCount := 0 }

/-- After power-on every record has the value its chapter gives (01 R2, R11, R17; 02 R44; 04 R67; 05 R93, R100; 07 R122, R128,
R131; 08 R140, R146, R156; 09 R159, R163, R165, R166, R170, R171; 10 R177, R187, R189). The model's own choices in it: a station's
channel 0, the older mark, an input port's last marker and program 0's f2 (log 21), the trigger pins, which stay as they are (log
22), and the list of what the Relay Link has carried (log 23). -/
def Obligations.PowerOnGivesDefaults : Prop :=
  ∀ s : State, ∃ t, exec .powerOn s = .next t ∧
    (∀ e, e < 176 → t.ep e = powerOnEndpoint (if e < 144 then e else 0)) ∧
    (∀ d, d < 16 → t.deck d = ⟨0, 0⟩) ∧ (∀ i, i < 64 → t.slot i = ⟨0, none⟩) ∧ t.expiries = [] ∧
    t.bank = .a ∧ t.swapPending = false ∧ t.mixMode = .nearest ∧ t.pendingMode = none ∧
    (∀ l, l < 192 → t.clip.get l true = false) ∧ (∀ c, c < 160 → t.peak.get c 1 = 0) ∧
    (∀ l, l < 192 → t.mixed.get l 1 = 0 ∧ t.outputs.get l 1 = 0) ∧
    (∀ i, i < 4 → t.input i = ⟨.acquiring, false, .running 4800⟩) ∧
    (∀ h, h < 4 → t.hold h = ⟨2000, [], [], .released, .stopped⟩) ∧
    (∀ i, i < 128 → (t.phrase i).state = .empty) ∧ t.verifyQueue = [] ∧ (∀ i, i < 4 → t.player i = .idle) ∧
    t.program 0 = some generalAlarm ∧ (∀ i, 1 ≤ i → i < 8 → t.program i = none) ∧
    (∀ i, i < 4 → t.trigger i =
      { program := 0, mode := if i = 0 then .latched else .off, pin := (s.trigger i).pin, debounced := false,
        timer := if (s.trigger i).pin then .running 960 else .stopped, owned := none, pending := none, lastResult := none }) ∧
    (∀ i, 60 ≤ i → i < 64 → (t.alarmSeq i).position = none) ∧ t.degraded = false ∧
    (∀ c, c < 160 → (t.channelRec c).nominal = none ∧ (t.channelRec c).state = .normal) ∧ t.supervision = ⟨16, 3, 5⟩ ∧
    t.severities.cells = [1, 2, 2, 1, 2, 1, 1] ∧ t.actions.cells = [⟨false, false⟩, ⟨true, true⟩, ⟨true, true⟩] ∧
    t.linkTimer = .running 144000 ∧ t.activeFaults = [] ∧ t.faults = [] ∧ t.overflow = false ∧
    (∀ o, o < 3 → t.faultOut o = ⟨.off, false, false, false⟩) ∧ (∀ c, 144 ≤ c → c < 160 → t.spareOf c = none) ∧
    t.spareWait = [] ∧ t.relay = [.returnAll] ∧
    (∀ p, t.port p = ⟨.empty, none, [], 0, 0, false⟩) ∧ t.marks = ⟨.bridge, .bridge, .bridge, .bridge, .bridge, .bridge, .bridge⟩

/-- The RESET input keeps the standing configuration and clears the live state (00 section 4.5; 01 R2, R11, R17; 02 R44; 04 R67;
05 R93, R100; 07 R122, R128, R131; 08 R140, R146, R156; 09 R159, R161, R165, R166, R170, R171; 10 R177, R187, R189). The model's
own choices in it: a station's channel 0, the older mark and an input port's last marker (log 21), the trigger pins, which stay as
they are (log 22), and the list of what the Relay Link has carried (log 23). -/
def Obligations.ResetInputKeepsConfiguration : Prop :=
  ∀ s : State, ∃ t, exec .resetInput s = .next t ∧
    (∀ e, e < 176 → t.ep e =
      { powerOnEndpoint (if e < 144 then e else 0) with
        fireZone := (s.ep e).fireZone, role := (s.ep e).role, trimA := (s.ep e).trimA, duckA := (s.ep e).duckA,
        trimB := (s.ep e).trimB, duckB := (s.ep e).duckB, localTrim := (s.ep e).localTrim, alarmTrim := (s.ep e).alarmTrim,
        enabled := (s.ep e).enabled }) ∧
    t.decks = s.decks ∧ (∀ i, i < 64 → t.slot i = ⟨(s.slot i).gen, none⟩) ∧ t.expiries = [] ∧
    t.bank = s.bank ∧ t.swapPending = false ∧ t.mixMode = s.mixMode ∧ t.pendingMode = none ∧
    (∀ l, l < 192 → t.clip.get l true = false) ∧ (∀ c, c < 160 → t.peak.get c 1 = 0) ∧
    (∀ l, l < 192 → t.mixed.get l 1 = 0 ∧ t.outputs.get l 1 = 0) ∧
    (∀ i, i < 4 → t.input i = ⟨.acquiring, false, .running 4800⟩) ∧
    (∀ h, h < 4 → t.hold h = ⟨(s.hold h).delay, [], [], .released, .stopped⟩) ∧
    (∀ i, i < 128 → t.phrase i = { s.phrase i with state := if (s.phrase i).state = .verifying then .defined else (s.phrase i).state }) ∧
    t.verifyQueue = [] ∧ (∀ i, i < 4 → t.player i = .idle) ∧ t.programs = s.programs ∧
    (∀ i, i < 4 → t.trigger i =
      { program := (s.trigger i).program, mode := (s.trigger i).mode, pin := (s.trigger i).pin, debounced := false,
        timer := if (s.trigger i).pin then .running 960 else .stopped, owned := none, pending := none, lastResult := none }) ∧
    (∀ i, 60 ≤ i → i < 64 → (t.alarmSeq i).position = none) ∧ t.degraded = false ∧
    (∀ c, c < 160 → (t.channelRec c).nominal = (s.channelRec c).nominal ∧ (t.channelRec c).state = .normal) ∧
    t.supervision = s.supervision ∧ t.severities = s.severities ∧ t.actions = s.actions ∧
    t.linkTimer = .running 144000 ∧ t.activeFaults = [] ∧ t.faults = [] ∧ t.overflow = false ∧
    (∀ o, o < 3 → t.faultOut o = ⟨(s.faultOut o).mode, false, false, false⟩) ∧
    (∀ c, 144 ≤ c → c < 160 → t.spareOf c = none) ∧ t.spareWait = [] ∧ t.relay = [.returnAll] ∧
    (∀ p, t.port p = ⟨.empty, none, [], 0, 0, false⟩) ∧ t.marks = ⟨.bridge, .bridge, .bridge, .bridge, .bridge, .bridge, .bridge⟩

/-! ## The command ports (10) -/

/-- The parameter length the request table gives a code, with the frame's own count bytes (10 section 10.3). -/
def tableLength (code : Nat) (params : List Nat) : Option Nat :=
  match code with
  | 1 => some 0
  | 16 => some 7
  | 17 => some 3
  | 18 => some 3
  | 19 => some 1
  | 20 => some (7 + 4 * params.getD 1 0)
  | 21 => some 0
  | 32 => some (24 + 4 * params.getD 23 0)
  | 33 => some (3 + 4 * params.getD 2 0)
  | 34 => some (3 + 4 * params.getD 2 0)
  | 35 => some 6
  | 36 => some 2
  | 37 => some 2
  | 38 => some 2
  | 39 => some 0
  | 40 => some 4
  | 48 => some 1
  | 49 => some 4
  | 64 => some 10
  | 65 => some 1
  | 66 => some 1
  | 67 => some 1
  | 80 => some (if params.getD 1 0 = 1 then 2 else 13 + 3 * params.getD 11 0 + 4 * params.getD 12 0)
  | 81 => some 1
  | 82 => some 1
  | 83 => some 3
  | 96 => some 5
  | 97 => some 1
  | 98 => some 1
  | 99 => some 2
  | 100 => some 4
  | 101 => some 1
  | 102 => some 3
  | 103 => some 4
  | 104 => some 1
  | _ => none

/-- The ports read a request from a frame exactly where the code is one of the table's and the parameter length is the one the
table gives for it (10 R183). That SET_BANK's count byte is its second is the model's order of the fields (log 17). -/
def Obligations.RequestLengthsFollowTable : Prop :=
  ∀ (p : Port) (code tag : Nat) (params : List Nat),
    (decodeRequest p code tag params).isSome = true ↔ tableLength code params = some params.length

/-- The parameter bytes of every well-formed request decode to that request: no field of a request frame is lost (10 R178). The
order of the fields of SET_BANK and SET_CALL_GAIN is the model's (log 17). -/
def Obligations.RequestFramesRoundTrip : Prop :=
  ∀ (c : Instr) (p : Port), c.wellFormed = true → c.requestPort = some p → decodeRequest p c.code c.tag c.params = some c

/-- The bytes of a request's frame. -/
def frameBytes (c : Instr) : List Byte := c.frame.map (BitVec.ofNat 8)

/-- A well-formed request other than STATUS becomes a port's request in progress, and nothing else in the part changes: sent byte
by byte to a Bridge Port with an empty assembler, no request in progress and a place in its queue; or sent whole in one chip-select
period of the System Port with no answer in its queue, whose bytes after the frame are not read (10 R178, R180, R181, R183). -/
def Obligations.PortsReceiveRequests : Prop :=
  (∀ (c : Instr) (s : State), c.wellFormed = true → c.requestPort = some .bridge → (∀ tag, c ≠ .status .bridge tag) →
    s.bridge.assembler = .empty → s.bridge.inProgress = none → s.bridge.answers.length < 8 →
    (frameBytes c).foldl (fun o b => match o with | .next u => exec (.bridgeByteReceived b false) u | x => x)
      (Host.Outcome.next s) =
      Host.Outcome.next { s with bridge := { s.bridge with inProgress := some ⟨c, .waiting⟩ } }) ∧
  (∀ (c : Instr) (s : State) (more : List Byte) (shown : Bool), c.wellFormed = true → c.requestPort = some .system →
    (∀ tag, c ≠ .status .system tag) → s.system.inProgress = none → s.system.answers = [] →
    exec (.systemPeriodEnd (frameBytes c ++ more) shown) s =
      .next { s with system := { s.system with inProgress := some ⟨c, .waiting⟩ } })

/-- A port's record after a frame is thrown away: one more frame discarded, up to 255 (10 R177). -/
def discardedOne (r : PortRec) : PortRec := { r with discarded := min (r.discarded + 1) 255 }

/-- What a byte does at the Bridge Port's frame assembler, and what a gap of 20 ms and the last byte of an answer do (10 R180): a
0 while the assembler is empty is passed over; a framing error, or a header with a length above 512, discards the frame and every
byte up to the next gap; a frame is complete on its last byte; a gap empties the assembler, with a count if a frame was begun; a
sent answer leaves the queue. The model's own: a framing error does the same while the assembler is empty (log 25), and a sent
answer of an empty queue or a gap at an empty assembler does nothing (log 8). -/
def Obligations.BridgeLinkBytes : Prop :=
  ∀ (s : State) (b : Byte) (err : Bool),
    (s.bridge.assembler = .empty → b = 0 → err = false → exec (.bridgeByteReceived b err) s = .next s) ∧
    (s.bridge.assembler = .discarding → exec (.bridgeByteReceived b err) s = .next s) ∧
    (s.bridge.assembler ≠ .discarding → err = true →
      exec (.bridgeByteReceived b err) s = .next { s with bridge := discardedOne { s.bridge with assembler := .discarding } }) ∧
    (∀ bytes, err = false →
      (s.bridge.assembler = .collecting bytes ∨ (s.bridge.assembler = .empty ∧ bytes = [] ∧ b ≠ 0)) →
      (bytes.length + 1 < 4 →
        exec (.bridgeByteReceived b err) s = .next { s with bridge := { s.bridge with assembler := .collecting (bytes ++ [b]) } }) ∧
      (4 ≤ bytes.length + 1 → 512 < headerLength (bytes ++ [b]) →
        exec (.bridgeByteReceived b err) s = .next { s with bridge := discardedOne { s.bridge with assembler := .discarding } }) ∧
      (4 ≤ bytes.length + 1 → headerLength (bytes ++ [b]) ≤ 512 → bytes.length + 1 < 4 + headerLength (bytes ++ [b]) →
        exec (.bridgeByteReceived b err) s = .next { s with bridge := { s.bridge with assembler := .collecting (bytes ++ [b]) } }) ∧
      (4 ≤ bytes.length + 1 → headerLength (bytes ++ [b]) ≤ 512 → 4 + headerLength (bytes ++ [b]) ≤ bytes.length + 1 →
        exec (.bridgeByteReceived b err) s =
          .next (State.frameIn { s with bridge := { s.bridge with assembler := .empty } } .bridge (bytes ++ [b])))) ∧
    (s.bridge.assembler = .empty → exec .bridgeInterbyteTimeout s = .next s) ∧
    (∀ bytes, s.bridge.assembler = .collecting bytes →
      exec .bridgeInterbyteTimeout s = .next { s with bridge := discardedOne { s.bridge with assembler := .empty } }) ∧
    (s.bridge.assembler = .discarding →
      exec .bridgeInterbyteTimeout s = .next { s with bridge := { s.bridge with assembler := .empty } }) ∧
    exec .bridgeAnswerSent s = .next { s with bridge := { s.bridge with answers := s.bridge.answers.tail } }

/-- The end of a chip-select period (10 R181): an answer shown from the period's first byte and shifted out whole leaves the
queue, before the frame received is decided; a first byte of 0 carries no request; a frame broken off, or of a length above 512,
is discarded and counted. That a period in which no whole byte is received carries no request and counts nothing is the model's
choice (log 35), and so is that a reset taken within the period leaves the whole of it to be decided so at its end (log 37). -/
def Obligations.SystemPeriodCarriesFrames : Prop :=
  ∀ (s : State) (inward : List Byte) (shown : Bool),
    let r : PortRec :=
      if shown = true ∧ s.system.answers.head?.any (fun a => decide (5 + a.data.length ≤ inward.length)) = true then
        { s.system with answers := s.system.answers.tail }
      else s.system
    ((inward = [] ∨ inward.head? = some 0) → exec (.systemPeriodEnd inward shown) s = .next { s with system := r }) ∧
    (inward ≠ [] → inward.head? ≠ some 0 →
      (inward.length < 4 ∨ 512 < headerLength inward ∨ inward.length < 4 + headerLength inward) →
      exec (.systemPeriodEnd inward shown) s = .next { s with system := discardedOne r }) ∧
    (inward ≠ [] → inward.head? ≠ some 0 → 4 ≤ inward.length → headerLength inward ≤ 512 →
      4 + headerLength inward ≤ inward.length →
      exec (.systemPeriodEnd inward shown) s =
        .next (State.frameIn { s with system := r } .system (inward.take (4 + headerLength inward))))

/-- The command phase of a complete frame (10 R182, R183): with no place free beside the one kept for a request in progress it is
discarded and counted; with a request in progress it is answered BUSY; with an unknown code or a wrong length BAD_REQUEST; a
STATUS is taken by the port; any other becomes the request in progress. -/
def CommandPhaseOfFrame : Prop :=
  ∀ (s : State) (p : Port) (bytes : List Byte),
    let code := (bytes.getD 0 0).toNat
    let tag := (bytes.getD 1 0).toNat
    let request := decodeRequest p code tag ((bytes.map BitVec.toNat).drop 4)
    let r := s.port p
    (8 ≤ r.answers.length + r.inProgress.isSome.toNat → r.inProgress = none → s.frameIn p bytes = s.setPort p (discardedOne r)) ∧
    (8 ≤ r.answers.length + r.inProgress.isSome.toNat → ∀ c ph, r.inProgress = some ⟨c, ph⟩ → (∀ q tag, c ≠ .status q tag) →
      s.frameIn p bytes = s.setPort p (discardedOne r)) ∧
    (∀ c ph, r.answers.length < 7 → r.inProgress = some ⟨c, ph⟩ → (∀ q tag, c ≠ .status q tag) →
      s.frameIn p bytes = s.setPort p { r with answers := r.answers ++ [⟨code, tag, .busy, []⟩] }) ∧
    (r.answers.length < 8 → r.inProgress = none →
      (request = none → s.frameIn p bytes = s.setPort p { r with answers := r.answers ++ [⟨code, tag, .badRequest, []⟩] }) ∧
      (∀ c, request = some c → (∀ q tag, c ≠ .status q tag) →
        s.frameIn p bytes = s.setPort p { r with inProgress := some ⟨c, .waiting⟩ }) ∧
      (∀ t, request = some (.status p t) →
        s.frameIn p bytes =
          s.setPort p { r with answers := r.answers ++ [⟨1, t, .ok, s.statusData p⟩], discarded := 0 }))

/-- A request that comes while its port has another one in progress is answered BUSY with its own code and tag, and nothing else
changes (10 R183 step 1). -/
def SecondRequestIsBusy : Prop :=
  ∀ (c : Instr) (p : Port) (s : State) (ip : InProgress), c.requestPort = some p → (s.port p).inProgress = some ip →
    ip ≠ ⟨c, .waiting⟩ → (s.port p).answers.length < 7 → exec c s = .next (s.queued p c .busy [])

/-- The command phase of a complete frame, and of a request while another is in progress (10 R182, R183). -/
def Obligations.CommandPhaseDecides : Prop := CommandPhaseOfFrame ∧ SecondRequestIsBusy

/-- Where both ports ask for an owner's turn, it goes to the port other than the one its mark names, and the mark then names the
port served; a port that asks alone has the turn, and the mark stays as it is. A request that comes without the turn waits as the
request in progress, and nothing else changes (10 R183, R185; log 3, 4). -/
def Obligations.OwnersServePortsInTurn : Prop :=
  (∀ (s : State) (o : Owner) (p : Port),
    ((s.port p.other).asks o = true → (s.hasTurn p o = true ↔ s.marks.get o = p.other)) ∧
    ((s.port p.other).asks o = false → s.hasTurn p o = true ∧ s.serve p o = s) ∧
    ((s.port p.other).asks o = true → (s.serve p o).marks.get o = p) ∧
    (∀ o', o' ≠ o → (s.serve p o).marks.get o' = s.marks.get o') ∧ { s.serve p o with marks := s.marks } = s) ∧
  ∀ (c : Instr) (p : Port) (o : Owner) (s : State), c.requestPort = some p → ownerOfCode c.code = some o →
    (s.port p).inProgress = none → (s.port p).answers.length < 8 → s.hasTurn p o = false →
    exec c s = .next (s.setPort p { s.port p with inProgress := some ⟨c, .waiting⟩ })

/-- STATUS is answered OK with its items in the order of the table, and the port's frames-discarded count becomes 0; nothing else
changes (10 R178, R179, R188; the layout of the data and the order of the alarm handles, by slot, are the model's, log 18). -/
def Obligations.StatusAnswersItems : Prop :=
  ∀ (s : State) (p : Port) (tag : Nat), (s.port p).inProgress = none → (s.port p).answers.length < 8 →
    exec (.status p tag) s = .next (s.setPort p
      { s.port p with
        discarded := 0
        answers := (s.port p).answers ++ [⟨1, tag, .ok,
          byte1 (s.port p).endsToCollect ++ byte1 (s.faults.countP fun x => !(x.reported p)) ++ byteFlag s.overflow ++
          byteList byteHandle (s.handles.filter fun h => (s.call h).any fun c => c.type == .alarm && c.state.live) ++
          byteFlag s.degraded ++ s.holds.cells.flatMap (fun h => byteFlag (h.state != .released)) ++
          s.faultOuts.cells.flatMap (fun o => byteFlag o.level ++ byteFlag o.latch) ++
          byte1 s.bank.code ++ byteFlag s.swapPending ++ byte1 s.mixMode.code ++ byte1 (s.port p).discarded⟩] })

/-- Every step keeps the answer queues within 8 places, the place kept for the request in progress counted (10 R182). -/
def Obligations.AnswerPlaceKept : Prop := ∀ s t : State, s.answersOk → step s = .next t → t.answersOk

/-- Every step keeps ALARM DEGRADED, the list-overflow flag, the counts of ends to collect and the attention lines equal to what
the records give, and from a state whose records and listings are in order the listing, heard and unserved counts of every call
record equal to what the endpoints give (02 R23; 03 R58; 08 R156; 09 R166; 10 R187, R189). -/
def Obligations.PinsAndCountsFollowRecords : Prop :=
  (∀ s t : State, s.pinsFollow → step s = .next t → t.pinsFollow) ∧
  ∀ s t : State, s.callsOk → s.listingsOk → s.countsFollow → step s = .next t → t.countsFollow

/-! ## Ends of calls and departures, for the statements below -/

/-- Some term of the call has an applied coefficient above 0 (02 R27). -/
def Sounding (t : State) (h : Handle) : Prop := ∃ ep ∈ t.endpoints.cells, ∃ tm ∈ ep.terms, tm.call = h ∧ 0 < tm.applied

/-- The speakers of a TALK call: the participants whose listing at their station is ADMITTED and not muted (04 R74). -/
def joined (s : State) (h : Handle) (ps : List Participant) : List Nat :=
  (ps.map (·.station)).filter fun st =>
    match (s.ep st).fg with
    | some a => decide (a.listing.call = h) && !a.listing.muted
    | none => false

/-- What the entry to ENDING, from state `s`, leaves of the part `p` of a record that belongs to its type: a MESSAGE is FINISHED, with
no player, at the position it had, whose sample offset is the player's while it has one; a TALK's list is empty, and the speakers and
the leader of that moment are kept for the fade; an ALARM keeps its program and its flag (04 R76; 06 R119; 07 R131, R136). -/
def EndingKeeps (s : State) (h : Handle) (p q : CallPart) : Prop :=
  match p with
  | .message m =>
    q = .message { m with
      offset := match m.player with | some i => (s.player i).offset | none => m.offset, player := none, playback := .finished }
  | .talk k =>
    q = .talk { k with
      participants := [], kept := joined s h k.participants, keptLeader := k.participants.head?.map (·.station) }
  | .alarm a => ∃ n, q = .alarm { a with unserved := n }
  | .page => q = .page
  | .program o lv => q = .program o lv

/-- The record of the call in `t` has what its entry to ENDING, from state `s` with part `p`, has left of that part. -/
def EndedKeeping (s t : State) (h : Handle) (p : CallPart) : Prop :=
  ∃ u, t.slot h.slot = ⟨h.gen, some u⟩ ∧ EndingKeeps s h p u.part

/-- A TALK's part without station `e`, the entries behind it moved up; any other part as it is (06 R108). -/
def withoutStation (e : Nat) (p : CallPart) : CallPart :=
  match p with
  | .talk k => .talk { k with participants := k.participants.filter (·.station ≠ e) }
  | .message m => .message m
  | .alarm a => .alarm a
  | .page => .page
  | .program o lv => .program o lv

/-- A call has ended in `t`: its record has a reason, no sweep and no counts, and no listing names it. It is ENDING while a term
of it sounds; with none it is ENDED, and its expiry timer runs with 5,000 ms, marked with its slot and generation. A MESSAGE is
FINISHED and has no player, a TALK's list is empty; the step position of an ALARM is cleared, its generator is at phase 0, and no
trigger input owns it (02 R26 to R28; 06 R119; 07 R136; 08 R155). -/
def EndedIn (t : State) (h : Handle) (x : EndReason) : Prop :=
  (∃ r, t.slot h.slot = ⟨h.gen, some r⟩ ∧ (Sounding t h → r.state = .ending) ∧ (¬ Sounding t h → r.state = .ended) ∧
    r.reason = some x ∧ r.sweep = none ∧ r.listingCount = 0 ∧ r.heardCount = 0 ∧
    (∀ m, r.part = .message m → m.player = none ∧ m.playback = .finished) ∧ (∀ k, r.part = .talk k → k.participants = []) ∧
    (r.type = .alarm → (t.alarmSeq h.slot).position = none ∧ (t.alarmSeq h.slot).phase = 0 ∧
      ∀ i, i < 4 → (t.trigger i).owned ≠ some h)) ∧
  (¬ Sounding t h → ⟨h.slot, h.gen, .running 240000⟩ ∈ t.expiries) ∧
  ∀ e cl, ∀ l ∈ (t.ep e).listings cl, l.call ≠ h

/-- The request of an answering sweep in slot `i` is answered. -/
def SweepAnswered (s t : State) (i : Nat) (sw : Sweep) (a : AnswerCode) (data : List Byte) : Prop :=
  ∀ r, sw.answers = true → (s.port sw.port).inProgress = some ⟨r, .sweeping i⟩ → AnsweredWith s t sw.port r a data

/-- The data of a sweep stopped by its call's entry to ENDING: the handle with the taken, skipped and bumped counts so far and a
heard count of 0 (02 R33, R35, R36; layout log 18). That a DROP sweep has the removed and not-listed counts so far and the state
ENDING in their place is the model's choice (log 28). -/
def stoppedData (h : Handle) (sw : Sweep) : List Byte :=
  if sw.kind = .drop then byte1 sw.removed ++ byte1 sw.notListed ++ byte1 3
  else byteHandle h ++ byte1 sw.taken ++ byte1 sw.skipped ++ byte1 sw.bumped ++ byte1 0

/-- The endpoint after the term of an admitted listing has left its slot, with the departing slot it took: a term at 0 or of ramp
code 0 is dropped; any other moves, with target 0, to the lower-numbered free departing slot (log 12), or with none free cuts the
older term, whose slot it takes and whose fading links are cleared (03 R48, R52, R54). -/
def leaveSlot (a : Admitted) (ep : Endpoint) : Endpoint × Option DepSlot :=
  if a.term.applied = 0 ∨ a.term.ramp = 0 then (ep, none)
  else
    let sl : DepSlot := if ep.dep0 = none then .zero else if ep.dep1 = none then .one else ep.older
    let clear := fun (l : Listing) => if l.fading = some sl then { l with fading := none } else l
    let d : Departing := ⟨{ a.term with target := 0 }, a.listing.level, a.listing.override⟩
    ({ ep with
        dep0 := if sl = .zero then some d else ep.dep0, dep1 := if sl = .one then some d else ep.dep1, older := sl.other,
        fgWait := ep.fgWait.map clear, bgWait := ep.bgWait.map clear }, some sl)

/-- The hold outputs of `t` have heard the reports of a change of places at endpoint `e` of `s`: a beginning of a bound call's
interruption has entered its pair and asserted the output, and an end has removed its pair (03 R63; 05 R102, R103). -/
def HoldsHear (s t : State) (e : Nat) (reports : List Report) : Prop :=
  ∀ k o, o < 4 →
    (.interruption k o true ∈ reports → .interruption k o false ∉ reports → k ∈ (s.hold o).bound →
      (k, e) ∈ (t.hold o).pairs ∧ (t.hold o).state = .asserted) ∧
    (.interruption k o false ∈ reports → .interruption k o true ∉ reports → (k, e) ∉ (t.hold o).pairs)

/-! ## The Endpoint Table (01, 05 section 5.2) -/

/-- SET_ENDPOINT answers the first check that fails and changes nothing else (01 R8). That an enabled byte above 1 is refused with
the other fields out of range is the model's choice (log 19). -/
def SetEndpointRefuses : Prop :=
  ∀ (s : State) (p : Port) (tag e : Nat) (z r n a : Option Nat), s.mayTake p .endpointTable = true →
    let c : Instr := .setEndpoint p tag e z r n a
    let refused := fun code => exec c s = .next (s.replied p .endpointTable c code [])
    (z = none → r = none → n = none → a = none → refused .badParam) ∧
    (175 < e → refused .badParam) ∧
    (144 ≤ e → z.isSome = true ∨ r.isSome = true → refused .badParam) ∧
    ((∃ v, z = some v ∧ 7 < v) ∨ (∃ v, r = some v ∧ 2 < v) ∨ (∃ v, n = some v ∧ 1 < v) → refused .badParam) ∧
    (e ≤ 175 → (144 ≤ e → z = none ∧ r = none) → z.all (· ≤ 7) = true →
      r.all (· ≤ 2) = true → n.all (· ≤ 1) = true → a.isSome = true → p = .system → refused .locked)

/-- A SET_ENDPOINT that passes its checks stores its fields, the alarm trim clamped, at its endpoint alone, and is answered OK;
an endpoint it disables is left with ALARM listings alone (01 R5, R6, R8). -/
def SetEndpointStores : Prop :=
  ∀ (s : State) (p : Port) (tag e : Nat) (z r n a : Option Nat) (role : Option Role) (enabled : Option Bool),
    s.mayTake p .endpointTable = true → s.sweepsHeld → (z.isSome = true ∨ r.isSome = true ∨ n.isSome = true ∨ a.isSome = true) →
    e ≤ 175 → (144 ≤ e → z = none ∧ r = none) → z.all (· ≤ 7) = true → optCode Role.ofCode r = some role →
    optCode flagOfCode n = some enabled → (a.isSome = true → p = .bridge) →
    ∃ t, exec (.setEndpoint p tag e z r n a) s = .next t ∧ AnsweredWith s t p (.setEndpoint p tag e z r n a) .ok [] ∧
      t.standing = State.standing ((s.serve p .endpointTable).setEp e
        { s.ep e with fireZone := z.getD (s.ep e).fireZone, role := role.getD (s.ep e).role,
                      enabled := enabled.getD (s.ep e).enabled,
                      alarmTrim := (a.map fun v => if v < 8192 then 8192 else if 32768 < v then 32768 else v).getD
                        (s.ep e).alarmTrim }) ∧
      ((s.ep e).enabled = true → enabled = some false → ∀ cl, ∀ l ∈ (t.ep e).listings cl, l.type = .alarm)

/-- The endpoint after the admitted listing of a class, if it is no ALARM's, has left its slot. -/
def leaveUnlessAlarm (c : ListClass) (ep : Endpoint) : Endpoint :=
  match ep.slot c with
  | some a => if a.listing.type = .alarm then ep else (leaveSlot a ep).1
  | none => ep

/-- A SET_ENDPOINT that disables an endpoint: the foreground term and then the background term depart, and the hold outputs hear of
the listings that leave. A TALK loses the station, and the entries behind it move up. A call with a listing there that is listed
nowhere else ends with NO_TARGETS, its record keeping what EndingKeeps says of its part, and a DROP sweep of it stops; with an OPEN or
ADD sweep in progress it goes on, and the sweep keeps that reason for its end. A call listed elsewhere goes on as it was (01 R6; 02
R34, R36; 03 R59, R61; 06 R108, R111, R119; 07 R136). That a term enters the lower-numbered of two free
departing slots is the model's choice (log 12), as is the data of the DROP sweep's answer (log 28; layout log 18). -/
def DisablingDelists : Prop :=
  ∀ (s : State) (p : Port) (tag e : Nat) (z r a : Option Nat) (role : Option Role),
    s.mayTake p .endpointTable = true → s.callsOk → s.sweepsHeld → s.listingsOk → s.placesOk → e ≤ 175 →
    (144 ≤ e → z = none ∧ r = none) → z.all (· ≤ 7) = true → optCode Role.ofCode r = some role → (a.isSome = true → p = .bridge) →
    (s.ep e).enabled = true →
    let left := leaveUnlessAlarm .background (leaveUnlessAlarm .foreground (s.ep e))
    ∃ t, exec (.setEndpoint p tag e z r (some 0) a) s = .next t ∧ (t.ep e).dep0 = left.dep0 ∧ (t.ep e).dep1 = left.dep1 ∧
      (∀ e', e' ≠ e → t.ep e' = s.ep e') ∧
      ∀ h c, s.call h = some c → c.type ≠ .alarm → (s.ep e).lists h = true →
        let elsewhere := ∃ e', e' < 176 ∧ e' ≠ e ∧ (s.ep e').lists h = true
        (∀ l ∈ (s.ep e).listings .background, l.call = h → l.interrupted = true → ∀ o lv, s.ctx.holdOf h = some (o, lv) → o < 4 →
          (h, e) ∉ (t.hold o).pairs) ∧
        (¬ elsewhere → c.delivering = false → EndedIn t h .noTargets ∧
          (s.playersOk → EndedKeeping s t h (withoutStation e c.part)) ∧
          ∀ sw, c.sweep = some sw → SweepAnswered s t h.slot sw .unknownCall (stoppedData h sw)) ∧
        (elsewhere ∨ c.delivering = true → ∃ u, t.slot h.slot = ⟨h.gen, some u⟩ ∧ u.state = c.state ∧
          (elsewhere → u.sweep = c.sweep) ∧
          (¬ elsewhere → u.sweep = c.sweep.map fun sw => { sw with lastLoss := some .noTargets }) ∧
          ∀ k, c.part = .talk k → u.part = .talk { k with participants := k.participants.filter (·.station ≠ e) })

/-- SET_ENDPOINT's checks, what it stores when they pass, and what a disabling does to the calls listed there (01 R5, R6, R8). -/
def Obligations.SetEndpointChecksAndStores : Prop := SetEndpointRefuses ∧ SetEndpointStores ∧ DisablingDelists

/-- SET_LOCAL_TRIM stores the trim, at most 32,768, at a zone and retargets its background term; for a station or a number
above 175 it is refused BAD_PARAM. Nothing else changes (01 R4). -/
def Obligations.SetLocalTrimStores : Prop :=
  ∀ (s : State) (p : Port) (tag e trim : Nat), s.mayTake p .endpointTable = true →
    let c : Instr := .setLocalTrim p tag e trim
    (143 < e → exec c s = .next (s.replied p .endpointTable c .badParam [])) ∧
    (e ≤ 143 → exec c s = .next (State.replied
      (s.setEp e (Endpoint.refit ⟨s.mixMode, s.bank, s.calls⟩ .background { s.ep e with localTrim := min trim 32768 }))
      p .endpointTable c .ok []))

/-- SET_DECK: a number, count or run out of range, or a run that meets another deck, is refused BAD_PARAM and changes nothing;
count 0 leaves the deck unused and its zones in no deck; otherwise the run is written and its zones are in the deck. No listing
and no sweep is touched (01 R12). That an unused deck's stored first zone stays is the model's (log 29). -/
def Obligations.SetDeckKeepsRunsApart : Prop :=
  ∀ (s : State) (p : Port) (tag d first count : Nat), s.mayTake p .endpointTable = true →
    let c : Instr := .setDeck p tag d first count
    let refused := exec c s = .next (s.replied p .endpointTable c .badParam [])
    let meets := ∃ k z, k < 16 ∧ k ≠ d ∧ (s.deck k).covers z = true ∧ first ≤ z ∧ z < first + count
    (15 < d ∨ 144 < count → refused) ∧
    (d ≤ 15 → count = 0 →
      let u : State := { s with decks := s.decks.set d { s.deck d with count := 0 } }
      exec c s = .next (u.replied p .endpointTable c .ok []) ∧
      (s.decksOk → ∀ z, (s.deck d).covers z = true → u.deckOf z = none)) ∧
    (1 ≤ count → 143 < first ∨ 143 < first + count - 1 → refused) ∧
    (1 ≤ count → meets → refused) ∧
    (d ≤ 15 → 1 ≤ count → first + count ≤ 144 → ¬ meets →
      let u : State := { s with decks := s.decks.set d ⟨first, count⟩ }
      exec c s = .next (u.replied p .endpointTable c .ok []) ∧ ∀ z, first ≤ z → z < first + count → u.deckOf z = some d)

/-- QUERY_ENDPOINT is answered OK with the endpoint's record and clears the clip flag of the endpoint's lane, and changes nothing
else: a station's listen lane, the lane of the channel in use of a zone IN_SERVICE or FALLBACK, of the channel a SWITCHING zone
moves to, of the primary of a zone OUT_OF_SERVICE. Above 175 it is refused (01 R9, R10; the layout of the data is log 18). -/
def Obligations.QueryEndpointClearsClip : Prop :=
  ∀ (s : State) (p : Port) (tag e lane : Nat), s.mayTake p .endpointTable = true →
    let c : Instr := .queryEndpoint p tag e
    (175 < e → exec c s = .next (s.replied p .endpointTable c .badParam [])) ∧
    (e ≤ 175 →
      (144 ≤ e ∧ lane = e + 16 ∨
        e < 144 ∧ ((s.ep e).service = .inService ∨ (s.ep e).service = .fallback) ∧ lane = (s.ep e).channel ∨
        e < 144 ∧ (s.ep e).service = .switching ∧ (s.ep e).movingTo = some lane ∨
        e < 144 ∧ (s.ep e).service = .outOfService ∧ lane = e) →
      exec c s = .next (State.replied { s with clip := s.clip.set lane false } p .endpointTable c .ok (s.endpointData e)))

/-- SET_BANK answers the first check that fails and writes nothing then; otherwise the named bank's trim and depth are stored, at
most 32,768, at every endpoint of the expanded list, and nothing else changes (05 R94, R95). -/
def Obligations.SetBankWritesStandby : Prop :=
  ∀ (s : State) (p : Port) (tag bank : Nat) (ds : List Descriptor) (trim depth : Option Nat),
    s.mayTake p .endpointTable = true →
    let c : Instr := .setBank p tag bank ds trim depth
    let refused := fun code => exec c s = .next (s.replied p .endpointTable c code [])
    (1 < bank → refused .badParam) ∧ (trim = none → depth = none → refused .badParam) ∧
    (∀ code, bank ≤ 1 → (trim.isSome = true ∨ depth.isSome = true) → s.checkTargets ds = .error code → refused code) ∧
    (∀ bk ts, Bank.ofCode bank = some bk → (trim.isSome = true ∨ depth.isSome = true) → s.checkTargets ds = .ok ts →
      (bk = s.bank ∨ s.swapPending = true → refused .notReady) ∧
      (bk ≠ s.bank → s.swapPending = false → exec c s = .next (State.replied
        { s with endpoints := s.endpoints.mapIdx fun e ep =>
            if e ∈ s.expandAll ts then
              (match bk with
                | .a => { ep with trimA := (trim.map (min · 32768)).getD ep.trimA, duckA := (depth.map (min · 32768)).getD ep.duckA }
                | .b => { ep with trimB := (trim.map (min · 32768)).getD ep.trimB, duckB := (depth.map (min · 32768)).getD ep.duckB })
            else ep }
        p .endpointTable c .ok (byte1 bank ++ byte1 (s.expandAll ts).length))))

/-- A change of bank or of rounding mode waits for the next frame boundary. BANK_SWAP sets the swap-pending mark and stays in
progress, or is refused NOT_READY while a swap is pending; SET_MIX_MODE sets the pending mode, in place of an earlier one, and is
answered OK, or is refused BAD_PARAM for a mode that is none (04 R88; 05 R96). -/
def Obligations.BankAndModeChangesArePending : Prop :=
  ∀ (s : State) (p : Port) (tag mode : Nat),
    (s.mayTake p .endpointTable = true → s.swapPending = true →
      exec (.bankSwap p tag) s = .next (s.replied p .endpointTable (.bankSwap p tag) .notReady [])) ∧
    (s.mayTake p .endpointTable = true → s.swapPending = false →
      exec (.bankSwap p tag) s =
        .next (State.begun { s with swapPending := true } p .endpointTable (.bankSwap p tag) .swapping)) ∧
    (s.mayTake p .mixEngine = true → mode ≤ 1 →
      exec (.setMixMode p tag mode) s = .next (State.replied
        { s with pendingMode := some (if mode = 0 then .nearest else .truncate) } p .mixEngine (.setMixMode p tag mode) .ok [])) ∧
    (s.mayTake p .mixEngine = true → 1 < mode →
      exec (.setMixMode p tag mode) s = .next (s.replied p .mixEngine (.setMixMode p tag mode) .badParam []))

/-- Every step keeps the endpoints' trims, depths and fire zones in their ranges, the decks apart, and the supervision settings,
severities, release delays and alarm programs, with their targets and steps, in theirs (01 R2, R5, R11, R13; 05 R93, R100; 08 R139,
R141; 09 R159, R165). -/
def Obligations.ConfigurationStaysInRange : Prop :=
  ∀ s t : State, step s = .next t →
    (s.rangesOk → t.rangesOk) ∧ (s.decksOk → t.decksOk) ∧ (s.settingsOk → t.settingsOk)

/-! ## Target descriptors (01 section 1.6) -/

/-- A descriptor passes its own check: a known kind, its parameters in their ranges (01 R13). -/
def PassesCheck (d : Descriptor) : Prop :=
  (d.kind = 1 ∧ d.p1 ≤ 175) ∨ (d.kind = 2 ∧ d.p1 ≤ 175 ∧ 1 ≤ d.p2 ∧ d.p2 ≤ 176) ∨ (d.kind = 3 ∧ d.p1 ≤ 15) ∨
  (d.kind = 4 ∧ d.p1 ≤ 7) ∨ (d.kind = 5 ∧ d.p1 ≤ 15 ∧ d.p2 ≤ 7) ∨ d.kind = 6 ∨ d.kind = 7 ∨ d.kind = 8

/-- The target that a descriptor with a known kind names (10 R178). -/
def namedTarget (d : Descriptor) : Target :=
  match d.kind with
  | 1 => .endpoint d.p1
  | 2 => .range d.p1 d.p2
  | 3 => .deck d.p1
  | 4 => .fireZone d.p1
  | 5 => .deckFire d.p1 d.p2
  | 6 => .allZones
  | 7 => .allStations
  | _ => .everywhere

/-- The targets that need the geometry in use (01 R13). -/
def NeedsDecks : Target → Prop
  | .range e _ => e < 144
  | .deck _ => True
  | .fireZone _ => True
  | .deckFire _ _ => True
  | _ => False

/-- The check of a descriptor list: 1 to 16 descriptors, each passing its own check, or BAD_PARAM; then the geometry in use, or no
descriptor that needs it, or NOT_READY. A list that passes is the list of its targets. An alarm program's list has the same two
tests, each at its own time (01 R11, R13; 08 R141). -/
def ListsAreChecked : Prop :=
  ∀ (s : State) (ds : List Descriptor) (ts : List Target),
    let good := 1 ≤ ds.length ∧ ds.length ≤ 16 ∧ ∀ d ∈ ds, PassesCheck d
    let inUse := ∃ k, k < 16 ∧ 0 < (s.deck k).count
    (¬ good → s.checkTargets ds = .error .badParam) ∧
    (good → (∃ d ∈ ds, NeedsDecks (namedTarget d)) → ¬ inUse → s.checkTargets ds = .error .notReady) ∧
    (good → ((∀ d ∈ ds, ¬ NeedsDecks (namedTarget d)) ∨ inUse) → s.checkTargets ds = .ok (ds.map namedTarget)) ∧
    (∀ d, (PassesCheck d → descriptorTarget d = some (namedTarget d)) ∧ (¬ PassesCheck d → descriptorTarget d = none)) ∧
    (s.geometryReady ts = true ↔ inUse ∨ ∀ t ∈ ts, ¬ NeedsDecks t)

/-- What each descriptor contributes: in ascending order, the endpoints of its kind; RANGE, the first `n` from `e` on that are
stations or zones of some deck. The expansion of a list takes the descriptors in the order given: each adds what it contributes, in
its order, but for the endpoints already there. So it holds each endpoint once, and exactly those that some descriptor contributes
(01 R14, R15). -/
def ListsExpand : Prop :=
  (∀ (s : State) (e n d f x : Nat),
    s.contributes (.endpoint e) = [e] ∧
    (x ∈ s.contributes (.deck d) ↔ x < 144 ∧ (s.deck d).covers x = true) ∧
    (x ∈ s.contributes (.fireZone f) ↔ x < 144 ∧ (s.ep x).fireZone = f ∧ (s.deckOf x).isSome = true) ∧
    (x ∈ s.contributes (.deckFire d f) ↔ x < 144 ∧ (s.deck d).covers x = true ∧ (s.ep x).fireZone = f) ∧
    (x ∈ s.contributes .allZones ↔ x < 144) ∧ (x ∈ s.contributes .allStations ↔ 144 ≤ x ∧ x < 176) ∧
    (x ∈ s.contributes .everywhere ↔ x < 176) ∧
    s.contributes (.range e n) =
      (((List.range 176).drop e).filter fun y => decide (144 ≤ y) || (s.deckOf y).isSome).take n) ∧
  (∀ (s : State) (t : Target), (s.contributes t).Pairwise (· < ·)) ∧
  ∀ (s : State) (ts us : List Target) (t : Target),
    s.expandAll [] = [] ∧
    s.expandAll (ts ++ [t]) = s.expandAll ts ++ (s.contributes t).filter (fun e => !(s.expandAll ts).contains e) ∧
    (s.expandAll ts).Nodup ∧ (∀ e, e ∈ s.expandAll ts ↔ ∃ t ∈ ts, e ∈ s.contributes t) ∧
    ∃ more, s.expandAll (ts ++ us) = s.expandAll ts ++ more

/-- An endpoint that an expansion for a call does not skip: its kind suits the call type, and it is not the station whose microphone
is a PAGE's source (01 R16). -/
def suitsCall (t : CallType) (lanes : List Nat) (e : Nat) : Bool :=
  match t with
  | .program => decide (e < 144)
  | .talk => decide (144 ≤ e)
  | .page => !(lanes.any fun k => decide (k < 32 ∧ e = 144 + k))
  | .message => true
  | .alarm => true

/-- The expansion for a call: of the expansion of its list, the endpoints that list the call already are dropped uncounted; the
others are swept in their order, but for those skipped by kind and source, which are counted (01 R14, R16). -/
def ExpansionsSkip : Prop :=
  ∀ (s : State) (t : CallType) (lanes : List Nat) (listed : Nat → Bool) (ts : List Target),
    let all := (s.expandAll ts).filter fun e => !(listed e)
    s.expand t lanes listed ts = (all.filter (suitsCall t lanes), all.countP fun e => !(suitsCall t lanes e))

/-- Descriptor lists: their check, what each descriptor contributes, the expansion and its skips (01 R13 to R16). -/
def Obligations.DescriptorsExpand : Prop := ListsAreChecked ∧ ListsExpand ∧ ExpansionsSkip

/-! ## Calls (02) -/

/-- The handle of the call a request names. -/
def namedCall : Instr → Option Handle
  | .addTargets _ _ h _ => some h
  | .dropTargets _ _ h _ => some h
  | .setCallGain _ _ h _ _ _ => some h
  | .retireCall _ _ h => some h
  | .queryCall _ _ h => some h
  | .collectEnd _ _ h => some h
  | .setParticipant _ _ h _ _ => some h
  | _ => none

/-- The answer of 02 R24 (and 06 R112 for SET_PARTICIPANT) where the call's state refuses a request; none where it is taken. -/
def stateAnswer (c : Instr) (r : Call) : Option AnswerCode :=
  match c, r.state with
  | .addTargets .., .opening => some .notReady
  | .addTargets .., .active => if r.sweep.isSome then some .notReady else none
  | .addTargets .., .ending => some .unknownCall
  | .addTargets .., .ended => some .unknownCall
  | .dropTargets .., .opening => some .notReady
  | .dropTargets .., .active => if r.sweep.isSome then some .notReady else none
  | .dropTargets .., .ending => some .unknownCall
  | .dropTargets .., .ended => some .unknownCall
  | .setCallGain .., .ending => some .unknownCall
  | .setCallGain .., .ended => some .unknownCall
  | .setParticipant .., .ending => some .unknownCall
  | .setParticipant .., .ended => some .unknownCall
  | .retireCall .., .opening => some .notReady
  | .retireCall .., .ending => some .unknownCall
  | .retireCall .., .ended => some .unknownCall
  | .collectEnd .., .opening => some .notReady
  | .collectEnd .., .active => some .notReady
  | .collectEnd .., .ending => some .notReady
  | _, _ => none

/-- The requests that would change or retire a call (02 R38, 06 R112). -/
def changesCall : Instr → Bool
  | .addTargets .. => true
  | .dropTargets .. => true
  | .setCallGain .. => true
  | .retireCall .. => true
  | .setParticipant .. => true
  | _ => false

/-- The checks of a request that names a call, in their order: the slot number, the slot and generation, the call's state, the
lock. A refused request changes nothing (02 R21, R24, R38; 06 R112). -/
def Obligations.CallRequestsAreChecked : Prop :=
  ∀ (c : Instr) (p : Port) (h : Handle) (s : State), c.requestPort = some p → namedCall c = some h →
    s.mayTake p .callTable = true →
    let refused := fun code => exec c s = .next (s.replied p .callTable c code [])
    (63 < h.slot → refused .badParam) ∧
    (h.slot ≤ 63 → ((s.slot h.slot).record = none ∨ (s.slot h.slot).gen ≠ h.gen) → refused .unknownCall) ∧
    ∀ r, h.slot ≤ 63 → s.slot h.slot = ⟨h.gen, some r⟩ →
      (∀ a, stateAnswer c r = some a → refused a) ∧
      (stateAnswer c r = none → changesCall c = true → r.locked = true → p = .system → refused .locked)

/-- OPEN_CALL answers the first check that fails, takes no slot and changes nothing else: the type, the source fields and the ramp
code, the target list, the phrases, the expansion, a FREE general slot (02 R29, R30). The layout of the NO_TARGETS data is log 18. -/
def Obligations.OpenCallRefusals : Prop :=
  ∀ (s : State) (p : Port) (tag : Nat) (f : OpenFields), s.mayTake p .callTable = true →
    let c : Instr := .openCall p tag f
    let refused := fun code => exec c s = .next (s.replied p .callTable c code [])
    (f.type = 4 ∨ 4 < f.type → refused .badParam) ∧ (7 < f.ramp.getD 0 → refused .badParam) ∧
    (f.type = 1 → 63 < f.lane1 → refused .badParam) ∧
    (f.type = 0 → 63 < f.lane1 ∨ (63 < f.lane2 ∧ f.lane2 ≠ 255) ∨ (3 < f.holdLine ∧ f.holdLine ≠ 255) → refused .badParam) ∧
    (f.type = 2 → f.phraseCount = 0 ∨ 8 < f.phraseCount ∨ (∃ i ∈ f.phraseIds.take f.phraseCount, 127 < i) ∨
      15 < f.repeatCount ∨ 10000 < f.repeatGap → refused .badParam) ∧
    (f.type = 3 → 1 < f.duplex → refused .badParam) ∧
    ∀ t lanes part, CallType.ofCode f.type = some t → openSource f t = some (lanes, part) → f.ramp.getD 0 ≤ 7 →
      (∀ code, s.checkTargets f.targets = .error code → refused code) ∧
      ∀ ts, s.checkTargets f.targets = .ok ts →
        let x := s.expand t lanes (fun _ => false) ts
        ((∃ m, part = .message m ∧ ∃ i ∈ m.phrases, (s.phrase i).state ≠ .verified) → refused .notReady) ∧
        ((∀ m, part = .message m → ∀ i ∈ m.phrases, (s.phrase i).state = .verified) →
          (x.1.length < (if t = .talk then 2 else 1) →
            exec c s = .next (s.replied p .callTable c .noTargets (byte1 0 ++ byte1 x.2))) ∧
          ((if t = .talk then 2 else 1) ≤ x.1.length → (∀ i, i < 60 → (s.slot i).record.isSome = true) → refused .tableFull))

/-- The source fields of an OPEN_CALL that are in their ranges give the call's source lanes and its part: a PAGE's lane; a PROGRAM's
one lane, or two, left first, with 255 for no second lane and no hold line, and a hold level that is 8 when absent and else taken
from 8 to 15; a MESSAGE's phrases with its repeats and gap, at the start of its list, in repeat 1, CUEING with no player; a TALK's
mode with no participant (02 R23, R30). -/
def SourcesAreRead : Prop :=
  ∀ f : OpenFields,
    (f.lane1 ≤ 63 → openSource f .page = some ([f.lane1], .page)) ∧
    (f.lane1 ≤ 63 → f.lane2 ≤ 63 ∨ f.lane2 = 255 → f.holdLine ≤ 3 ∨ f.holdLine = 255 →
      openSource f .program = some
        (if f.lane2 = 255 then [f.lane1] else [f.lane1, f.lane2],
          .program (if f.holdLine = 255 then none else some f.holdLine) (max 8 (min 15 (f.holdLevel.getD 8))))) ∧
    (1 ≤ f.phraseCount → f.phraseCount ≤ 8 → (∀ i ∈ f.phraseIds.take f.phraseCount, i ≤ 127) → f.repeatCount ≤ 15 →
      f.repeatGap ≤ 10000 →
      openSource f .message = some
        ([], .message { phrases := f.phraseIds.take f.phraseCount, repeatCount := f.repeatCount, repeatGap := f.repeatGap,
                        index := 0, offset := 0, repeatNo := 1, player := none, playback := .cueing })) ∧
    (f.duplex ≤ 1 → openSource f .talk = some
      ([], .talk { duplex := if f.duplex = 0 then .full else .lead, participants := [], kept := [], keptLeader := none }))

/-- An OPEN_CALL that passes every check takes the lowest FREE general slot with its generation increased by one modulo 256, writes
the record with its fields, the level clamped, in state OPENING with the expanded list to sweep, and is bound to its hold output;
the request stays in progress, and nothing else changes (02 R20 to R23, R31; 05 R101). The stamp of its opening, taken from one
counter, and the 0 in place of a stamp of its end are the model's (log 16). -/
def OpensInSlot : Prop :=
  ∀ (s : State) (p : Port) (tag : Nat) (f : OpenFields) (t : CallType) (lanes : List Nat) (part : CallPart) (ts : List Target)
    (i : Nat),
    s.mayTake p .callTable = true → CallType.ofCode f.type = some t → openSource f t = some (lanes, part) →
    f.ramp.getD 0 ≤ 7 → s.checkTargets f.targets = .ok ts →
    (∀ m, part = .message m → ∀ k ∈ m.phrases, (s.phrase k).state = .verified) →
    (if t = .talk then 2 else 1) ≤ (s.expand t lanes (fun _ => false) ts).1.length →
    i < 60 → (s.slot i).record = none → (∀ j, j < i → (s.slot j).record.isSome = true) →
    let h : Handle := ⟨i, ((s.slot i).gen + 1) % 256⟩
    let r : Call :=
      { level := clampLevel t f.level, opener := p, locked := false, state := .opening, gain := f.gain.getD 32768,
        ramp := f.ramp.getD (if t = .program then 5 else 3), lanes,
        sweep := some { kind := .opening, port := p, answers := true, rest := (s.expand t lanes (fun _ => false) ts).1,
                        taken := 0, skipped := (s.expand t lanes (fun _ => false) ts).2, bumped := 0, removed := 0,
                        notListed := 0, lastLoss := none, displaced := none },
        listingCount := 0, heardCount := 0, reason := none, part, openSeq := s.seq, endSeq := 0 }
    exec (.openCall p tag f) s = .next (State.begun
      { s with
        calls := s.calls.set i ⟨h.gen, some r⟩, seq := s.seq + 1,
        holds := match r.holdLine with
          | some o => s.holds.set o { s.hold o with bound := (s.hold o).bound ++ [h] }
          | none => s.holds }
      p .callTable (.openCall p tag f) (.sweeping i))

/-- An OPEN_CALL that passes its checks: how its source fields are read, and the slot it takes (02 R20 to R23, R30, R31). -/
def Obligations.OpenCallTakesSlot : Prop := OpensInSlot ∧ SourcesAreRead

/-- ADD_TARGETS on an ACTIVE call with no sweep: a list that fails its check is refused; an expansion with no endpoint that does
not list the call already is answered NO_TARGETS with the skipped count; otherwise an ADD sweep over the expansion begins (02
R35). -/
def AddTargetsBegin : Prop :=
  ∀ (s : State) (p : Port) (tag : Nat) (h : Handle) (ds : List Descriptor) (r : Call), s.mayTake p .callTable = true →
    h.slot ≤ 63 → s.slot h.slot = ⟨h.gen, some r⟩ → r.state = .active → r.sweep = none → (r.locked = true → p = .bridge) →
    let c : Instr := .addTargets p tag h ds
    (∀ code, s.checkTargets ds = .error code → exec c s = .next (s.replied p .callTable c code [])) ∧
    ∀ ts, s.checkTargets ds = .ok ts →
      let x := s.expand r.type r.lanes (fun e => (s.ep e).lists h) ts
      (x.1 = [] → exec c s = .next (s.replied p .callTable c .noTargets (byte1 x.2))) ∧
      (x.1 ≠ [] → exec c s = .next (State.begun
        { s with calls := s.calls.set h.slot ⟨h.gen, some { r with sweep := some (
            { kind := .add, port := p, answers := true, rest := x.1, taken := 0, skipped := x.2, bumped := 0, removed := 0,
              notListed := 0, lastLoss := none, displaced := none } : Sweep) }⟩ }
        p .callTable c (.sweeping h.slot)))

/-- DROP_TARGETS on an ACTIVE call with no sweep: a list that fails its check is refused; an empty expansion is answered OK with
both counts 0 and the state; otherwise a DROP sweep over the expansion begins (02 R36). -/
def DropTargetsBegin : Prop :=
  ∀ (s : State) (p : Port) (tag : Nat) (h : Handle) (ds : List Descriptor) (r : Call), s.mayTake p .callTable = true →
    h.slot ≤ 63 → s.slot h.slot = ⟨h.gen, some r⟩ → r.state = .active → r.sweep = none → (r.locked = true → p = .bridge) →
    let c : Instr := .dropTargets p tag h ds
    (∀ code, s.checkTargets ds = .error code → exec c s = .next (s.replied p .callTable c code [])) ∧
    ∀ ts, s.checkTargets ds = .ok ts →
      (s.expandAll ts = [] → exec c s = .next (s.replied p .callTable c .ok (byte1 0 ++ byte1 0 ++ byte1 2))) ∧
      (s.expandAll ts ≠ [] → exec c s = .next (State.begun
        { s with calls := s.calls.set h.slot ⟨h.gen, some { r with sweep := some (
            { kind := .drop, port := p, answers := true, rest := s.expandAll ts, taken := 0, skipped := 0, bumped := 0,
              removed := 0, notListed := 0, lastLoss := none, displaced := none } : Sweep) }⟩ }
        p .callTable c (.sweeping h.slot)))

/-- ADD_TARGETS and DROP_TARGETS on an ACTIVE call with no sweep: the list is checked, an expansion with nothing to do is answered
at once, and otherwise the sweep begins and the request stays in progress (02 R35, R36). -/
def Obligations.TargetRequestsBeginSweeps : Prop := AddTargetsBegin ∧ DropTargetsBegin

/-- SET_CALL_GAIN on a live call: the call gain is stored and the call's admitted terms are retargeted; or the override of the
listing at one endpoint is set or cleared, and its term, if it has one, retargeted. An endpoint that does not list the call, or an
unknown action, is refused BAD_PARAM. Nothing else changes (02 R37). -/
def Obligations.SetCallGainRetargets : Prop :=
  ∀ (s : State) (p : Port) (tag : Nat) (h : Handle) (action gain e : Nat) (r : Call), s.mayTake p .callTable = true →
    h.slot ≤ 63 → s.slot h.slot = ⟨h.gen, some r⟩ → r.state.live = true → (r.locked = true → p = .bridge) →
    let c : Instr := .setCallGain p tag h action gain e
    let calls := s.calls.set h.slot ⟨h.gen, some { r with gain }⟩
    let withOverride := fun (g : Option Nat) =>
      let ep := (s.ep e).updListing h fun l => { l with override := g }
      if ep.admits h then ep.refit ⟨s.mixMode, s.bank, s.calls⟩ r.type.listClass else ep
    (action = 0 → exec c s = .next (State.replied
      { s with calls, endpoints := s.endpoints.map fun ep =>
          if ep.admits h then ep.refit ⟨s.mixMode, s.bank, calls⟩ r.type.listClass else ep }
      p .callTable c .ok [])) ∧
    (action = 1 ∨ action = 2 → e ≤ 175 → (s.ep e).lists h = true →
      exec c s = .next (State.replied (s.setEp e (withOverride (if action = 1 then some gain else none))) p .callTable c .ok [])) ∧
    (2 < action ∨ (action ≠ 0 ∧ (175 < e ∨ (s.ep e).lists h = false)) →
      exec c s = .next (s.replied p .callTable c .badParam []))

/-- SET_PARTICIPANT on a live TALK call writes the flag into the participant's entry and its listing's copy and is answered OK with
the place, the state and the flag; a call of another type, or a station that is no participant, is refused BAD_PARAM. Nothing else
changes (06 R112). That the place is counted from 1 is the model's (log 18). -/
def Obligations.SetParticipantMutes : Prop :=
  ∀ (s : State) (p : Port) (tag : Nat) (h : Handle) (e muted : Nat) (r : Call), s.mayTake p .callTable = true →
    h.slot ≤ 63 → s.slot h.slot = ⟨h.gen, some r⟩ → r.state.live = true → (r.locked = true → p = .bridge) →
    let c : Instr := .setParticipant p tag h e muted
    (r.type ≠ .talk ∨ e < 144 ∨ 175 < e ∨ (∀ t, r.part = .talk t → ∀ x ∈ t.participants, x.station ≠ e) →
      exec c s = .next (s.replied p .callTable c .badParam [])) ∧
    ∀ t k, r.part = .talk t → t.participants.findIdx? (·.station == e) = some k → 144 ≤ e → e ≤ 175 → muted ≤ 1 →
      exec c s = .next (State.replied
        { s with
          calls := s.calls.set h.slot ⟨h.gen, some { r with part := .talk { t with participants := (
            t.participants.map fun x => if x.station = e then { x with muted := decide (muted = 1) } else x) } }⟩,
          endpoints := s.endpoints.set e ((s.ep e).updListing h fun l => { l with muted := decide (muted = 1) }) }
        p .callTable c .ok (byte1 (k + 1) ++ byteFlag (!((s.ep e).admits h)) ++ byteFlag (decide (muted = 1))))

/-- The entry of a live call to ENDING stops its sweep, and the sweep's request is answered with the counts so far: an alarm's
opening UNKNOWN_CALL; another opening CLEARED or NOT_READY, by the reason CLEARED or PHRASE_FAILED; an ADD or DROP sweep CLEARED
for the reason CLEARED and UNKNOWN_CALL for any other. The sweep of a start by an input has no answer, and no other request is
touched (02 R33, R35, R36; 08 R143, R147; layout log 18). The data of a stopped DROP sweep's answer is the model's choice (log
28). -/
def EndingsStopSweeps : Prop :=
  ∀ (s : State) (h : Handle) (c : Call) (sw : Sweep) (x : EndReason) (q : Instr), s.slot h.slot = ⟨h.gen, some c⟩ →
    c.state.live = true → c.sweep = some sw →
    let t := s.endCall h x
    (sw.answers = false → ∀ p, t.port p = s.port p) ∧
    ((s.port sw.port).inProgress = some ⟨q, .sweeping h.slot⟩ → sw.answers = true →
      t.port sw.port.other = s.port sw.port.other ∧
      let answered := fun code => AnsweredWith s t sw.port q code (stoppedData h sw)
      (sw.kind = .opening → c.type = .alarm → answered .unknownCall) ∧
      (sw.kind = .opening → c.type ≠ .alarm → x = .cleared → answered .cleared) ∧
      (sw.kind = .opening → c.type ≠ .alarm → x = .phraseFailed → answered .notReady) ∧
      (sw.kind ≠ .opening → x = .cleared → answered .cleared) ∧ (sw.kind ≠ .opening → x ≠ .cleared → answered .unknownCall))

/-- RETIRE_CALL ends an ACTIVE call with reason RETIRED at once and is answered OK, unless a HELD input whose debounced level is
ACTIVE owns it: then it is refused IN_USE. A sweep of the other port in progress on the call stops, and its request is answered
UNKNOWN_CALL with the counts so far (02 R26, R34, R35, R36, R39; 08 R154; layout log 18). The data of a stopped DROP sweep's answer
is the model's choice (log 28). -/
def RetireEnds : Prop :=
  ∀ (s : State) (p : Port) (tag : Nat) (h : Handle) (r : Call), s.mayTake p .callTable = true → s.sweepsHeld → s.listingsOk →
    s.noPending = true → h.slot ≤ 63 → s.slot h.slot = ⟨h.gen, some r⟩ → r.state = .active → (r.locked = true → p = .bridge) →
    let c : Instr := .retireCall p tag h
    let owned := ∃ i, i < 4 ∧ (s.trigger i).owned = some h ∧ (s.trigger i).mode = .held ∧ (s.trigger i).debounced = true
    (owned → exec c s = .next (s.replied p .callTable c .inUse [])) ∧
    (¬ owned → ∃ t, exec c s = .next t ∧ AnsweredWith s t p c .ok [] ∧ EndedIn t h .retired ∧ EndedKeeping s t h r.part ∧
      (∀ sw, r.sweep = some sw → sw.kind ≠ .opening → SweepAnswered s t h.slot sw .unknownCall (stoppedData h sw)) ∧
      t.standing = (s.serve p .callTable).standing)

/-- The entry of a live call to ENDING, for any reason, writes the reason and what is kept of the record's part, and frees the call's
player: a MESSAGE is FINISHED at the position it had; a TALK keeps its speakers and its leader, and its list is empty. The step
position and the generator's phase of an ALARM are cleared, and the owned call of every trigger input that owns it becomes none; the
end of any other call touches neither. The players of other calls stay with them (02 R26; 04 R76; 06 R119; 07 R136, R138; 08
R155). -/
def EndingsWriteParts : Prop :=
  ∀ (s : State) (h : Handle) (c : Call) (x : EndReason), s.slot h.slot = ⟨h.gen, some c⟩ → c.state.live = true →
    let t := s.endCall h x
    EndedKeeping s t h c.part ∧
    (∃ u, t.slot h.slot = ⟨h.gen, some u⟩ ∧ u.state = .ending ∧ u.reason = some x ∧ u.sweep = none) ∧
    (s.playersOk → ∀ i, i < 4 → t.player i = if (s.player i).call = some h then .idle else s.player i) ∧
    (c.type = .alarm → (t.alarmSeq h.slot).position = none ∧ (t.alarmSeq h.slot).phase = 0 ∧
      ∀ i, i < 4 → t.trigger i =
        if (s.trigger i).owned = some h then { s.trigger i with owned := none } else s.trigger i) ∧
    (c.type ≠ .alarm → t.alarms = s.alarms ∧ t.triggers = s.triggers)

/-- RETIRE_CALL, and what the end of a call does to its sweep, its record, its player and its owners (02 R26, R33, R35, R36, R39; 04
R76; 06 R119; 07 R136; 08 R143, R154, R155). -/
def Obligations.RetireCallEnds : Prop := RetireEnds ∧ EndingsStopSweeps ∧ EndingsWriteParts

/-- CLEAR_CALLS ends every unlocked OPENING or ACTIVE call with reason CLEARED, leaves the others' reasons as they are, and is
answered OK with the number it ended. A sweep in progress on a call it ends stops, and its request is answered CLEARED with the
counts so far. A MESSAGE keeps its position; a TALK keeps its leader and, among its participants, all its speakers (02 R33, R35, R36,
R40; 04 R76; 06 R119; 07 R136; layout log 18). The data of a stopped DROP sweep's answer, with its state byte, is the model's choice
(log 28); that the calls end in the order of their slots, by which a TALK may keep more participants as speakers than spoke before the
event, is log 34. -/
def Obligations.ClearCallsEndsUnlocked : Prop :=
  ∀ (s : State) (p : Port) (tag : Nat), s.mayTake p .callTable = true → s.sweepsHeld → s.listingsOk → s.noPending = true →
    ∃ t, exec (.clearCalls p tag) s = .next t ∧
      AnsweredWith s t p (.clearCalls p tag) .ok
        (byte1 ((List.range 64).countP fun i => (s.slot i).record.any fun r => r.state.live && !r.locked)) ∧
      (∀ i r, (s.slot i).record = some r → r.state.live = true → r.locked = false →
        let h : Handle := ⟨i, (s.slot i).gen⟩
        EndedIn t h .cleared ∧ (∀ m, r.part = .message m → s.playersOk → EndedKeeping s t h r.part) ∧
        (∀ k, r.part = .talk k → ∃ u q, t.slot i = ⟨h.gen, some u⟩ ∧ u.part = .talk q ∧ q.duplex = k.duplex ∧
          q.keptLeader = k.participants.head?.map (·.station) ∧ (∀ st ∈ joined s h k.participants, st ∈ q.kept) ∧
          ∀ st ∈ q.kept, st ∈ k.participants.map (·.station)) ∧
        ∀ sw, r.type ≠ .alarm → r.sweep = some sw →
          SweepAnswered s t i sw .cleared (stoppedData h sw)) ∧
      (∀ i r, (s.slot i).record = some r → (r.state.live = false ∨ r.locked = true) →
        ∃ r', t.slot i = ⟨(s.slot i).gen, some r'⟩ ∧ r'.reason = r.reason) ∧
      t.standing = (s.serve p .callTable).standing

/-- The expiry timers that run in `t` are those of `kept` and after them those of other calls that become ENDED in the event; where
every ENDING call of `s` still sounds, no call does, and they are `kept` (02 R27, R28). -/
def TimersAre (s t : State) (kept : List Expiry) (slot : Nat) : Prop :=
  (∃ started, t.expiries = kept ++ started ∧ ∀ x ∈ started, x.slot ≠ slot) ∧
  ((∀ h c, s.call h = some c → c.state = .ending → Sounding s h) → t.expiries = kept)

/-- COLLECT_END of an ENDED record is answered OK with reason, type and level: from the opener port the record becomes FREE, its
generation kept, and its timer is left to find it so; from the other port a mark follows and nothing changes (02 R28, R41). That the
mark is one more byte is the model's (log 18). -/
def CollectFrees : Prop :=
  ∀ (s : State) (p : Port) (tag : Nat) (h : Handle) (r : Call), s.mayTake p .callTable = true → s.noPending = true →
    h.slot ≤ 63 → s.slot h.slot = ⟨h.gen, some r⟩ → r.state = .ended →
    let c : Instr := .collectEnd p tag h
    let data := byte1 ((r.reason.map EndReason.code).getD 0) ++ byte1 r.type.code ++ byte1 r.level
    (r.opener ≠ p → exec c s = .next (s.replied p .callTable c .ok (data ++ byte1 1))) ∧
    (r.opener = p → ∃ t, exec c s = .next t ∧ AnsweredWith s t p c .ok data ∧ t.slot h.slot = ⟨h.gen, none⟩ ∧
      TimersAre s t s.expiries h.slot ∧ t.endpoints = s.endpoints ∧ t.standing = (s.serve p .callTable).standing)

/-- END_EXPIRY: a running timer, whatever it has left (log 6), is stopped, and its record becomes FREE if it is still ENDED with the
timer's generation; every other timer runs on (02 R28). The expiry of a timer that does not run does nothing (log 8). -/
def ExpiryFrees : Prop :=
  ∀ (s : State) (slot gen : Nat), slot < 64 →
    let runs := ∃ x ∈ s.expiries, x.slot = slot ∧ x.gen = gen
    let stopped := s.expiries.filter fun x => !(x.slot == slot && x.gen == gen)
    (¬ runs → exec (.endExpiry slot gen) s = .next s) ∧
    (runs → ((s.slot slot).gen ≠ gen ∨ ∀ r, (s.slot slot).record = some r → r.state ≠ .ended) →
      exec (.endExpiry slot gen) s = .next { s with expiries := stopped }) ∧
    (runs → s.noPending = true → ∀ r, s.slot slot = ⟨gen, some r⟩ → r.state = .ended →
      ∃ t, exec (.endExpiry slot gen) s = .next t ∧ t.slot slot = ⟨gen, none⟩ ∧ TimersAre s t stopped slot ∧
        t.endpoints = s.endpoints ∧ t.standing = s.standing)

/-- A call that is ENDING at a frame boundary with no event due stays ENDING while a term of it sounds, and becomes ENDED in the
frame in which its last term has reached 0, keeping its reason; its expiry timer then starts with 5,000 ms, marked with its slot
and generation (02 R27, R28; log 7). -/
def FadedCallsEnd : Prop :=
  ∀ (s : State) (f : FrameInput) (h : Handle) (r : Call), s.takeDue = s → s.noPending = true →
    s.slot h.slot = ⟨h.gen, some r⟩ → r.state = .ending →
    ∃ t u, exec (.audioFrameBoundary f) s = .next t ∧ t.slot h.slot = ⟨h.gen, some u⟩ ∧ u.reason = r.reason ∧
      (Sounding t h → u.state = .ending) ∧
      (¬ Sounding t h → u.state = .ended ∧ ⟨h.slot, h.gen, .running 240000⟩ ∈ t.expiries)

/-- An ENDING call becomes ENDED when its terms have faded. An ENDED record becomes FREE at its collection by the opener port or at
the expiry of its timer, and at nothing else that these commands do: the other port's COLLECT_END reads it, a stale or stopped timer
does nothing to it (02 R27, R28, R41). -/
def Obligations.EndedRecordsAreFreed : Prop := FadedCallsEnd ∧ CollectFrees ∧ ExpiryFrees

/-- The requests that only read, with the owner and the data of their OK answers: QUERY_CALL, QUERY_PHRASE, QUERY_ALARM and
QUERY_CHANNEL change nothing; a number out of range is refused BAD_PARAM (02 R42, 07 R127, 08 R142, 09 R161). The layout of the data
is log 18. -/
def Obligations.QueriesChangeNothing : Prop :=
  ∀ (s : State) (p : Port) (tag : Nat),
    (∀ h r, s.mayTake p .callTable = true → h.slot ≤ 63 → s.slot h.slot = ⟨h.gen, some r⟩ →
      exec (.queryCall p tag h) s = .next (s.replied p .callTable (.queryCall p tag h) .ok (s.callData h r))) ∧
    (∀ i, s.mayTake p .phraseDirectory = true → exec (.queryPhrase p tag i) s =
      .next (s.replied p .phraseDirectory (.queryPhrase p tag i) (if i ≤ 127 then .ok else .badParam)
        (if i ≤ 127 then s.phraseData i else []))) ∧
    (∀ i, s.mayTake p .alarmSequencer = true → exec (.queryAlarm p tag i) s =
      .next (s.replied p .alarmSequencer (.queryAlarm p tag i) (if i ≤ 7 then .ok else .badParam)
        (if i ≤ 7 then s.alarmData i else []))) ∧
    (∀ c, s.mayTake p .lineSupervisor = true → exec (.queryChannel p tag c) s =
      .next (s.replied p .lineSupervisor (.queryChannel p tag c) (if c ≤ 159 then .ok else .badParam)
        (if c ≤ 159 then s.channelData c else [])))

/-- Every step keeps the call records in order: ALARM calls in the alarm slots and the others in the general ones, levels in their
type's range, ALARM calls alone locked, an end reason from ENDING on, an opening sweep while OPENING (02 R20 to R25, R38). -/
def Obligations.CallRecordsStayInOrder : Prop := ∀ s t : State, s.callsOk → step s = .next t → t.callsOk

/-- In every step from a state whose records and stored alarm programs are in order, every listing goes on naming an OPENING or
ACTIVE call of its type and level, in a place of its class: the listings of an ended call have left every endpoint (02 R26, 03
R45). -/
def Obligations.ListingsNameLiveCalls : Prop :=
  ∀ s t : State, s.callsOk → s.settingsOk → s.listingsOk → step s = .next t → t.listingsOk

/-- Every step from a state whose records are in order keeps each sweep and its port's request in progress together (10 R184). -/
def Obligations.SweepsHoldTheirPorts : Prop :=
  ∀ s t : State, s.callsOk → s.sweepsHeld → step s = .next t → t.sweepsHeld

/-! ## Admission, preemption and waiting (03) -/

/-- A listing without its interrupted mark, which is evaluated anew after every change of places (03 R63). -/
def unmarked (l : Listing) : Listing := { l with interrupted := false }

/-- The duck factor of a class's term at an endpoint, by its foreground slot (03 R56, 04 R78). -/
def duckBy (x : EpCtx) (c : ListClass) (ep : Endpoint) : Nat :=
  match c with
  | .foreground => 32768
  | .background =>
    match ep.fg with
    | none => 32768
    | some a => if a.listing.type = .alarm then 0 else match x.bank with | .a => ep.duckA | .b => ep.duckB

/-- The term `t` that listing `l` has on its admission from applied coefficient `start`, at an endpoint as it then is: gain, duck
factor, ramp code and target as they stand; ramp code 0 is at the target at once, and a background term under an ALARM is at 0
(03 R47, R49, R51, R60; 04 R79, R82, R83). -/
def FreshTerm (x : EpCtx) (c : ListClass) (ep : Endpoint) (l : Listing) (start : Nat) (t : Term) : Prop :=
  let call := findCall x.calls l.call
  t.call = l.call ∧ t.type = l.type ∧ t.gain = l.override.getD ((call.map (·.gain)).getD 0) ∧ t.duck = duckBy x c ep ∧
  t.ramp = (call.map (·.ramp)).getD 0 ∧ t.target = targetOf x.mode t.gain t.duck (effTrim x.mode x.bank ep l.type) ∧
  t.applied =
    if c = .background ∧ ep.fgAlarm = true then 0 else if t.ramp = 0 then t.target else start

/-- The class's slot holds listing `l`, but for its mark and its fading link, which a listing in a slot has not, with a fresh term
from `start`. -/
def AdmittedFrom (x : EpCtx) (c : ListClass) (ep : Endpoint) (l : Listing) (start : Nat) : Prop :=
  ∃ a, ep.slot c = some a ∧ unmarked a.listing = unmarked { l with fading := none } ∧ FreshTerm x c ep l start a.term

/-- The foreground slot of an endpoint interrupts a program of this hold level: it holds an ALARM or a listing of at least the hold
level (03 R62). -/
def Interrupts (ep : Endpoint) (holdLevel : Nat) : Prop :=
  ∃ a, ep.fg = some a ∧ (a.listing.type = .alarm ∨ holdLevel ≤ a.listing.level)

/-- The reports to the Hold Line Unit of a change of places, from listings `was`, one to a call, of which some are gone after it. Of
a call bound to output `o`: a listing whose mark was clear and that the foreground now interrupts begins an interruption; one whose
mark was set and that is gone, or that the foreground interrupts no more, ends one. There is no other report (03 R62, R63). -/
def ReportsMarks (x : EpCtx) (was : List Listing) (r : Endpoint × List Report) : Prop :=
  (was.map (·.call)).Nodup →
    (∀ l ∈ was, ∀ o lv, x.holdOf l.call = some (o, lv) →
      let stays := ∃ y ∈ r.1.listings .background, y.call = l.call
      let gone := ∀ cl, ∀ y ∈ r.1.listings cl, y.call ≠ l.call
      (.interruption l.call o true ∈ r.2 ↔ l.interrupted = false ∧ stays ∧ Interrupts r.1 lv) ∧
      (.interruption l.call o false ∈ r.2 ↔ l.interrupted = true ∧ (gone ∨ stays ∧ ¬ Interrupts r.1 lv))) ∧
    ∀ k o b, .interruption k o b ∈ r.2 → (∃ l ∈ was, l.call = k) ∧ ∃ lv, x.holdOf k = some (o, lv)

/-- After every change of places the background term has the duck factor that the foreground slot selects, with its target, and
every listing of a bound PROGRAM call has its mark set exactly if the foreground slot holds an ALARM or a listing of at least the
call's hold level (03 R56, R57, R62, R63). -/
def FollowsForeground (x : EpCtx) (ep : Endpoint) : Prop :=
  (∀ b, ep.bg = some b → b.term.duck = duckBy x .background ep ∧
    b.term.target = targetOf x.mode b.term.gain b.term.duck (effTrim x.mode x.bank ep b.listing.type) ∧
    (ep.fgAlarm = true → b.term.applied = 0)) ∧
  ∀ l ∈ ep.listings .background, ∀ o lv, x.holdOf l.call = some (o, lv) →
    (l.interrupted = true ↔ Interrupts ep lv)

/-- The wait list capacity of a class (03 R46, R55). -/
def capOf (c : ListClass) : Nat := if c = .foreground then 6 else 3

/-- The wait list of a class is `q` cut at its capacity, and exactly the entries cut off are reported bumped (03 R50, R55). -/
def WaitsAs (c : ListClass) (r : Endpoint × List Report) (q : List Listing) : Prop :=
  (r.1.wait c).map unmarked = (q.take (capOf c)).map unmarked ∧
  ∀ k, .lost k .bump ∈ r.2 ↔ ∃ l ∈ q.drop (capOf c), l.call = k

/-- An arrival at an endpoint, in either class. Into an empty slot: the listing is admitted with a term from 0. Under an admitted
listing of its level or a higher one: it waits, behind every entry of its level or a higher one. Over a lower one, if it is no
ALARM: it is admitted from 0, and the other goes to the head of the wait list, its term to a departing slot that its fading link
names. An ALARM over nothing or a lower level: it is admitted, every departing term is gone, the other goes to the head without a
fading term, and the background term is at 0. Whatever exceeds the wait list's capacity is bumped, and the interruptions that begin
or end are reported (03 R47 to R50, R55 to R57, R62, R63). That a term enters the lower-numbered of two free departing slots is the
model's choice (log 12). -/
def Obligations.ArrivalTakesPlace : Prop :=
  ∀ (x : EpCtx) (c : ListClass) (l : Listing) (ep : Endpoint), l.type.listClass = c →
    let r := ep.arrive x c l
    FollowsForeground x r.1 ∧ ReportsMarks x (ep.listings .foreground ++ ep.listings .background ++ [l]) r ∧
    (ep.slot c = none → l.type ≠ .alarm →
      AdmittedFrom x c r.1 l 0 ∧ (r.1.wait c).map unmarked = (ep.wait c).map unmarked ∧ (∀ k v, .lost k v ∉ r.2) ∧
      r.1.dep0 = ep.dep0 ∧ r.1.dep1 = ep.dep1) ∧
    (∀ a, ep.slot c = some a → l.level ≤ a.listing.level →
      let higher := fun (y : Listing) => decide (l.level ≤ y.level)
      (∃ b, r.1.slot c = some b ∧ unmarked b.listing = unmarked a.listing) ∧
      WaitsAs c r ((ep.wait c).takeWhile higher ++ l :: (ep.wait c).dropWhile higher) ∧
      r.1.dep0 = ep.dep0 ∧ r.1.dep1 = ep.dep1) ∧
    (∀ a, ep.slot c = some a → a.listing.level < l.level → l.type ≠ .alarm →
      let d := leaveSlot a ep
      AdmittedFrom x c r.1 l 0 ∧ WaitsAs c r ({ a.listing with fading := d.2 } :: d.1.wait c) ∧
      r.1.dep0 = d.1.dep0 ∧ r.1.dep1 = d.1.dep1) ∧
    (l.type = .alarm → ep.fgWait.length ≤ 6 → (∀ a, ep.fg = some a → a.listing.level < l.level) →
      AdmittedFrom x .foreground r.1 l 0 ∧
      WaitsAs .foreground r ((ep.fg.toList.map (·.listing) ++ ep.fgWait).map fun y => { y with fading := none }) ∧
      r.1.dep0 = none ∧ r.1.dep1 = none ∧ r.1.bg.isSome = ep.bg.isSome ∧
      ∀ b, r.1.bg = some b → b.term.target = 0 ∧ b.term.applied = 0)

/-- A call's listing leaves an endpoint, in either class, and the loss is reported with its cause. An admitted one empties its
slot: its term is dropped or departs, and the head of the wait list is promoted at once, at the coefficient its own term has
reached where its fading link names an occupied departing slot, which is then freed, and else from 0; a promoted ALARM cuts every
other term. A waiting one leaves its wait list, and the slot and the departing terms stay. The interruptions that begin or end are
reported (03 R51, R52, R54, R55, R57, R62, R63). That a term enters the lower-numbered of two free departing slots is the model's
choice (log 12). -/
def Obligations.DeparturePromotesHead : Prop :=
  ∀ (x : EpCtx) (c : ListClass) (h : Handle) (k : Cause) (ep : Endpoint) (a : Admitted), ep.slot c = some a →
    a.listing.type.listClass = c → (∀ l ∈ ep.wait c, l.type.listClass = c) →
    let r := ep.remove x c h k
    FollowsForeground x r.1 ∧ ReportsMarks x (ep.listings .foreground ++ ep.listings .background) r ∧
    (a.listing.call = h →
      let d := leaveSlot a ep
      .lost h k ∈ r.2 ∧
      (ep.wait c = [] → r.1.slot c = none ∧ r.1.wait c = [] ∧ r.1.dep0 = d.1.dep0 ∧ r.1.dep1 = d.1.dep1) ∧
      ∀ l rest, d.1.wait c = l :: rest →
        let back := fun (sl : DepSlot) => l.fading = some sl
        AdmittedFrom x c r.1 l (((l.fading.bind fun sl => d.1.dep sl).map (·.term.applied)).getD 0) ∧
        (l.type ≠ .alarm →
          (r.1.wait c).map unmarked = rest.map unmarked ∧
          r.1.dep0 = (if back .zero then none else d.1.dep0) ∧ r.1.dep1 = (if back .one then none else d.1.dep1)) ∧
        (l.type = .alarm →
          r.1.wait c = rest.map (fun y => { y with fading := none }) ∧ r.1.dep0 = none ∧ r.1.dep1 = none ∧
          ∀ b, r.1.bg = some b → b.term.target = 0 ∧ b.term.applied = 0)) ∧
    (a.listing.call ≠ h →
      (∃ b, r.1.slot c = some b ∧ unmarked b.listing = unmarked a.listing) ∧
      (r.1.wait c).map unmarked = ((ep.wait c).filter (·.call ≠ h)).map unmarked ∧
      r.1.dep0 = ep.dep0 ∧ r.1.dep1 = ep.dep1 ∧ (.lost h k ∈ r.2 ↔ ∃ l ∈ ep.wait c, l.call = h))

/-- Every step keeps the structure of every endpoint's places: no waiting listing has a higher level than the admitted one, an
empty slot has an empty list, the lists are within 6 and 3 entries and ordered by non-increasing level (03 R46). -/
def Obligations.PlacesKeepStructure : Prop := ∀ s t : State, s.placesOk → step s = .next t → t.placesOk

/-! ## Sweeps (02 R32 to R36) -/

/-- A sweep of the call in slot `i` that may take its next endpoint `e`, in a state with no start of an alarm pending. -/
def SweepAt (s : State) (i : Nat) (c : Call) (sw : Sweep) (e : Nat) (es : List Nat) : Prop :=
  i < 64 ∧ (s.slot i).record = some c ∧ c.sweep = some sw ∧ sw.rest = e :: es ∧ e < 176 ∧ s.sweepHasTurn sw = true ∧
  s.noPending = true

/-- A delivering sweep skips an endpoint: it is disabled and the call no ALARM, or the call has 8 participants (02 R32). -/
def Skips (s : State) (c : Call) (e : Nat) : Prop :=
  ((s.ep e).enabled = false ∧ c.type ≠ .alarm) ∨ ∃ t, c.part = .talk t ∧ 8 ≤ t.participants.length

/-- Where a sweep's turn has left its call, which goes on: its record has the sweep `sw`. -/
def SweepGoesOn (t : State) (h : Handle) (sw : Sweep) : Prop := ∃ r, t.slot h.slot = ⟨h.gen, some r⟩ ∧ r.sweep = some sw

/-- A delivering sweep between its endpoints: a skipped endpoint is counted and nothing moves; any other takes the arrival of a
listing of the call's type and level, and is counted taken; a TALK gains the station at the end of its list; a listing of the
sweep's own call that is bumped by the arrival is counted, and a TALK's list is then without the station; and the hold outputs hear of
the interruptions that begin or end (02 R32; 03 R50, R63; 06 R108, R111). That a bump of any listing of the call counts is the model's
choice (log 13). -/
def SweepDelivers : Prop :=
  ∀ (s : State) (i : Nat) (c : Call) (sw : Sweep) (e : Nat) (es : List Nat), SweepAt s i c sw e es → sw.kind ≠ .drop → es ≠ [] →
    let h := s.handleOf i
    ∃ t, exec (.sweepDelivery i) s = .next t ∧ t.standing = (s.serveSweep sw).standing ∧
      (Skips s c e → t.endpoints = s.endpoints ∧ SweepGoesOn t h { sw with rest := es, skipped := sw.skipped + 1 } ∧
        ∀ k, c.part = .talk k → ∃ u, t.slot i = ⟨h.gen, some u⟩ ∧ u.part = .talk k) ∧
      (¬ Skips s c e →
        let r := (s.ep e).arrive s.ctx c.type.listClass ⟨h, c.type, c.level, none, false, false, none⟩
        t.endpoints = s.endpoints.set e r.1 ∧
        (.lost h .bump ∉ r.2 → ∃ u, t.slot i = ⟨h.gen, some u⟩ ∧
          u.sweep = some { sw with rest := es, taken := sw.taken + 1, lastLoss := none } ∧
          ∀ k, c.part = .talk k → u.part = .talk { k with participants := k.participants ++ [⟨e, false⟩] }) ∧
        (.lost h .bump ∈ r.2 → ∃ u sw', t.slot i = ⟨h.gen, some u⟩ ∧ u.sweep = some sw' ∧ sw'.rest = es ∧
          sw'.taken = sw.taken + 1 ∧ sw'.bumped = sw.bumped + r.2.count (.lost h .bump) ∧
          ∀ k, c.part = .talk k → u.part = withoutStation e (.talk k)) ∧
        HoldsHear s t e r.2)

/-- A listing of another call that is bumped by an arrival, at any endpoint of the arriving call's sweep, its last included. An OPEN
or ADD sweep of the bumped listing's call counts it, and keeps the reason DISPLACED for its end if the call is listed nowhere. A call
with no such sweep that is listed nowhere then ends with DISPLACED, and a DROP sweep of it stops; one that is listed elsewhere goes
on. A TALK loses the station from its list, and the entries behind it move up, however its call goes on; one that ends keeps the rest
for its fade (02 R32, R34, R36; 03 R50, R59, R65; 06 R108, R111, R119). That a bump of any listing of the call counts, and the data
of the DROP sweep's answer, are the model's choices (log 13, 28; layout log 18). -/
def BumpsAreCounted : Prop :=
  ∀ (s : State) (i : Nat) (c : Call) (sw : Sweep) (e : Nat) (es : List Nat), SweepAt s i c sw e es → sw.kind ≠ .drop →
    s.sweepsHeld → s.listingsOk → ¬ Skips s c e →
    let h := s.handleOf i
    let r := (s.ep e).arrive s.ctx c.type.listClass ⟨h, c.type, c.level, none, false, false, none⟩
    ∃ t, exec (.sweepDelivery i) s = .next t ∧
      ∀ k ck, .lost k .bump ∈ r.2 → k ≠ h → s.call k = some ck → ck.state.live = true →
        let nowhere := ∀ ep ∈ t.endpoints.cells, ep.lists k = false
        let delisted := fun (u : Call) => ∀ q, ck.part = .talk q → u.part = withoutStation e (.talk q)
        (ck.delivering = true → ∃ u, t.slot k.slot = ⟨k.gen, some u⟩ ∧ u.state = ck.state ∧ delisted u ∧
          (nowhere → u.sweep = ck.sweep.map fun w => { w with bumped := w.bumped + 1, lastLoss := some .displaced }) ∧
          (¬ nowhere → u.sweep = ck.sweep.map fun w => { w with bumped := w.bumped + 1 })) ∧
        (ck.delivering = false → nowhere → EndedIn t k .displaced ∧
          (s.playersOk → EndedKeeping s t k (withoutStation e ck.part)) ∧
          ∀ w, ck.sweep = some w → SweepAnswered s t k.slot w .unknownCall (stoppedData k w)) ∧
        (ck.delivering = false → ¬ nowhere → ∃ u, t.slot k.slot = ⟨k.gen, some u⟩ ∧ u.state = ck.state ∧ u.sweep = ck.sweep ∧
          delisted u)

/-- The last endpoint of a delivering sweep, which is skipped, or takes the arrival of a listing. A listing that is not bumped
there, or a call that is listed elsewhere: an opening sweep's call is ACTIVE, an ADD sweep's stays so, and the request is answered
OK with the counts; a TALK has gained the station, or, if its listing is bumped, is without it. A call listed nowhere: after an
opening sweep with none taken the record is FREE and the request answered NO_TARGETS; after one with all lost the call ends with the
reason of its last loss and the request is answered NO_TARGETS; after an ADD sweep it ends with that reason and the request is
answered OK with a heard count of 0 (02 R33 to R35; 06 R108, R111, R119; 07 R136; layout log 18). -/
def SweepEnds : Prop :=
  ∀ (s : State) (i : Nat) (c : Call) (sw : Sweep) (e : Nat), SweepAt s i c sw e [] → s.sweepsHeld → s.listingsOk → sw.kind ≠ .drop →
    c.state.live = true →
    let h := s.handleOf i
    let counts := fun (taken skipped bumped heard : Nat) =>
      byteHandle h ++ byte1 taken ++ byte1 skipped ++ byte1 bumped ++ byte1 heard
    let okCounts := fun (taken skipped bumped heard : Nat) =>
      counts taken skipped bumped heard ++ (if c.type = .alarm ∧ sw.kind = .opening then sw.displacedData else [])
    let nowhere := ∀ ep ∈ s.endpoints.cells, ep.lists h = false
    let r := (s.ep e).arrive s.ctx c.type.listClass ⟨h, c.type, c.level, none, false, false, none⟩
    let bumped := Report.lost h .bump ∈ r.2
    ∃ t, exec (.sweepDelivery i) s = .next t ∧ t.standing = (s.serveSweep sw).standing ∧
      let goesOn := fun (list : List Participant → List Participant) => ∃ u, t.slot i = ⟨h.gen, some u⟩ ∧ u.sweep = none ∧
        (u.state = if sw.kind = .opening then .active else c.state) ∧
        ∀ k, c.part = .talk k → u.part = .talk { k with participants := list k.participants }
      let ended := fun (x : EndReason) (p : CallPart) => EndedIn t h x ∧ (s.playersOk → EndedKeeping s t h p)
      (Skips s c e → ¬ nowhere →
        goesOn id ∧ t.endpoints = s.endpoints ∧
        SweepAnswered s t i sw .ok (okCounts sw.taken (sw.skipped + 1) sw.bumped (s.heardCount h))) ∧
      (Skips s c e → nowhere → sw.kind = .opening → sw.taken = 0 →
        t.slot i = ⟨h.gen, none⟩ ∧ t.endpoints = s.endpoints ∧
        SweepAnswered s t i sw .noTargets (counts 0 (sw.skipped + 1) sw.bumped 0)) ∧
      (Skips s c e → nowhere → sw.kind = .opening → sw.taken ≠ 0 →
        ended (sw.lastLoss.getD .displaced) c.part ∧
        SweepAnswered s t i sw .noTargets (counts sw.taken (sw.skipped + 1) sw.bumped 0)) ∧
      (Skips s c e → nowhere → sw.kind = .add →
        ended (sw.lastLoss.getD .displaced) c.part ∧ SweepAnswered s t i sw .ok (counts sw.taken (sw.skipped + 1) sw.bumped 0)) ∧
      (¬ Skips s c e → (s.ep e).slot c.type.listClass = none → ¬ bumped) ∧
      (¬ Skips s c e → ¬ bumped →
        goesOn (· ++ [⟨e, false⟩]) ∧ t.endpoints = s.endpoints.set e r.1 ∧
        SweepAnswered s t i sw .ok (okCounts (sw.taken + 1) sw.skipped sw.bumped (t.heardCount h))) ∧
      (¬ Skips s c e → bumped → ¬ nowhere →
        goesOn (·.filter (·.station ≠ e)) ∧ t.endpoints = s.endpoints.set e r.1 ∧
        SweepAnswered s t i sw .ok (okCounts (sw.taken + 1) sw.skipped (sw.bumped + 1) (t.heardCount h))) ∧
      (¬ Skips s c e → bumped → nowhere → sw.kind = .opening →
        ended .displaced (withoutStation e c.part) ∧
        SweepAnswered s t i sw .noTargets (counts (sw.taken + 1) sw.skipped (sw.bumped + 1) 0)) ∧
      (¬ Skips s c e → bumped → nowhere → sw.kind = .add →
        ended .displaced (withoutStation e c.part) ∧
        SweepAnswered s t i sw .ok (counts (sw.taken + 1) sw.skipped (sw.bumped + 1) 0))

/-- A port's sweep without the Call Table's turn leaves everything as it is (10 R185; log 4). -/
def SweepsWaitTheirTurn : Prop :=
  ∀ (s : State) (i : Nat) (c : Call) (sw : Sweep), (s.slot i).record = some c → c.sweep = some sw → s.sweepHasTurn sw = false →
    exec (.sweepDelivery i) s = .next s ∧ exec (.dropSweepRemoval i) s = .next s

/-- SWEEP_DELIVERY: one endpoint of a delivering sweep, the listings it bumps, and the sweep's end (02 R32 to R35). -/
def Obligations.SweepDeliversListings : Prop := SweepDelivers ∧ BumpsAreCounted ∧ SweepEnds ∧ SweepsWaitTheirTurn

/-- DROP_SWEEP_REMOVAL: an endpoint that does not list the call is counted; one that does takes the removal, and the listing is
counted removed. A TALK loses the station, and the entries behind it move up; an endpoint that does not list it leaves its list as
it is. The hold outputs hear of the interruptions that begin or end. The sweep ends after its last endpoint with its OK answer; a
call left without listings, or a TALK with fewer than two, ends with NO_TARGETS, and the answer says ENDING; a TALK's list is then
empty, and the speakers and the leader of those left are kept for the fade (02 R36; 03 R63; 04 R76; 06 R108, R111, R119; 07 R136). The
layout of the data is log 18. -/
def Obligations.DropSweepRemovesListings : Prop :=
  ∀ (s : State) (i : Nat) (c : Call) (sw : Sweep) (e : Nat) (es : List Nat), SweepAt s i c sw e es → sw.kind = .drop →
    s.sweepsHeld → s.listingsOk → c.state = .active →
    let h := s.handleOf i
    let r := (s.ep e).remove s.ctx c.type.listClass h .drop
    let left := s.endpoints.set e r.1
    let few := left.cells.countP (·.lists h) < if c.type = .talk then 2 else 1
    ∃ t, exec (.dropSweepRemoval i) s = .next t ∧ t.standing = (s.serveSweep sw).standing ∧
      ((s.ep e).lists h = false →
        t.endpoints = s.endpoints ∧ (∀ k, c.part = .talk k → ∃ u, t.slot i = ⟨h.gen, some u⟩ ∧ u.part = .talk k) ∧
        (es ≠ [] → SweepGoesOn t h { sw with rest := es, notListed := sw.notListed + 1 }) ∧
        (es = [] → (∃ u, t.slot i = ⟨h.gen, some u⟩ ∧ u.sweep = none ∧ u.state = .active) ∧
          SweepAnswered s t i sw .ok (byte1 sw.removed ++ byte1 (sw.notListed + 1) ++ byte1 2))) ∧
      ((s.ep e).lists h = true → ¬ few →
        t.endpoints = left ∧ (∀ cl, ∀ l ∈ (t.ep e).listings cl, l.call ≠ h) ∧ HoldsHear s t e r.2 ∧
        (∀ k, c.part = .talk k → ∃ u, t.slot i = ⟨h.gen, some u⟩ ∧
          u.part = .talk { k with participants := k.participants.filter (·.station ≠ e) }) ∧
        (es ≠ [] → SweepGoesOn t h { sw with rest := es, removed := sw.removed + 1 }) ∧
        (es = [] → (∃ u, t.slot i = ⟨h.gen, some u⟩ ∧ u.sweep = none ∧ u.state = .active) ∧
          SweepAnswered s t i sw .ok (byte1 (sw.removed + 1) ++ byte1 sw.notListed ++ byte1 2))) ∧
      ((s.ep e).lists h = true → few →
        EndedIn t h .noTargets ∧ SweepAnswered s t i sw .ok (byte1 (sw.removed + 1) ++ byte1 sw.notListed ++ byte1 3) ∧
        EndedKeeping s t h (withoutStation e c.part))

/-! ## The mix (04) -/

/-- The target coefficient of an admitted term is C = round(G * D * T / 2^30) in the rounding mode, G the override if there is one
and the call gain otherwise; with D and T at 32,768 it is G, with G and D at 32,768 it is T, it is at most 65,535, and a term that
moves to a departing slot has target 0, which no retarget changes (04 R79). -/
def Obligations.TargetCoefficientRounds : Prop :=
  (∀ (m : MixMode) (g d t : Nat),
    targetOf m g d t = (match m with
      | .nearest => (g * d * t + 536870912) / 1073741824
      | .truncate => g * d * t / 1073741824) ∧
    targetOf m g 32768 32768 = g ∧ targetOf m 32768 32768 t = t ∧
    (g ≤ 65535 → d ≤ 32768 → t ≤ 32768 → targetOf m g d t ≤ 65535)) ∧
  (∀ (m : MixMode) (bk : Bank) (ep : Endpoint),
    let trim := match bk with | .a => ep.trimA | .b => ep.trimB
    effTrim m bk ep .program = (match m with
      | .nearest => (trim * ep.localTrim + 16384) / 32768
      | .truncate => trim * ep.localTrim / 32768) ∧
    effTrim m bk ep .page = trim ∧ effTrim m bk ep .message = trim ∧ effTrim m bk ep .talk = trim ∧
    effTrim m bk ep .alarm = ep.alarmTrim) ∧
  (∀ (x : EpCtx) (c : ListClass) (ep : Endpoint) (a : Admitted), ep.slot c = some a →
    ∃ u, (ep.refit x c).slot c = some ⟨a.listing, u⟩ ∧
      u.gain = a.listing.override.getD (((findCall x.calls a.listing.call).map (·.gain)).getD 0) ∧ u.duck = duckBy x c ep ∧
      u.target = targetOf x.mode u.gain u.duck (effTrim x.mode x.bank ep a.listing.type) ∧
      u.applied = if a.term.ramp = 0 then u.target else a.term.applied) ∧
  (∀ (d : Departing) (ep : Endpoint), (((ep.placeDeparting d).dep ep.depTarget).map (·.term.target)) = some 0) ∧
  ∀ (x : EpCtx) (ep : Endpoint) (sl : DepSlot), (ep.refitAll x).dep sl = ep.dep sl

/-- The step of a ramp code (04 R81). -/
def stepOf (code : Nat) : Nat :=
  match code with
  | 1 => 1024
  | 2 => 256
  | 3 => 64
  | 4 => 16
  | 5 => 8
  | 6 => 4
  | 7 => 1
  | _ => 65535

/-- At a frame boundary the applied coefficient becomes the target if it is within a step of it, and else moves one step toward it;
after n boundaries it has reached the target exactly if n steps cover the distance, so that 0 to 32,768 takes the frames of the
table; it stays between the two, and a retarget turns it from where it stands; every term of an endpoint steps, a departing term
that reaches 0 leaves its slot, and a frame is computed from the coefficients so reached (04 R68, R81, R84 to R86, R89). In the last
clause, that the events counted in frames are taken before the frame, which samples it takes in, and the parts of a boundary one after
another, are the model's (log 7, 10, 11). -/
def Obligations.RampsStepTowardTarget : Prop :=
  (∀ t : Term, 1 ≤ t.ramp → t.ramp ≤ 7 →
    t.step = { t with applied :=
      if (t.target : Int) - t.applied ≤ stepOf t.ramp ∧ (t.applied : Int) - t.target ≤ stepOf t.ramp then t.target
      else if t.applied < t.target then t.applied + stepOf t.ramp else t.applied - stepOf t.ramp }) ∧
  (∀ (t : Term) (n : Nat), 1 ≤ t.ramp → t.ramp ≤ 7 →
    ((Nat.iterate Term.step n t).applied = t.target ↔ ((t.target : Int) - t.applied).natAbs ≤ n * stepOf t.ramp)) ∧
  (∀ t : Term, min t.applied t.target ≤ t.step.applied ∧ t.step.applied ≤ max t.applied t.target ∧
    (t.applied ≤ 65535 → t.target ≤ 65535 → t.step.applied ≤ 65535)) ∧
  (∀ (x : EpCtx) (c : ListClass) (ep : Endpoint) (a b : Admitted), ep.slot c = some a → (ep.refit x c).slot c = some b →
    1 ≤ a.term.ramp → b.term.applied = a.term.applied) ∧
  (∀ ep : Endpoint,
    ep.stepTerms.fg = ep.fg.map (fun a => { a with term := a.term.step }) ∧
    ep.stepTerms.bg = ep.bg.map (fun a => { a with term := a.term.step }) ∧
    ∀ sl, ep.stepTerms.dep sl =
      (ep.dep sl).bind fun d => if d.term.step.applied = 0 then none else some { d with term := d.term.step }) ∧
  ∀ (s : State) (f : FrameInput), s.takeDue = s → s.noPending = true → s.pendingMode = none → s.swapPending = false →
    ∃ t, exec (.audioFrameBoundary f) s = .next t ∧ (∀ e, e < 176 → (t.ep e).terms = (s.ep e).stepTerms.terms) ∧
      ∀ e, 144 ≤ e → e < 176 →
        let u := (s.inputsBoundary f).stepTerms
        let acc := ((s.ep e).stepTerms.terms.map fun tm => u.sourceOf (u.sources f) e tm * (tm.applied : Int)).sum
        t.mixed.get (e + 16) 0 = max (-8388608) (min 8388607 (scale s.mixMode acc))

/-- The output sample in the two modes: NEAREST is the floor of (acc + 16,384) / 32,768, TRUNCATE the quotient rounded toward zero;
they differ by at most 1, NEAREST being the larger for a positive acc with a remainder of 16,384 or more, and TRUNCATE for a
negative one that lies more than 16,384 below the next multiple up (04 R85). -/
def Obligations.OutputScalingRounds : Prop :=
  ∀ acc : Int,
    scale .nearest acc = (acc + 16384) / 32768 ∧
    (0 ≤ acc → scale .truncate acc = acc / 32768 ∧
      scale .nearest acc - scale .truncate acc = if 16384 ≤ acc % 32768 then 1 else 0) ∧
    (acc < 0 → scale .truncate acc = -((-acc) / 32768) ∧
      scale .truncate acc - scale .nearest acc = if acc % 32768 ≠ 0 ∧ 16384 < 32768 - acc % 32768 then 1 else 0)

/-- The output of a player in its phrase: s0 * 256, then the floored mean of s0 and the sample after it, s0 itself at the end, times
256; 0 with no call or in a gap. Then the half goes on, or the offset (07 R131, R132). -/
def PlayerOutputs : Prop :=
  ∀ (s : State) (i : Nat),
    (((s.player i).call = none ∨ (s.player i).phrase = none) → s.playerOutput i = 0) ∧
    ∀ h k, (s.player i).call = some h → (s.player i).phrase = some k →
      let n := (s.player i).offset
      let s0 := s.memory.sample ((s.phrase k).start + 2 * n)
      let s1 := if n + 1 < (s.phrase k).length then s.memory.sample ((s.phrase k).start + 2 * (n + 1)) else s0
      ((s.player i).second = false →
        s.playerOutput i = s0 * 256 ∧ (s.player i).advance = { s.player i with second := true }) ∧
      ((s.player i).second = true →
        s.playerOutput i = (s0 + s1) / 2 * 256 ∧ (s.player i).advance = { s.player i with second := false, offset := n + 1 }) ∧
      -8388608 ≤ s.playerOutput i ∧ s.playerOutput i ≤ 8388352

/-- The source value of a term of a call, by its type: a PAGE's lane; a PROGRAM's lane, or its fold by the zone's role; a MESSAGE's
player; the sum of the other speakers' microphones of a FULL TALK, or of a LEAD one at its leader, and the leader's elsewhere; an
ALARM's generator, player or silence by its step. An ENDING TALK goes on with the speakers and the leader that its record keeps (04
R70 to R76); what its entry to ENDING keeps there is EndingsWriteParts. -/
def SourceValues : Prop :=
  ∀ (s : State) (f : FrameInput) (e : Nat) (h : Handle) (c : Call),
    let x := s.sources f
    let value := s.callSource x e h c
    (∀ k, k < 64 → x.lane k = if (s.input (k / 16)).framing = .framed then f.lanes.getD k 0 else 0) ∧
    (∀ l, c.part = .page → c.lanes = [l] → value = x.lane l) ∧
    (∀ o lv l, c.part = .program o lv → c.lanes = [l] → value = x.lane l) ∧
    (∀ o lv l r, c.part = .program o lv → c.lanes = [l, r] →
      value = match (s.ep e).role with | .mono => (x.lane l + x.lane r) / 2 | .left => x.lane l | .right => x.lane r) ∧
    (∀ m, c.part = .message m → (m.player = none → value = 0) ∧ ∀ i, i < 4 → m.player = some i → value = s.playerOutput i) ∧
    (∀ t, c.part = .talk t →
      let speakers := if c.state.live then joined s h t.participants else t.kept
      let leader := if c.state.live then t.participants.head?.map (·.station) else t.keptLeader
      let others := ((speakers.filter (· ≠ e)).map fun st => x.lane (st - 144)).sum
      (t.duplex = .full → value = others) ∧ (t.duplex = .lead → leader = some e → value = others) ∧
      ∀ l, t.duplex = .lead → leader = some l → l ≠ e → value = if l ∈ speakers then x.lane (l - 144) else 0) ∧
    ∀ a g pos, c.part = .alarm a → s.call h = some c → s.program a.program = some g →
      (s.alarmSeq h.slot).position = some pos →
      (pos.kind = .tone ∨ pos.kind = .substituted → value = toneOutput (s.alarmSeq h.slot).phase g.toneLevel) ∧
      (pos.kind = .silence → value = 0) ∧
      ∀ i, i < 4 → pos.kind = .phrase → pos.player = some i → value = s.playerOutput i

/-- What the players, the lanes and the calls give to the mix in a frame (04 R70 to R76; 07 R132). -/
def Obligations.SourcesGiveSamples : Prop := PlayerOutputs ∧ SourceValues

/-- A timer after a frame: a stopped one is as it was, a running one has lost one frame, and one at 0 stays there until its expiry is
taken (log 6). -/
def timerAfterFrame : Timer → Timer
  | .stopped => .stopped
  | .running n => .running (n - 1)

/-- A boundary's effect on the settings and the ports: the mix computed before goes out; a pending rounding mode and a pending swap
take effect, and the BANK_SWAP that set the mark is answered with the bank; the link timer loses a frame; an input port becomes
FRAMED on the second of two markers and LOST on the first that is missing, with its PORT_LOSS fault (01 R17, R18; 04 R68, R88; 05 R96;
09 R163; log 6, 10, 11). -/
def BoundarySwitches : Prop :=
  ∀ (s : State) (f : FrameInput), ∃ t, exec (.audioFrameBoundary f) s = .next t ∧
    t.outputs = s.mixed ∧ t.bank = (if s.swapPending then s.bank.other else s.bank) ∧ t.swapPending = false ∧
    t.mixMode = s.pendingMode.getD s.mixMode ∧ t.pendingMode = none ∧ t.linkTimer = timerAfterFrame s.linkTimer ∧
    (∀ p r, s.sweepsHeld → s.swapPending = true → (s.port p).inProgress = some ⟨r, .swapping⟩ →
      AnsweredWith s t p r .ok (byte1 (if s.bank = .a then 1 else 0))) ∧
    ∀ i, i < 4 →
      let marker := f.markers.getD i false
      (t.input i).lastMarker = marker ∧
      (t.input i).framing = (if (s.input i).framing = .framed then (if marker then .framed else .lost)
        else if marker && (s.input i).lastMarker then .framed else (s.input i).framing) ∧
      ((s.input i).framing = .framed → marker = false → (t.activeFault (.inputPort i) .portLoss).isSome = true) ∧
      ((s.input i).framing = .lost → marker = true → (s.input i).lastMarker = true →
        t.activeFault (.inputPort i) .portLoss = none)

/-- The mixes of a boundary. With the events that are due taken first (log 7), `u` is the part after the framing, the mode, the
bank and one ramp step of every term. The sample of an endpoint is the saturated scaled sum of source value times applied
coefficient over its terms. It goes to a station's listen lane, and to the lane of the channel in use of a zone IN_SERVICE or
FALLBACK; a lane that no such zone uses carries 0. A saturation sets the clip flag of the endpoint's lane, and a channel's peak is
the largest magnitude its lane has carried, counted when the sample is computed (log 11). The samples are those of the frame the
boundary opens (log 10) (01 R10, R19; 04 R68, R69, R84, R86, R89). -/
def BoundaryMixes : Prop :=
  ∀ (s : State) (f : FrameInput), ∃ t, exec (.audioFrameBoundary f) s = .next t ∧
    let u := ((s.takeDue.inputsBoundary f).applyPending).stepTerms
    let scaled := fun (e : Nat) =>
      scale u.mixMode (((u.ep e).terms.map fun tm => u.sourceOf (u.sources f) e tm * (tm.applied : Int)).sum)
    let sample := fun (e : Nat) => max (-8388608) (min 8388607 (scaled e))
    let uses := fun (z lane : Nat) =>
      z < 144 ∧ ((u.ep z).service = .inService ∨ (u.ep z).service = .fallback) ∧ (u.ep z).channel = lane
    (∀ e, 144 ≤ e → e < 176 → t.mixed.get (e + 16) 0 = sample e) ∧
    (∀ z lane, uses z lane → (∀ y, uses y lane → y = z) → lane = z ∨ 144 ≤ lane → lane < 160 → t.mixed.get lane 0 = sample z) ∧
    (∀ lane, lane < 160 → (∀ z, ¬ uses z lane) → t.mixed.get lane 0 = 0) ∧
    (∀ lane, lane < 192 → (t.clip.get lane false = true ↔
      s.clip.get lane false = true ∨ ∃ e, e < 176 ∧ clipLane e (u.ep e) = lane ∧ sample e ≠ scaled e)) ∧
    ∀ c, c < 160 → t.peak.get c 0 = max (s.peak.get c 0) (t.mixed.get c 0).natAbs

/-- A boundary at which no event is due and no start of an alarm pending. Every endpoint's terms step, after the targets of a new
bank or mode are set, and every running timer loses one frame: switching, hold, debounce, acquiring, learning and expiry timers, but
for an expiry timer that starts with the fading of its call, and the acquiring timer of a port that becomes FRAMED, which stops. A
TONE or SUBSTITUTED step of an alarm loses one of its frames and one of the frames to its switch, and its generator goes on by its
increment; a SILENCE step loses one frame; a PHRASE step counts none. A player that serves an ALARM, heard or not, or a message that is
heard goes on: to the second half of its sample, or to the next sample; or its gap loses one frame (01 R17; 02 R28; 04 R68, R80, R81,
R88; 05 R97, R103; 07 R132, R135, R138; 08 R146, R150 to R152; 09 R160, R176). A count at 0 stays at 0 until its event is taken (log 6,
7); the frames to switch of a STEADY program are 0 (log 33). -/
def BoundaryCounts : Prop :=
  ∀ (s : State) (f : FrameInput), s.takeDue = s → s.noPending = true → s.playersOk → ∃ t, exec (.audioFrameBoundary f) s = .next t ∧
    t.endpoints =
      ((if s.pendingMode.isSome || s.swapPending then s.endpoints.map (Endpoint.refitAll ⟨t.mixMode, t.bank, s.calls⟩)
        else s.endpoints).map fun ep => { ep.stepTerms with switchTimer := timerAfterFrame ep.switchTimer }) ∧
    t.holds = s.holds.map (fun h => { h with timer := timerAfterFrame h.timer }) ∧
    t.triggers = s.triggers.map (fun x => { x with timer := timerAfterFrame x.timer }) ∧
    (∃ started, t.expiries = (s.expiries.map fun x => { x with timer := timerAfterFrame x.timer }) ++ started ∧
      ∀ x ∈ started, x.timer = .running 240000) ∧
    (∀ i, i < 4 → (t.input i).acquire =
      if (s.input i).framing ≠ .framed ∧ (t.input i).framing = .framed then .stopped else timerAfterFrame (s.input i).acquire) ∧
    (∀ p r c n, (s.port p).inProgress = some ⟨r, .learning c n⟩ →
      (t.port p).inProgress = some ⟨r, .learning c (timerAfterFrame n)⟩) ∧
    (∀ k, 60 ≤ k → k < 64 →
      let q := s.alarmSeq k
      (q.position = none → t.alarmSeq k = q) ∧
      ∀ x, q.position = some x →
        (x.kind = .tone ∨ x.kind = .substituted → t.alarmSeq k =
          { position := some { x with framesLeft := x.framesLeft - 1, toSwitch := x.toSwitch - 1 },
            phase := q.phase + q.increment, increment := q.increment }) ∧
        (x.kind = .silence → t.alarmSeq k = { q with position := some { x with framesLeft := x.framesLeft - 1 } }) ∧
        (x.kind = .phrase → t.alarmSeq k = q)) ∧
    ∀ i h, i < 4 → (s.player i).call = some h → (0 < s.heardCount h ∨ ∃ c, s.call h = some c ∧ c.type = .alarm) →
      let p := s.player i
      (p.phrase = none → t.player i = { p with gap := p.gap - 1 }) ∧
      (p.phrase ≠ none → p.second = false → t.player i = { p with second := true }) ∧
      (p.phrase ≠ none → p.second = true → t.player i = { p with second := false, offset := p.offset + 1 })

/-- AUDIO_FRAME_BOUNDARY: what takes effect, what is mixed, and what goes on by a frame (04 R68). -/
def Obligations.FrameBoundaryMixes : Prop := BoundarySwitches ∧ BoundaryMixes ∧ BoundaryCounts

/-! ## The Hold Line Unit (05 section 5.3) -/

/-- The reports of a bound call's interruptions, and its unbinding. A beginning enters its pair once and asserts the output, the
timer stopped; one of a call that is not bound does nothing. An end removes its pair; the end that empties the set of an ASSERTED
output starts the release delay, or releases it where the delay is 0 (05 R101 to R103). -/
def HoldReports : Prop :=
  ∀ (s : State) (o e : Nat) (h : Handle), o < 4 →
    let r := s.hold o
    let emptied := fun (x : Hold) =>
      if x.state = .asserted ∧ x.pairs = [] then
        (if 0 < x.delay then { x with state := .releasing, timer := .running (48 * x.delay) } else { x with state := .released })
      else x
    (h ∉ r.bound → s.takeInterruption e (.interruption h o true) = s) ∧
    (h ∈ r.bound → s.takeInterruption e (.interruption h o true) =
      s.setHold o { r with state := .asserted, timer := .stopped, pairs := if (h, e) ∈ r.pairs then r.pairs else r.pairs ++ [(h, e)] }) ∧
    ((h, e) ∉ r.pairs → s.takeInterruption e (.interruption h o false) = s) ∧
    ((h, e) ∈ r.pairs → s.takeInterruption e (.interruption h o false) =
      s.setHold o (emptied { r with pairs := r.pairs.filter (· ≠ (h, e)) })) ∧
    ∀ c, c.holdLine = some o → s.unbindHold h c =
      s.setHold o (emptied { r with bound := r.bound.filter (· ≠ h), pairs := r.pairs.filter (·.1 ≠ h) })

/-- SET_HOLD stores a delay of at most 10,000 ms, leaves a running timer as it is, and answers the record; HOLD_RELEASE_TIMEOUT
releases the output if its timer runs, whatever it has left (log 6), and else does nothing (log 8) (05 R104, R105; layout log 18). -/
def HoldCommands : Prop :=
  ∀ (s : State) (p : Port) (tag o : Nat) (delay : Option Nat),
    let c : Instr := .setHold p tag o delay
    let x := { s.hold o with delay := delay.getD (s.hold o).delay }
    (s.mayTake p .holdLineUnit = true → 3 < o ∨ (∃ d, delay = some d ∧ 10000 < d) →
      exec c s = .next (s.replied p .holdLineUnit c .badParam [])) ∧
    (s.mayTake p .holdLineUnit = true → o ≤ 3 → delay.all (· ≤ 10000) = true →
      exec c s = .next ((s.setHold o x).replied p .holdLineUnit c .ok
        (byte2 x.delay ++ byte1 x.state.code ++ byteFlag (x.state != .released) ++
          byteOpt byte2 (if x.timer.isRunning then some x.timer.msLeft else none) ++ byteList byteHandle x.bound ++
          byte2 x.pairs.length))) ∧
    ((s.hold o).timer = .stopped → exec (.holdReleaseTimeout o) s = .next s) ∧
    ∀ n, (s.hold o).timer = .running n →
      exec (.holdReleaseTimeout o) s = .next (s.setHold o { s.hold o with state := .released, timer := .stopped })

/-- The show hold outputs (05 R101 to R105). -/
def Obligations.HoldOutputsFollowReports : Prop := HoldReports ∧ HoldCommands

/-! ## Phrases and players (07) -/

/-- A phrase is named by a MESSAGE call that is not ENDED, or is some player's current phrase (07 R124). -/
def InUse (s : State) (id : Nat) : Prop :=
  (∃ h c m, s.call h = some c ∧ c.part = .message m ∧ id ∈ m.phrases ∧ c.state ≠ .ended) ∨
  ∃ i, i < 4 ∧ (s.player i).phrase = some id

/-- The Verify Unit at the beginning of its check of the queue's head: nothing summed, and a DEFINED or BAD entry is VERIFYING; with
an empty queue it is idle (07 R129). -/
def checkBegun (s : State) : State :=
  let u := { s with verifySummed := 0, verifySum := 0 }
  match s.verifyQueue with
  | [] => u
  | id :: _ =>
    if (s.phrase id).state = .defined ∨ (s.phrase id).state = .bad then
      { u with phrases := s.phrases.set id { s.phrase id with state := .verifying } }
    else u

/-- The state with what the clear of a phrase's PHRASE_BAD fault may change taken from `t`: active faults, entries and outputs. -/
def withFaultsOf (s t : State) : State := { s with activeFaults := t.activeFaults, faults := t.faults, faultOuts := t.faultOuts }

/-- DEFINE_PHRASE and RETIRE_PHRASE: an id above 127 or a field out of its range is refused BAD_PARAM, a phrase in use IN_USE (for
DEFINE_PHRASE also one under check), and nothing changes. Otherwise the entry is DEFINED with its fields, or EMPTY and out of the
verify queue, with the next head's check begun if it was the head; its PHRASE_BAD fault clears, and the answer is OK. Retiring an
EMPTY entry changes nothing (07 R125, R126; 09 R164). -/
def PhraseDefinitions : Prop :=
  ∀ (s : State) (p : Port) (tag id start length check : Nat), s.mayTake p .phraseDirectory = true →
    let c : Instr := .definePhrase p tag id start length check
    let d : Instr := .retirePhrase p tag id
    let fieldsOk := start % 2 = 0 ∧ start ≤ 16777214 ∧ 1 ≤ length ∧ length ≤ 4194304 ∧ start + 2 * length ≤ 16777216 ∧
      check ≤ 16777215
    (127 < id ∨ ¬ fieldsOk → exec c s = .next (s.replied p .phraseDirectory c .badParam [])) ∧
    (id ≤ 127 → fieldsOk → InUse s id ∨ s.verifyQueue.head? = some id →
      exec c s = .next (s.replied p .phraseDirectory c .inUse [])) ∧
    (id ≤ 127 → fieldsOk → ¬ InUse s id → s.verifyQueue.head? ≠ some id → ∃ t, exec c s = .next t ∧
      AnsweredWith s t p c .ok [] ∧ t.activeFault (.phrase id) .phraseBad = none ∧
      t.standing = (withFaultsOf ((s.serve p .phraseDirectory).setPhrase id ⟨.defined, start, length, check⟩) t).standing) ∧
    (127 < id → exec d s = .next (s.replied p .phraseDirectory d .badParam [])) ∧
    (id ≤ 127 → InUse s id → exec d s = .next (s.replied p .phraseDirectory d .inUse [])) ∧
    (id ≤ 127 → ¬ InUse s id → (s.phrase id).state = .empty → exec d s = .next (s.replied p .phraseDirectory d .ok [])) ∧
    (id ≤ 127 → ¬ InUse s id → (s.phrase id).state ≠ .empty → ∃ t, exec d s = .next t ∧
      AnsweredWith s t p d .ok [] ∧ t.activeFault (.phrase id) .phraseBad = none ∧
      let u : State := { (s.serve p .phraseDirectory).setPhrase id { s.phrase id with state := .empty } with
        verifyQueue := s.verifyQueue.filter (· ≠ id) }
      t.standing = (withFaultsOf (if s.verifyQueue.head? = some id then checkBegun u else u) t).standing)

/-- VERIFY_PHRASE, by the first condition that holds: an id above 127 is refused BAD_PARAM; an EMPTY entry NOT_READY; one that is in
the queue is answered OK and enters no second time; with 8 ids in the queue the answer is BUSY; otherwise the id joins the tail, and
in an empty queue its check begins at once (07 R128, R129). -/
def PhraseVerification : Prop :=
  ∀ (s : State) (p : Port) (tag id : Nat), s.mayTake p .phraseDirectory = true →
    let c : Instr := .verifyPhrase p tag id
    let replied := fun (u : State) (a : AnswerCode) => exec c s = .next (u.replied p .phraseDirectory c a [])
    (127 < id → replied s .badParam) ∧ (id ≤ 127 → (s.phrase id).state = .empty → replied s .notReady) ∧
    (id ≤ 127 → (s.phrase id).state ≠ .empty →
      (id ∈ s.verifyQueue → replied s .ok) ∧
      (id ∉ s.verifyQueue → 8 ≤ s.verifyQueue.length → replied s .busy) ∧
      (id ∉ s.verifyQueue → 1 ≤ s.verifyQueue.length → s.verifyQueue.length < 8 →
        replied { s with verifyQueue := s.verifyQueue ++ [id] } .ok) ∧
      (s.verifyQueue = [] → replied (checkBegun { s with verifyQueue := [id] }) .ok))

/-- The requests on phrases (07 R125, R126, R128). -/
def Obligations.PhraseRequestsAreDecided : Prop := PhraseDefinitions ∧ PhraseVerification

/-- The sum of `n` stored samples from a byte address, each unsigned, the more significant byte first (07 R123). -/
def storedSum (m : Memory) (a n : Nat) : Nat :=
  ((List.range n).map fun k => 256 * (m.read (a + 2 * k)).toNat + (m.read (a + 2 * k + 1)).toNat).sum

/-- VERIFY_BLOCK_READ: a block of at most 256 stored samples of the head is added to the sum, modulo 2^24. At the phrase's end the id
leaves the queue and the next check begins. A sum equal to the check value makes the entry VERIFIED, and its fault clears. Any other
makes it BAD, with a PHRASE_BAD fault, ends every live MESSAGE call that names it with PHRASE_FAILED, FINISHED at its position, its
sweep stopped and answered NOT_READY for an opening and UNKNOWN_CALL else, and turns the step of an ALARM whose player plays it into a
tone for the stored samples still to begin (02 R33, R35, R36; 07 R129, R130, R136; 08 R153; layout log 18). The data of a stopped DROP
sweep's answer, with its state byte, is the model's choice (log 28). With an empty queue nothing happens (log 8). -/
def Obligations.VerifyUnitChecksHead : Prop :=
  ∀ (s : State) (n : Nat),
    (s.verifyQueue = [] → exec (.verifyBlockRead n) s = .next s) ∧
    ∀ id rest, s.verifyQueue = id :: rest → s.noPending = true →
      let e := s.phrase id
      let k := min (min n 256) (e.length - s.verifySummed)
      let sum := (s.verifySum + storedSum s.memory (e.start + 2 * s.verifySummed) k) % 16777216
      let summed := s.verifySummed + k
      ∃ t, exec (.verifyBlockRead n) s = .next t ∧
        (s.verifySum < 16777216 → summed < e.length →
          t.standing = State.standing { s with verifySummed := summed, verifySum := sum }) ∧
        (s.verifySum < 16777216 → e.length ≤ summed → id ∉ rest → id < 128 →
          t.verifyQueue = rest ∧ t.verifySummed = 0 ∧ t.verifySum = 0 ∧
          (∀ j, j < 128 → rest.head? = some j → (t.phrase j).state =
            if (s.phrase j).state = .defined ∨ (s.phrase j).state = .bad then .verifying else (s.phrase j).state) ∧
          (sum = e.check → t.phrase id = { e with state := .verified } ∧ t.activeFault (.phrase id) .phraseBad = none) ∧
          (sum ≠ e.check → t.phrase id = { e with state := .bad } ∧
            (t.activeFault (.phrase id) .phraseBad).isSome = true ∧
            (s.listingsOk → ∀ h c m, s.call h = some c → c.part = .message m → c.state.live = true → id ∈ m.phrases →
              EndedIn t h .phraseFailed ∧ (s.playersOk → EndedKeeping s t h c.part) ∧
              ∀ sw, s.sweepsHeld → c.sweep = some sw →
                SweepAnswered s t h.slot sw (if sw.kind = .opening then .notReady else .unknownCall) (stoppedData h sw)) ∧
            (s.playersOk → s.callsOk → ∀ i h c a g x, i < 4 → (s.player i).call = some h → (s.player i).phrase = some id →
              s.call h = some c → c.part = .alarm a → s.program a.program = some g →
              (s.alarmSeq h.slot).position = some x →
              let left := e.length - (s.player i).offset - (if (s.player i).second then 1 else 0)
              (∃ y, (t.alarmSeq h.slot).position = some y ∧ y.repeatNo = x.repeatNo ∧ y.index = x.index ∧
                y.kind = .substituted ∧ y.player = none ∧ y.framesLeft = 48 * max 10 ((left + 12) / 24)) ∧
              (t.alarmSeq h.slot).phase = 0 ∧
              ∃ u b, t.slot h.slot = ⟨h.gen, some u⟩ ∧ u.part = .alarm b ∧ b.substituted = true)))

/-- A player serves an ACTIVE message that is heard somewhere, in a state with no start of an alarm pending. -/
def PlaysMessage (s : State) (i : Nat) (h : Handle) (c : Call) (m : MessagePart) : Prop :=
  i < 4 ∧ s.slot h.slot = ⟨h.gen, some c⟩ ∧ c.part = .message m ∧ c.state = .active ∧ (s.player i).call = some h ∧
  m.player = some i ∧ 0 < s.heardCount h ∧ s.noPending = true ∧ s.playersOk ∧ s.listingsOk

/-- The message goes on at a position, its player with a phrase or a gap. -/
def MessageGoesOn (t : State) (i : Nat) (h : Handle) (m : MessagePart) (phrase : Option Nat) (gap : Nat) : Prop :=
  t.player i = ⟨some h, phrase, 0, false, gap⟩ ∧ ∃ c, t.slot h.slot = ⟨h.gen, some c⟩ ∧ c.part = .message m ∧ c.state = .active

/-- The end of a message's phrase: the next phrase of the list; at the end of the list the next repeat, after its gap; after the
last repeat the call ends with COMPLETE, FINISHED at the position it has, and its player is freed. The end of a gap: the player takes
phrase index 0. A phrase or gap that is not over is left alone (07 R135, R136; when the events come is log 7, an event that is not due
log 8). -/
def PhrasesFollow : Prop :=
  (∀ (s : State) (i : Nat) (h : Handle) (c : Call) (m : MessagePart) (ph : Nat), PlaysMessage s i h c m →
    (s.player i).phrase = some ph → (s.phrase ph).length ≤ (s.player i).offset →
    ∃ t, exec (.messagePhraseEnd i) s = .next t ∧ t.standing = s.standing ∧
      let next := { m with index := 0, offset := 0, repeatNo := min (m.repeatNo + 1) 65535 }
      let again := m.repeatCount = 0 ∨ m.repeatNo < m.repeatCount
      (m.index + 1 < m.phrases.length →
        MessageGoesOn t i h { m with index := m.index + 1, offset := 0 } m.phrases[m.index + 1]? 0) ∧
      (m.phrases.length ≤ m.index + 1 → again → m.repeatGap = 0 → MessageGoesOn t i h next m.phrases[0]? 0) ∧
      (m.phrases.length ≤ m.index + 1 → again → 0 < m.repeatGap → MessageGoesOn t i h next none (48 * m.repeatGap)) ∧
      (m.phrases.length ≤ m.index + 1 → ¬ again → EndedIn t h .complete ∧ EndedKeeping s t h c.part ∧ (t.player i).call ≠ some h)) ∧
  (∀ (s : State) (i ph : Nat), (s.player i).phrase = some ph → (s.player i).offset < (s.phrase ph).length →
    exec (.messagePhraseEnd i) s = .next s) ∧
  ∀ (s : State) (i : Nat) (h : Handle) (c : Call) (m : MessagePart), PlaysMessage s i h c m → (s.player i).phrase = none →
    ((s.player i).gap = 0 → exec (.repeatGapEnd i) s =
      .next (s.setPlayer i { s.player i with phrase := m.phrases[m.index]?, offset := 0, second := false })) ∧
    ((s.player i).gap ≠ 0 → exec (.repeatGapEnd i) s = .next s)

/-- A message holds player `j` (07 R131). -/
def HoldsPlayer (s : State) (h : Handle) (c : Call) (m : MessagePart) (j : Nat) : Prop :=
  s.slot h.slot = ⟨h.gen, some c⟩ ∧ c.part = .message m ∧ m.player = some j

/-- What ends an event does for a message holding a player, where no start of an alarm is pending. If the message is heard nowhere, it
is PAUSED: rewound to the start of the phrase at its index, its repeat number and the rest of its position kept, its player gone. One
that is heard somewhere keeps its player, which plays on (07 R134). That after every command no message holding a player is unheard is
the second clause of PlayersServeTheirCalls. -/
def UnheardMessagesPause : Prop :=
  ∀ (s0 s : State) (h : Handle) (c : Call) (m : MessagePart) (j : Nat), s.noPending = true → HoldsPlayer s h c m j →
    c.state = .active → (s.player j).call = some h →
    let t := settle s0 s
    (s.heardCount h = 0 →
      (∃ u, t.slot h.slot = ⟨h.gen, some u⟩ ∧ u.state = .active ∧
        u.part = .message { m with offset := 0, player := none, playback := .paused }) ∧ (t.player j).call ≠ some h) ∧
    (0 < s.heardCount h → s.playersOk →
      (∃ u, t.slot h.slot = ⟨h.gen, some u⟩ ∧ u.state = .active ∧ u.part = .message m) ∧ t.player j = s.player j)

/-- A message waits for a player: ACTIVE, heard somewhere, with none, CUEING or PAUSED (07 R133). -/
def WaitsForPlayer (s : State) (h : Handle) (c : Call) (m : MessagePart) : Prop :=
  s.slot h.slot = ⟨h.gen, some c⟩ ∧ c.part = .message m ∧ c.state = .active ∧ 0 < s.heardCount h ∧ m.player = none ∧
  (m.playback = .cueing ∨ m.playback = .paused)

/-- The waiting message that is first: of the highest level, and among equals the one opened earliest (07 R137). -/
def FirstWaiting (s : State) (h : Handle) (c : Call) (m : MessagePart) : Prop :=
  WaitsForPlayer s h c m ∧ ∀ k d n, WaitsForPlayer s k d n → k ≠ h → d.level < c.level ∨ (d.level = c.level ∧ c.openSeq < d.openSeq)

/-- The lowest-numbered IDLE player (07 R133, R137). -/
def LowestIdle (s : State) (i : Nat) : Prop := i < 4 ∧ (s.player i).call = none ∧ ∀ j, j < i → (s.player j).call ≠ none

/-- The arbiter's service of waiting messages: while a player is IDLE and a message waits, the message that is first takes the
lowest-numbered IDLE player and is PLAYING from the start of the phrase at its index; with no IDLE player or no message waiting
nothing happens. What ends an event leaves no player IDLE beside a message that waits (07 R133, R137); that no command leaves one so is
the second clause of PlayersServeTheirCalls. -/
def MessagesTakePlayers : Prop :=
  (∀ s : State, ((∀ i, i < 4 → (s.player i).call ≠ none) ∨ (∀ h c m, ¬ WaitsForPlayer s h c m) → s.servePlayers = s) ∧
    ∀ i h c m, LowestIdle s i → FirstWaiting s h c m →
      s.servePlayers = State.servePlayers ((s.setPlayer i ⟨some h, m.phrases[m.index]?, m.offset, false, 0⟩).setRecord h.slot
        (some { c with part := .message { m with player := some i, playback := .playing } }))) ∧
  ∀ s0 s : State, (∀ i, i < 4 → ((settle s0 s).player i).call ≠ none) ∨ ∀ h c m, ¬ WaitsForPlayer (settle s0 s) h c m

/-- The player an asking ALARM receives: the lowest-numbered IDLE one; with none IDLE that of the message of lowest level holding
one, and among equals of the one opened last, which is paused and rewound (07 R134, R137). -/
def AlarmsTakePlayers : Prop :=
  ∀ s : State, (∀ i, LowestIdle s i → s.playerForAlarm = (s, some i)) ∧
    ∀ h c m j, (∀ i, i < 4 → (s.player i).call ≠ none) → HoldsPlayer s h c m j →
      (∀ k d n l, HoldsPlayer s k d n l → k ≠ h → c.level < d.level ∨ (c.level = d.level ∧ d.openSeq < c.openSeq)) →
      s.playerForAlarm =
        ((s.setPlayer j .idle).setRecord h.slot
          (some { c with part := .message { m with offset := 0, player := none, playback := .paused } }), some j)

/-- Message playback: the order of phrases and repeats, pauses, waiting for players, and the arbiter's order and theft (07 R133 to
R137); the end of a message, which keeps its position (07 R136), is EndingsWriteParts. The stamps that order openings are log 16. -/
def Obligations.MessagePlaybackMovesOn : Prop := PhrasesFollow ∧ UnheardMessagesPause ∧ MessagesTakePlayers ∧ AlarmsTakePlayers

/-- Every step from a state whose records and stored alarm programs are in order keeps players and calls together: a player serves
a live call that names it, a message holding a player or an alarm at a PHRASE step, and a player that serves none is IDLE with
everything cleared. The program of an ALARM call that is OPENING, ACTIVE or ENDING stays defined (07 R131, R134, R136, R137; 08 R141,
R155). And every step leaves the players where R133, R134 and R137 put them: no message holds a player that is heard nowhere, and no
player is IDLE while an ACTIVE message that is heard, CUEING or PAUSED waits for one. -/
def Obligations.PlayersServeTheirCalls : Prop :=
  (∀ s t : State, s.callsOk → s.settingsOk → s.playersOk → step s = .next t → t.playersOk) ∧
  ∀ s t : State, s.messagesServed → step s = .next t → t.messagesServed

/-- Every step keeps the verify queue within 8 ids, none twice and none of an EMPTY entry, and the fault list within 48 entries, one
for a source and kind, in its order, with the entries of active faults ACTIVE; and it keeps the spare pool in order: no zone holds
two spares, only a zone in FALLBACK or SWITCHING holds one, the zones that wait are OUT_OF_SERVICE, each once, and every zone's
channel, move and timer agree with its service state (07 R126, R128; 09 R166 to R168, R171 to R176). The primary as the channel in
use of a zone OUT_OF_SERVICE is log 30. -/
def Obligations.QueueFaultListAndPoolStayInOrder : Prop :=
  ∀ s t : State, step s = .next t → (s.verifyOk → t.verifyOk) ∧ (s.faultsOk → t.faultsOk) ∧ (s.poolOk → t.poolOk)

/-! ## Alarms (08) -/

/-- A step as DEFINE_ALARM stores it, its duration clamped to 10 to 60,000 ms; none for an unknown kind or a phrase id above 127
(08 R139, R141). -/
def storedStep (x : StepField) : Option AlarmStep :=
  let ms := max 10 (min 60000 x.value)
  if x.kind = 0 then some (.tone ms) else if x.kind = 1 then some (.silence ms)
  else if x.kind = 2 ∧ x.value ≤ 127 then some (.phrase x.value) else none

/-- DEFINE_ALARM: from the System Port it is refused LOCKED; an id above 7, or fields that fail a check, BAD_PARAM; a program with a
call OPENING, ACTIVE or ENDING, IN_USE; and nothing changes. Otherwise the program is replaced, each field with a clamp stored
clamped, or made empty, and the answer is OK with the program as stored (08 R141; layout log 18). -/
def ProgramsAreDefined : Prop :=
  ∀ (s : State) (p : Port) (tag id mark : Nat) (fields : Option AlarmFields), s.mayTake p .alarmSequencer = true →
    let c : Instr := .defineAlarm p tag id mark fields
    let refused := fun code => exec c s = .next (s.replied p .alarmSequencer c code [])
    let inUse := ∃ k r a, 60 ≤ k ∧ k < 64 ∧ (s.slot k).record = some r ∧ r.state ≠ .ended ∧ r.part = .alarm a ∧ a.program = id
    let stored := fun (g : Option AlarmProgram) =>
      exec c s = .next (State.replied { s with programs := s.programs.set id g } p .alarmSequencer c .ok (programData g))
    (p = .system → refused .locked) ∧ (p = .bridge → 7 < id → refused .badParam) ∧
    (p = .bridge → id ≤ 7 → mark = 1 → (inUse → refused .inUse) ∧ (¬ inUse → stored none)) ∧
    ∀ f, p = .bridge → id ≤ 7 → mark = 0 → fields = some f →
      (1 < f.shape ∨ f.targets = [] ∨ 8 < f.targets.length ∨ (∃ d ∈ f.targets, descriptorTarget d = none) ∨ f.steps = [] ∨
        16 < f.steps.length ∨ (∃ x ∈ f.steps, storedStep x = none) ∨ 255 < f.repeatCount → refused .badParam) ∧
      ∀ targets steps, f.shape ≤ 1 → 1 ≤ f.targets.length → f.targets.length ≤ 8 →
        f.targets.map descriptorTarget = targets.map some → 1 ≤ f.steps.length → f.steps.length ≤ 16 →
        f.steps.map storedStep = steps.map some → f.repeatCount ≤ 255 →
        (inUse → refused .inUse) ∧
        (¬ inUse → stored (some
          { level := max 12 (min 15 f.level), targets, shape := if f.shape = 0 then .steady else .warble,
            f1 := max 200 (min 4000 f.f1), f2 := max 200 (min 4000 f.f2), toneLevel := min f.toneLevel 32768, steps,
            repeatCount := f.repeatCount }))

/-- SET_TRIGGER: from the System Port it is refused LOCKED, with an input, program or mode out of range BAD_PARAM. Otherwise the
program and the mode are stored, the pending mark is cleared, the owned call becomes none, the levels and the timer stay, and the
answer is OK with the record (08 R149; layout log 18). -/
def TriggersAreSet : Prop :=
  ∀ (s : State) (p : Port) (tag i program mode : Nat), s.mayTake p .alarmSequencer = true →
    let c : Instr := .setTrigger p tag i program mode
    let refused := fun code => exec c s = .next (s.replied p .alarmSequencer c code [])
    (p = .system → refused .locked) ∧ (p = .bridge → 3 < i ∨ 7 < program ∨ 2 < mode → refused .badParam) ∧
    (p = .bridge → i ≤ 3 → program ≤ 7 → mode ≤ 2 →
      let x : Trigger := { s.trigger i with
        program, mode := if mode = 0 then .off else if mode = 1 then .latched else .held, pending := none, owned := none }
      exec c s = .next ((s.setTrigger i x).replied p .alarmSequencer c .ok x.data))

/-- TRIGGER_PIN_CHANGE: a change of the pin level starts the 20 ms debounce anew while it differs from the debounced level and stops
it when it comes back; the level it has already changes nothing (08 R146). An expiry of a stopped timer does nothing (log 8). -/
def PinsAreDebounced : Prop :=
  ∀ (s : State) (i : Nat) (v : Bool), i < 4 →
    let x := s.trigger i
    (x.pin = v → exec (.triggerPinChange i v) s = .next s) ∧
    (x.pin ≠ v → v ≠ x.debounced →
      exec (.triggerPinChange i v) s = .next (s.setTrigger i { x with pin := v, timer := .running 960 })) ∧
    (x.pin ≠ v → v = x.debounced →
      exec (.triggerPinChange i v) s = .next (s.setTrigger i { x with pin := v, timer := .stopped })) ∧
    (x.timer = .stopped → exec (.debounceExpiry i) s = .next s)

/-- The requests on programs and triggers, and the trigger pins (08 R141, R146, R149). -/
def Obligations.ProgramsAndTriggersAreSet : Prop := ProgramsAreDefined ∧ TriggersAreSet ∧ PinsAreDebounced

/-- Step `idx` of program `g` has begun in repeat `rep` of the alarm in slot `k`. A TONE or SILENCE step has 48 frames for each
ms. A phrase that is VERIFIED has a player at its start; any other is a tone of a 24th of its length in ms, rounded half up and at
least 10, or of 3,000 ms for an EMPTY entry, and the call's phrase-substituted flag is set. A tone begins at phase 0 on f1, a
WARBLE one with 12,000 frames to its switch (08 R150 to R153). What the fields of the position read that have no meaning in the step
is the model's choice (log 33). -/
def StepBegun (s t : State) (k : Nat) (g : AlarmProgram) (rep idx : Nat) : Prop :=
  let q := t.alarmSeq k
  let tone := fun (kind : StepKind) (frames : Nat) =>
    q = { position := some { repeatNo := rep, index := idx, kind, framesLeft := frames, player := none, onF2 := false,
                             toSwitch := if g.shape = .warble then 12000 else 0 },
          phase := 0, increment := toneIncrement g.f1 }
  match g.steps[idx]? with
  | none => True
  | some (.tone ms) => tone .tone (48 * ms)
  | some (.silence ms) =>
    q.position = some { repeatNo := rep, index := idx, kind := .silence, framesLeft := 48 * ms, player := none, onF2 := false,
                        toSwitch := 0 }
  | some (.phrase id) =>
    if (s.phrase id).state = .verified then
      ∃ i, i < 4 ∧ t.player i = ⟨some (t.handleOf k), some id, 0, false, 0⟩ ∧
        q.position = some { repeatNo := rep, index := idx, kind := .phrase, framesLeft := 0, player := some i, onF2 := false,
                            toSwitch := 0 }
    else
      tone .substituted (48 * (if (s.phrase id).state = .empty then 3000 else max 10 (((s.phrase id).length + 12) / 24))) ∧
      ∃ r a, (t.slot k).record = some r ∧ r.part = .alarm a ∧ a.substituted = true

/-- No alarm slot is FREE, or `k` is the lowest that is. -/
def LowestFree (s : State) (k : Nat) : Prop :=
  60 ≤ k ∧ k < 64 ∧ (s.slot k).record = none ∧ ∀ j, 60 ≤ j → j < k → (s.slot j).record.isSome = true
/-- Every alarm slot is taken. -/
def AllTaken (s : State) : Prop := ∀ j, 60 ≤ j → j < 64 → (s.slot j).record.isSome = true
/-- With every alarm slot taken, the record in slot `k` is the one displaced for a new alarm of a level: of the ENDED ones the one
that ended first; with none ENDED, of the lowest level below the new one, the one opened last (08 R144). -/
def Displaces (s : State) (level k : Nat) (r : Call) : Prop :=
  AllTaken s ∧ 60 ≤ k ∧ k < 64 ∧ (s.slot k).record = some r ∧
  ((r.state = .ended ∧ ∀ j x, 60 ≤ j → j < 64 → j ≠ k → (s.slot j).record = some x → x.state = .ended → r.endSeq < x.endSeq) ∨
    (r.state.live = true ∧ r.level < level ∧ ∀ j x, 60 ≤ j → j < 64 → j ≠ k → (s.slot j).record = some x →
      x.state ≠ .ended ∧ (x.state.live = true → r.level < x.level ∨ (r.level = x.level ∧ x.openSeq < r.openSeq))))
/-- No slot can be had for an alarm of a level (08 R144). -/
def NoSlot (s : State) (level : Nat) : Prop :=
  ∀ j, 60 ≤ j → j < 64 → ∃ x, (s.slot j).record = some x ∧ x.state ≠ .ended ∧ (x.state.live = true → level ≤ x.level)

/-- An alarm of program `id` has been opened in slot `k`, by a request of port `p` or by an input, with the record it displaced: its
record, its sweep over the program's targets, and its first step (02 R43; 08 R143; step fields without a meaning log 33). -/
def AlarmOpened (s t : State) (p : Port) (answers : Bool) (id k : Nat) (g : AlarmProgram) (d : Option (Handle × EndReason)) :
    Prop :=
  let x := s.expand .alarm [] (fun _ => false) g.targets
  StepBegun s t k g 1 0 ∧ ∃ r a, t.slot k = ⟨((s.slot k).gen + 1) % 256, some r⟩ ∧ r.level = g.level ∧ r.opener = p ∧
    r.locked = true ∧ r.state = .opening ∧ r.gain = 32768 ∧ r.ramp = 0 ∧ r.part = .alarm a ∧ a.program = id ∧
    r.sweep = some { kind := .opening, port := p, answers, rest := x.1, taken := 0, skipped := x.2, bumped := 0, removed := 0,
                     notListed := 0, lastLoss := none, displaced := d }

/-- The program's live call, in the lowest of its slots. -/
def LiveAt (s : State) (id k : Nat) : Prop :=
  60 ≤ k ∧ k < 64 ∧ (∃ r a, (s.slot k).record = some r ∧ r.state.live = true ∧ r.part = .alarm a ∧ a.program = id) ∧
  ∀ j, 60 ≤ j → j < k → ¬ ∃ r a, (s.slot j).record = some r ∧ r.state.live = true ∧ r.part = .alarm a ∧ a.program = id

/-- START_ALARM, by the first condition that holds: an empty program or an id above 7, BAD_PARAM; a live call of the program,
ALREADY_ACTIVE with its handle; geometry not in use that a target needs, NOT_READY; no endpoint, NO_TARGETS; no slot, ALARM_LIMIT.
Otherwise the alarm is opened, in the lowest FREE alarm slot or in that of the record displaced, whose sweep, if it had one, is
answered UNKNOWN_CALL, and the request waits for the sweep's end; an input that owns a live record displaced owns it no more (08 R143,
R144, R155; the layout of the data is log 18, the order of openings and ends by stamps log 16). The data of a stopped DROP sweep's
answer (log 28), and what the fields of the step position read that have no meaning in the step (log 33), are the model's choices.
With starts pending at inputs, what follows is PendingStartsAreRetried. -/
def StartsByRequest : Prop :=
  ∀ (s : State) (p : Port) (tag id : Nat), s.mayTake p .alarmSequencer = true →
    let c : Instr := .startAlarm p tag id
    let refused := fun code data => exec c s = .next (s.replied p .alarmSequencer c code data)
    (s.program id = none → refused .badParam []) ∧
    (∀ g k, s.program id = some g → LiveAt s id k → refused .alreadyActive (byteHandle (s.handleOf k))) ∧
    ∀ g, s.program id = some g → (∀ k, ¬ LiveAt s id k) →
      (s.geometryReady g.targets = false → refused .notReady []) ∧
      (s.geometryReady g.targets = true →
        ((s.expand .alarm [] (fun _ => false) g.targets).1 = [] →
          refused .noTargets (byte1 0 ++ byte1 (s.expand .alarm [] (fun _ => false) g.targets).2)) ∧
        ((s.expand .alarm [] (fun _ => false) g.targets).1 ≠ [] →
          (NoSlot s g.level → refused .alarmLimit []) ∧
          (s.noPending = true → s.callsOk → s.playersOk → s.sweepsHeld → s.listingsOk → ∀ k d,
            (LowestFree s k ∧ d = none ∨
              ∃ r, Displaces s g.level k r ∧
                d = some (s.handleOf k, if r.state = .ended then r.reason.getD .displaced else .displaced)) →
            ∃ t, exec c s = .next t ∧ AlarmOpened s t p true id k g d ∧
              (t.port p).inProgress = some ⟨c, .sweeping k⟩ ∧ (t.port p).answers = (s.port p).answers ∧
              t.standing = (s.serve p .alarmSequencer).standing ∧
              (∀ ep ∈ t.endpoints.cells, ep.lists (s.handleOf k) = false) ∧
              (∀ i, i < 4 → (s.trigger i).owned ≠ some (s.handleOf k) → t.trigger i = s.trigger i) ∧
              (∀ i r, i < 4 → (s.trigger i).owned = some (s.handleOf k) → (s.slot k).record = some r → r.state.live = true →
                t.trigger i = { s.trigger i with owned := none }) ∧
              ∀ r sw, (s.slot k).record = some r → r.sweep = some sw →
                SweepAnswered s t k sw .unknownCall (stoppedData (s.handleOf k) sw))))

/-- Input `i` has tried to start its bound program, as the Bridge Port, from `s` to `t`. A start that fails leaves its answer code as
the last result and no mark; without a slot the mark is set, or stays as it was. Otherwise the alarm is opened, in the lowest FREE
alarm slot or in that of the record displaced, whose end is handed to no one and whose sweep, if a request waits for it, is answered
UNKNOWN_CALL; the mark is clear, a HELD input owns the call, and an input that owned a live record displaced owns it no more (08 R143,
R144, R147, R155; stamps log 16, layout log 18). The data of a stopped DROP sweep's answer (log 28) and the step fields without a
meaning (log 33) are the model's choices. -/
def TriedStart (s t : State) (i : Nat) : Prop :=
  let x := s.trigger i
  let targets := fun (g : AlarmProgram) => (s.expand .alarm [] (fun _ => false) g.targets).1
  let failed := fun code => t.trigger i = { x with pending := none, lastResult := some code } ∧ t.endpoints = s.endpoints
  let opened := fun (t' : State) (k : Nat) (owned : Option Handle) =>
    { x with pending := none, lastResult := some .ok, owned := if x.mode = .held then some (t'.handleOf k) else owned }
  (s.program x.program = none → failed .badParam) ∧
  (∀ g k, s.program x.program = some g → LiveAt s x.program k → failed .alreadyActive) ∧
  ∀ g, s.program x.program = some g → (∀ k, ¬ LiveAt s x.program k) →
    (s.geometryReady g.targets = false → failed .notReady) ∧
    (s.geometryReady g.targets = true →
      (targets g = [] → failed .noTargets) ∧
      (targets g ≠ [] →
        (NoSlot s g.level →
          t.trigger i = { x with pending := some (x.pending.getD s.seq), lastResult := some .alarmLimit } ∧
          t.endpoints = s.endpoints) ∧
        (∀ k, LowestFree s k → AlarmOpened s t .bridge false x.program k g none ∧ t.trigger i = opened t k x.owned) ∧
        ∀ k r, Displaces s g.level k r →
          AlarmOpened s t .bridge false x.program k g
            (some (s.handleOf k, if r.state = .ended then r.reason.getD .displaced else .displaced)) ∧
          t.trigger i = opened t k (if r.state.live = true ∧ x.owned = some (s.handleOf k) then none else x.owned) ∧
          (∀ j, j < 4 → j ≠ i → r.state.live = true → (s.trigger j).owned = some (s.handleOf k) → (t.trigger j).owned = none) ∧
          (∀ ep ∈ t.endpoints.cells, ep.lists (s.handleOf k) = false) ∧
          ∀ sw, r.sweep = some sw → SweepAnswered s t k sw .unknownCall (stoppedData (s.handleOf k) sw)))

/-- A running debounce timer of an input runs out, whatever it has left (log 6): the debounced level takes the pin level. An
activation of a LATCHED or HELD input tries to start its program. A release of a HELD input ends the live call it owns with
INPUT_RELEASED, with its part as EndingKeeps says, and the sweep of an ALARM so ended is answered UNKNOWN_CALL if a request waits for
it. An OFF input does nothing more (08 R143, R146 to R148; layout log 18). The data of a stopped DROP sweep's answer (log 28), and
what the fields of the step position read that have no meaning in the step (log 33), are the model's choices. -/
def StartsByInput : Prop :=
  ∀ (s : State) (i n : Nat), i < 4 → (s.trigger i).timer = .running n → s.noPending = true → s.callsOk → s.playersOk →
    s.sweepsHeld → s.listingsOk →
    let x := s.trigger i
    let y : Trigger := { x with debounced := x.pin, timer := .stopped }
    ∃ t, exec (.debounceExpiry i) s = .next t ∧ t.standing = (s.setTrigger i y).standing ∧
      (x.pin = x.debounced ∨ x.mode = .off → t.trigger i = y ∧ t.endpoints = s.endpoints) ∧
      (x.pin = false → x.debounced = true → x.mode = .latched → t.trigger i = y) ∧
      (x.pin = false → x.debounced = true → x.mode = .held →
        (t.trigger i).owned = none ∧ (t.trigger i).pending = none ∧
        ∀ h c, x.owned = some h → s.call h = some c → c.state.live = true → EndedIn t h .inputReleased ∧
          EndedKeeping s t h c.part ∧ ∀ sw, c.type = .alarm → c.sweep = some sw → SweepAnswered s t h.slot sw .unknownCall (stoppedData h sw)) ∧
      (x.pin = true → x.debounced = false → x.mode ≠ .off → TriedStart (s.setTrigger i y) t i)

/-- Between two states the record of alarm slot `k` has left OPENING or ACTIVE, or has become FREE (08 R147). -/
def Released (s t : State) (k : Nat) : Prop :=
  60 ≤ k ∧ k < 64 ∧ ∃ c, (s.slot k).record = some c ∧
    ((t.slot k).record = none ∨ (s.slot k).gen ≠ (t.slot k).gen ∨
      c.state.live = true ∧ ∃ d, (t.slot k).record = some d ∧ d.state.live = false)

/-- The state with a pending mark, or none, at input `i`. -/
def withMark (s : State) (i : Nat) (m : Option Nat) : State := s.setTrigger i { s.trigger i with pending := m }

/-- The commands, beside a release of an input, by which an alarm slot's record leaves OPENING or ACTIVE or becomes FREE: its
collection, its expiry, a retirement, the two sweeps, the end of its last step, and a start that displaces it. -/
def freesAlarms : Instr → Bool
  | .collectEnd .. => true
  | .endExpiry .. => true
  | .retireCall .. => true
  | .sweepDelivery .. => true
  | .dropSweepRemoval .. => true
  | .alarmStepEnd .. => true
  | .alarmPhraseComplete .. => true
  | .startAlarm .. => true
  | _ => false

/-- With one start pending, at input `i`, a command that may release an alarm slot does what it does with none pending, to `u`. If it
releases none, the mark stays and nothing else happens; if it releases one, the start is tried once on what the command has left
(08 R147; log 14). -/
def ReleasesRetry : Prop :=
  ∀ (c : Instr) (s u : State) (i m : Nat), freesAlarms c = true → i < 4 → (s.trigger i).pending = some m →
    (∀ j, j < 4 → j ≠ i → (s.trigger j).pending = none) → s.callsOk → s.playersOk → s.sweepsHeld → s.listingsOk →
    exec c (withMark s i none) = .next u →
    ((∀ k, ¬ Released s u k) → exec c s = .next (withMark u i (some m))) ∧
    ((∃ k, Released s u k) → ∃ t, exec c s = .next t ∧ TriedStart (withMark u i (some m)) t i)

/-- At the end of an event that releases an alarm slot every pending input is tried once, in the order in which the marks were set,
each on what the earlier tries have left; at the end of any other event none is. What a try does is TriedStart (08 R147; log 14,
stamps log 16). -/
def RetriesInOrder : Prop :=
  (∀ s t : State,
    let u := t.settleCalls
    ((∀ k, ¬ Released s u k) → settle s t = u.refresh) ∧
    ((∃ k, Released s u k) → ∃ order : List Nat,
      order.Nodup ∧ (∀ i, i ∈ order ↔ i < 4 ∧ (u.trigger i).pending.isSome = true) ∧
      order.Pairwise (fun i j => (u.trigger i).pending.getD 0 ≤ (u.trigger j).pending.getD 0) ∧
      settle s t = ((order.foldl State.tryTrigger u).settleCalls).refresh)) ∧
  ∀ (s : State) (i : Nat), i < 4 → s.callsOk → s.playersOk → s.sweepsHeld → s.listingsOk → TriedStart s (s.tryTrigger i) i

/-- A release of a LATCHED input leaves its mark, and one of a HELD input clears it, whatever else is pending (08 R147). -/
def ReleasesKeepOrClear : Prop :=
  ∀ (s : State) (i n : Nat), i < 4 → (s.trigger i).timer = .running n → (s.trigger i).pin = false → (s.trigger i).debounced = true →
    ∃ t, exec (.debounceExpiry i) s = .next t ∧
      ((s.trigger i).mode = .latched → t.trigger i = { s.trigger i with debounced := false, timer := .stopped }) ∧
      ((s.trigger i).mode = .held → (t.trigger i).pending = none ∧ (t.trigger i).owned = none)

/-- Pending starts: when they are tried again, in which order, and what a release does to a mark (08 R147). -/
def PendingStartsAreRetried : Prop := ReleasesRetry ∧ RetriesInOrder ∧ ReleasesKeepOrClear

/-- The two ways an alarm starts, and the retry of the starts that found no slot (08 R143, R144, R147, R148). -/
def Obligations.AlarmsStart : Prop := StartsByRequest ∧ StartsByInput ∧ PendingStartsAreRetried

/-- The alarm in slot `k` is live, runs program `g` and stands at position `x`, in a state with no start pending. -/
def RunsStep (s : State) (k : Nat) (g : AlarmProgram) (x : StepPosition) : Prop :=
  60 ≤ k ∧ k < 64 ∧ (s.alarmSeq k).position = some x ∧ s.noPending = true ∧ s.callsOk ∧ s.playersOk ∧ s.listingsOk ∧
  ∃ r a, (s.slot k).record = some r ∧ r.part = .alarm a ∧ s.program a.program = some g

/-- What follows a step that is done: the next step; the next repeat from its first step; or the call's end with COMPLETE, its
position cleared, its program and flag kept, and its sweep answered UNKNOWN_CALL (08 R143, R150; layout log 18). The data of a stopped
DROP sweep's answer is the model's choice (log 28). -/
def StepFollows (s t : State) (k : Nat) (g : AlarmProgram) (x : StepPosition) : Prop :=
  let again := g.repeatCount = 0 ∨ x.repeatNo < g.repeatCount
  (x.index + 1 < g.steps.length → StepBegun s t k g x.repeatNo (x.index + 1)) ∧
  (g.steps.length ≤ x.index + 1 → again → StepBegun s t k g (min (x.repeatNo + 1) 65535) 0) ∧
  (g.steps.length ≤ x.index + 1 → ¬ again → EndedIn t (s.handleOf k) .complete ∧ (t.alarmSeq k).position = none ∧
    (∀ r, (s.slot k).record = some r → EndedKeeping s t (s.handleOf k) r.part) ∧
    ∀ r sw, (s.slot k).record = some r → r.sweep = some sw →
      SweepAnswered s t k sw .unknownCall (stoppedData (s.handleOf k) sw))

/-- The step that follows the one at `x`, where one follows (08 R150). -/
def NextIndex (g : AlarmProgram) (x : StepPosition) (idx : Nat) : Prop :=
  (x.index + 1 < g.steps.length ∧ idx = x.index + 1) ∨
  (g.steps.length ≤ x.index + 1 ∧ (g.repeatCount = 0 ∨ x.repeatNo < g.repeatCount) ∧ idx = 0)

/-- ALARM_STEP_END after the last frame of a TONE, SILENCE or SUBSTITUTED step, and ALARM_PHRASE_COMPLETE after a phrase's last
output: the player is freed, and the program goes on. With every player taken and a message waiting, the freed player goes to the
message that is first before the next step asks for one; it keeps it unless that step takes its player as the lowest message's.
WARBLE_SWITCH after 12,000 frames changes the frequency to the other and not the phase; before that, or outside a tone of a WARBLE
program, it does nothing (07 R137, R138; 08 R150, R152, R153; log 7, 15). What the fields of a position read that have no meaning in a
step (log 33), and the data of the answer of a DROP sweep that the alarm's end stops (log 28; layout log 18), are the model's
choices. -/
def Obligations.AlarmStepsFollow : Prop :=
  ∀ (s : State) (k : Nat) (g : AlarmProgram) (x : StepPosition), RunsStep s k g x →
    (x.kind ≠ .phrase → x.framesLeft = 0 →
      ∃ t, exec (.alarmStepEnd k) s = .next t ∧ StepFollows s t k g x ∧ t.standing = s.standing) ∧
    (∀ i ph, i < 4 → (s.player i).call = some (s.handleOf k) → (s.player i).phrase = some ph →
      (s.phrase ph).length ≤ (s.player i).offset →
      ∃ t, exec (.alarmPhraseComplete i) s = .next t ∧ StepFollows s t k g x ∧ t.standing = s.standing ∧
        ∀ h c m idx, (∀ j, j < 4 → (s.player j).call ≠ none) → FirstWaiting s h c m → NextIndex g x idx →
          ((∀ id, g.steps[idx]? ≠ some (.phrase id)) ∨
            ∃ h' d n l, HoldsPlayer s h' d n l ∧ (d.level < c.level ∨ (d.level = c.level ∧ c.openSeq < d.openSeq))) →
          t.player i = ⟨some h, m.phrases[m.index]?, m.offset, false, 0⟩) ∧
    ((x.kind = .tone ∨ x.kind = .substituted) → g.shape = .warble → x.toSwitch = 0 →
      exec (.warbleSwitch k) s = .next (s.setAlarmSeq k
        { s.alarmSeq k with
          position := some { x with onF2 := !x.onF2, toSwitch := 12000 }
          increment := toneIncrement (if x.onF2 then g.f1 else g.f2) })) ∧
    (x.kind = .silence ∨ x.kind = .phrase ∨ g.shape = .steady ∨ x.toSwitch ≠ 0 → exec (.warbleSwitch k) s = .next s)

/-- The tone generator: the increment of a frequency is floor(f * 2^32 / 48,000 + 1/2); the output for a phase p is t, the
triangle of its top 24 bits, times the tone level, divided by 32,768 and floored; in a frame of a TONE or SUBSTITUTED step the
phase goes on by the increment modulo 2^32, and in one of a SILENCE or PHRASE step it stands; a tone begins at phase 0 (08 R151). -/
def Obligations.ToneGeneratorIsTriangle : Prop :=
  (∀ f : Nat, f ≤ 4000 → (toneIncrement f).toNat = (2 * f * 4294967296 + 48000) / 96000) ∧
  (∀ (p : BitVec 32) (level : Nat),
    let u : Int := (p.toNat / 256 : Nat)
    let t := if u < 8388608 then 2 * u - 8388608 else 3 * 8388608 - 1 - 2 * u
    toneOutput p level = t * level / 32768 ∧ -8388608 ≤ t ∧ t ≤ 8388607) ∧
  (∀ (q : AlarmSeq) (x : StepPosition), q.position = some x →
    (x.kind = .tone ∨ x.kind = .substituted → q.advance.phase.toNat = (q.phase.toNat + q.increment.toNat) % 4294967296) ∧
    (x.kind = .silence ∨ x.kind = .phrase → q.advance.phase = q.phase) ∧ q.advance.increment = q.increment) ∧
  (∀ level : Nat, toneOutput 0 level = -8388608 * level / 32768) ∧
  (∀ (s : State) (h : Handle) (g : AlarmProgram) (rep idx : Nat), 60 ≤ h.slot → h.slot < 64 →
    ((∃ ms, g.steps[idx]? = some (.tone ms)) ∨ ∃ id, g.steps[idx]? = some (.phrase id) ∧ (s.phrase id).state ≠ .verified) →
    ((s.beginStep h g rep idx).alarmSeq h.slot).phase = 0 ∧
    ((s.beginStep h g rep idx).alarmSeq h.slot).increment = toneIncrement g.f1) ∧
  toneIncrement 800 = 71582788 ∧ toneIncrement 1000 = 89478485 ∧
  [toneOutput 0 32768, toneOutput 71582788 32768, toneOutput 143165576 32768] = [-8388608, -7829368, -7270128] ∧
  [toneOutput 0 16384, toneOutput 71582788 16384, toneOutput 143165576 16384] = [-4194304, -3914684, -3635064]

/-! ## Line supervision (09) -/

/-- A reading is classified by the first test that applies: PROTECT; below the band of the nominal code; above it; no signal with a
peak of 65,536 or more. The band is N - floor(N * t / 64) to N + floor(N * t / 64), both ends normal; without a nominal code the
PROTECT and SIGNAL_PRESENT tests stand alone; a lane that carried 0 cannot read AMP_SILENT (09 R158). -/
def Obligations.ReadingsAreClassified : Prop :=
  (∀ (nominal : Option Nat) (tol code : Nat) (protect signal : Bool) (peak : Nat),
    let low := ∃ n, nominal = some n ∧ code < n - n * tol / 64
    let high := ∃ n, nominal = some n ∧ n + n * tol / 64 < code
    let kind := classify nominal tol code protect signal peak
    (protect = true → kind = some .ampProtect) ∧
    (protect = false → low → kind = some .lineShort) ∧
    (protect = false → ¬ low → high → kind = some .lineOpen) ∧
    (protect = false → ¬ low → ¬ high → signal = false → 65536 ≤ peak → kind = some .ampSilent) ∧
    (protect = false → ¬ low → ¬ high → (signal = true ∨ peak < 65536) → kind = none)) ∧
  (∀ (code : Nat) (signal : Bool), classify (some 800) 16 code false signal 0 =
    if code < 600 then some .lineShort else if 1000 < code then some .lineOpen else none) ∧
  (∀ tol code, 0 < code → ∀ signal peak, classify (some 0) tol code false signal peak = some .lineOpen) ∧
  ∀ nominal tol code protect signal, classify nominal tol code protect signal 0 ≠ some .ampSilent

/-- The next state of a channel by the table of R161, a count that reaches its limit confirming or clearing (09 R161). -/
def tableNext (confirm recover : Nat) (st : ChannelState) (cls : Option FaultKind) : ChannelState :=
  match st, cls with
  | .normal, none => .normal
  | .normal, some k => if confirm ≤ 1 then .faulted k else .suspect k 1
  | .suspect _ _, none => .normal
  | .suspect k n, some k' =>
    if k = k' then (if confirm ≤ n + 1 then .faulted k else .suspect k (n + 1))
    else if confirm ≤ 1 then .faulted k' else .suspect k' 1
  | .faulted k, none => if recover ≤ 1 then .normal else .recovering k 1
  | .faulted _, some k' => .faulted k'
  | .recovering k n, none => if recover ≤ n + 1 then .normal else .recovering k (n + 1)
  | .recovering _ _, some k' => .faulted k'

/-- A spare that is FREE and not faulted, the lowest-numbered such (09 R171, R172). -/
def GivesSpare (s : State) (c : Nat) : Prop :=
  144 ≤ c ∧ c < 160 ∧ s.spareOf c = none ∧ s.channelFault c = none ∧
  ∀ d, 144 ≤ d → d < c → s.spareOf d ≠ none ∨ s.channelFault d ≠ none

/-- Zone `z` is SWITCHING toward channel `c` for 40 ms, from the channel in use it had, and the move is sent (09 R172, R174). -/
def MovesTo (s t : State) (z c : Nat) : Prop :=
  t.ep z = { s.ep z with service := .switching, movingTo := some c, switchTimer := .running 1920 } ∧
  t.relay = s.relay ++ [.move z c]

/-- Zone `z` asks the pool for a spare, for a fault with a place in the order of confirmations: it moves to the spare given; or with
none to give it is OUT_OF_SERVICE on its primary (log 30), sent there if it was not, and waits (09 R172, R173). -/
def AsksPool (s t : State) (z seq : Nat) : Prop :=
  (∀ c, GivesSpare s c → MovesTo s t z c ∧ t.spareOf c = some z ∧ t.spareWait = s.spareWait) ∧
  ((∀ c, ¬ GivesSpare s c) →
    t.ep z = { s.ep z with service := .outOfService, channel := z, movingTo := none, switchTimer := .stopped } ∧
    t.relay = (if (s.ep z).channel = z then s.relay else s.relay ++ [.move z z]) ∧ t.spareWait = s.spareWait ++ [⟨z, seq⟩])

/-- The head of the spare wait list: a zone whose admitted foreground is an ALARM before any other, and among equals the one whose
fault was confirmed first (09 R173). -/
def HeadsWait (s : State) (w : SpareWait) : Prop :=
  w ∈ s.spareWait ∧ ∀ v ∈ s.spareWait, v ≠ w →
    ((s.ep w.zone).fgAlarm = true ∧ (s.ep v.zone).fgAlarm = false) ∨
    ((s.ep w.zone).fgAlarm = (s.ep v.zone).fgAlarm ∧ w.seq < v.seq)

/-- What a complete frame of the Supervision Link does: the link timer restarts and a SCAN_TIMEOUT clears; a channel above 159 is
then discarded. A reading takes the channel's peak, serves the ports that learn the channel, whose code is stored first, and moves
the channel's state by its class (09 R157, R160, R161, R163). -/
def ReadingsCount : Prop :=
  ∀ (s : State) (c code : Nat) (protect signal : Bool), s.noPending = true →
    ∃ t, exec (.supervisionReading c code protect signal) s = .next t ∧ t.linkTimer = .running 144000 ∧
      t.activeFault .link .scanTimeout = none ∧
      (160 ≤ c → t.channels = s.channels ∧ t.peak = s.peak ∧ t.endpoints = s.endpoints) ∧
      (c < 160 →
        let nominal := if s.learns .system c = true ∨ s.learns .bridge c = true then some code else (s.channelRec c).nominal
        let cls := classify nominal s.supervision.tolerance code protect signal (s.peak.get c 0)
        let st := tableNext s.supervision.confirm s.supervision.recover (s.channelRec c).state cls
        t.peak = s.peak.set c 0 ∧ t.channels = s.channels.set c ⟨nominal, st, ⟨code, protect, signal⟩⟩ ∧
        (∀ p r n, (s.port p).inProgress = some ⟨r, .learning c n⟩ → AnsweredWith s t p r .ok (byte2 code)) ∧
        (((s.channelRec c).state = .normal ∨ ∃ k n, (s.channelRec c).state = .suspect k n) →
          (∀ k, st ≠ .faulted k) → t.endpoints = s.endpoints ∧ t.spares = s.spares ∧ t.relay = s.relay ∧
            ∀ src k, src ≠ .link → t.activeFault src k = s.activeFault src k))

/-- A reading that confirms a fault of a channel that has none: the fault is active with its kind's severity and that severity's
FALLBACK mark. With the mark, an IN_SERVICE zone on its primary asks the pool, and a zone in FALLBACK on a spare leaves it, FREE,
and asks again (09 R162, R172, R175). The stamp as the place in the order of confirmations is log 16, the primary as the channel
in use of a zone that gets no spare log 30. -/
def ReadingsConfirm : Prop :=
  ∀ (s : State) (c code : Nat) (protect signal : Bool) (k : FaultKind), s.noPending = true → c < 160 → s.channelFault c = none →
    s.learns .system c = false → s.learns .bridge c = false →
    ((s.channelRec c).state = .normal ∨ ∃ k n, (s.channelRec c).state = .suspect k n) →
    tableNext s.supervision.confirm s.supervision.recover (s.channelRec c).state
      (classify (s.channelRec c).nominal s.supervision.tolerance code protect signal (s.peak.get c 0)) = .faulted k →
    let mark := (s.actionsOf (s.severityOf k)).fallback
    ∃ t, exec (.supervisionReading c code protect signal) s = .next t ∧
      t.channelFault c = some ⟨.channel c, k, s.severityOf k, mark, s.seq⟩ ∧
      (c < 144 → mark = true → (s.ep c).service = .inService → AsksPool s t c s.seq) ∧
      (mark = false ∨ (c < 144 ∧ (s.ep c).service ≠ .inService) → t.endpoints = s.endpoints ∧ t.spares = s.spares) ∧
      ∀ z, 144 ≤ c → mark = true → s.spareOf c = some z → z < 144 →
        ((s.ep z).service = .fallback → t.spareOf c = none ∧ AsksPool s t z s.seq) ∧
        ((s.ep z).service ≠ .fallback → t.endpoints = s.endpoints ∧ t.spares = s.spares)

/-- A reading that clears a channel's one fault: it is active no more. A zone in FALLBACK starts its move to its primary and keeps
its spare; one OUT_OF_SERVICE is IN_SERVICE at once and waits no more; a FREE spare goes to the head of the wait list, if there is
one. A reading of another kind clears the fault and confirms the new one (09 R161, R162, R173, R174). -/
def ReadingsClear : Prop :=
  ∀ (s : State) (c code : Nat) (protect signal : Bool) (k : FaultKind), s.noPending = true → c < 160 →
    ((s.channelRec c).state = .faulted k ∨ ∃ n, (s.channelRec c).state = .recovering k n) →
    s.learns .system c = false → s.learns .bridge c = false → (∀ f ∈ s.activeFaults, f.source = .channel c → f.kind = k) →
    let cls := classify (s.channelRec c).nominal s.supervision.tolerance code protect signal (s.peak.get c 0)
    ∃ t, exec (.supervisionReading c code protect signal) s = .next t ∧
      (∀ k', cls = some k' → k' ≠ k → t.activeFault (.channel c) k = none ∧ (t.activeFault (.channel c) k').isSome = true) ∧
      (tableNext s.supervision.confirm s.supervision.recover (s.channelRec c).state cls = .normal →
        t.channelFault c = none ∧
        (c < 144 → (s.ep c).service = .fallback → MovesTo s t c c ∧ t.spares = s.spares) ∧
        (c < 144 → (s.ep c).service = .outOfService →
          t.ep c = { s.ep c with service := .inService, channel := c, movingTo := none, switchTimer := .stopped } ∧
          t.spareWait = s.spareWait.filter (·.zone ≠ c) ∧ t.relay = s.relay) ∧
        (144 ≤ c → s.spareOf c = none → s.spareWait = [] → t.spares = s.spares) ∧
        ∀ w, 144 ≤ c → s.spareOf c = none → HeadsWait s w → w.zone < 144 →
          t.spareOf c = some w.zone ∧ MovesTo s t w.zone c ∧ t.spareWait = s.spareWait.filter (·.zone ≠ w.zone))

/-- SUPERVISION_READING (09 R157, R160 to R163, R172 to R175). -/
def Obligations.ReadingsMoveChannels : Prop := ReadingsCount ∧ ReadingsConfirm ∧ ReadingsClear

/-- SWITCH_TIMER_EXPIRY of a zone whose timer runs. Arrived on its primary: IN_SERVICE there, its spare FREE and offered, and with
a fault of fallback yes it asks the pool after its spare, if it held one, has gone to the head of the wait list. Arrived on a
spare: back at once if its primary's fault has cleared; else on, if the spare fails it; else in FALLBACK (09 R172 to R176). The
timer expires whatever it has left (log 6), one that does not run does nothing (log 8), and a zone that gets no spare has its
primary as its channel in use (log 30). -/
def SwitchesEnd : Prop :=
  ∀ (s : State) (z : Nat),
    (144 ≤ z ∨ (s.ep z).switchTimer = .stopped → exec (.switchTimerExpiry z) s = .next s) ∧
    ∀ n c, z < 144 → (s.ep z).switchTimer = .running n → (s.ep z).movingTo = some c → s.noPending = true →
      (∀ w ∈ s.spareWait, w.zone ≠ z) →
      let landed := fun (v : ServiceState) (ch : Nat) =>
        { s.ep z with service := v, channel := ch, movingTo := none, switchTimer := .stopped }
      ∃ t, exec (.switchTimerExpiry z) s = .next t ∧
        (c = z → (∀ f, s.channelFault z = some f → f.fallback = false) → t.ep z = landed .inService z) ∧
        (∀ sp, c = z → 144 ≤ sp → sp < 160 → s.spareOf sp = some z →
          (∀ d, 144 ≤ d → d < 160 → s.spareOf d = some z → d = sp) →
          ((∀ f, s.channelFault z = some f → f.fallback = false) →
            (s.spareWait = [] ∨ s.channelFault sp ≠ none → t.spareOf sp = none) ∧
            ∀ w, s.channelFault sp = none → HeadsWait s w → w.zone < 144 → t.spareOf sp = some w.zone ∧ MovesTo s t w.zone sp) ∧
          ∀ f, s.channelFault z = some f → f.fallback = true →
            (s.spareWait = [] ∨ s.channelFault sp ≠ none →
              AsksPool ((s.setEp z (landed .inService z)).setSpare sp none) t z f.seq) ∧
            ∀ w, s.channelFault sp = none → HeadsWait s w → w.zone < 144 →
              let u := (s.setEp z (landed .inService z)).setEp w.zone
                { s.ep w.zone with service := .switching, movingTo := some sp, switchTimer := .running 1920 }
              t.ep w.zone = u.ep w.zone ∧ t.spareOf sp = some w.zone ∧
              AsksPool
                { u.setSpare sp (some w.zone) with
                  relay := s.relay ++ [.move w.zone sp], spareWait := s.spareWait.filter (·.zone ≠ w.zone) }
                t z f.seq) ∧
        (c = z → (∀ d, 144 ≤ d → d < 160 → s.spareOf d ≠ some z) →
          ((∀ f, s.channelFault z = some f → f.fallback = false) → t.spares = s.spares ∧ t.spareWait = s.spareWait) ∧
          ∀ f, s.channelFault z = some f → f.fallback = true → AsksPool (s.setEp z (landed .inService z)) t z f.seq) ∧
        (c ≠ z → s.channelFault z = none → MovesTo (s.setEp z (landed .fallback c)) t z z ∧ t.spares = s.spares) ∧
        (c ≠ z → s.channelFault z ≠ none → (∀ f, s.channelFault c = some f → f.fallback = false) →
          t.ep z = landed .fallback c ∧ t.spares = s.spares) ∧
        ∀ f, c ≠ z → 144 ≤ c → c < 160 → s.channelFault z ≠ none → s.channelFault c = some f → f.fallback = true →
          AsksPool ((s.setEp z (landed .fallback c)).setSpare c none) t z f.seq

/-- The other timers. The link timer's expiry confirms a SCAN_TIMEOUT at once and keeps every channel and zone; 100 ms after a
reset a port still ACQUIRING is LOST, with its PORT_LOSS; a LEARN_LINE whose time runs out is answered TIMEOUT (01 R17, R18; 09
R160, R163). A timer expires whatever it has left (log 6), and one that does not run does nothing (log 8). -/
def OtherTimersEnd : Prop :=
  ∀ (s : State) (i : Nat) (p : Port),
    (s.linkTimer = .stopped → exec .scanTimeoutExpiry s = .next s) ∧
    (∀ n, s.linkTimer = .running n → ∃ t, exec .scanTimeoutExpiry s = .next t ∧ t.linkTimer = .stopped ∧
      (t.activeFault .link .scanTimeout).isSome = true ∧ t.channels = s.channels ∧ t.endpoints = s.endpoints) ∧
    ((s.input i).framing ≠ .acquiring ∨ (s.input i).acquire = .stopped → exec (.acquireTimeout i) s = .next s) ∧
    (∀ n, i < 4 → (s.input i).framing = .acquiring → (s.input i).acquire = .running n → ∃ t, exec (.acquireTimeout i) s = .next t ∧
      t.inputs = s.inputs.set i { s.input i with framing := .lost, acquire := .stopped } ∧
      (t.activeFault (.inputPort i) .portLoss).isSome = true) ∧
    ((∀ r c n, (s.port p).inProgress ≠ some ⟨r, .learning c n⟩) → exec (.learnTimeout p) s = .next s) ∧
    ∀ r c n, (s.port p).inProgress = some ⟨r, .learning c n⟩ → exec (.learnTimeout p) s =
      .next (s.setPort p { s.port p with
        inProgress := none, answers := (s.port p).answers ++ [⟨r.code, r.tag, .timeout, []⟩] })

/-- The timers of supervision and of the input ports (01 R17; 09 R160, R163, R176). -/
def Obligations.SupervisorTimersEnd : Prop := SwitchesEnd ∧ OtherTimersEnd

/-- SET_SUPERVISION and LEARN_LINE. A request with no field, or a channel above 159, is refused BAD_PARAM; otherwise the settings
are stored clamped, the channel to forget has no nominal code, and the answer carries the settings. LEARN_LINE is refused
NOT_READY under an active SCAN_TIMEOUT, and else waits up to 5,000 ms for the channel's next reading (09 R159, R160). -/
def SettingsRequests : Prop :=
  ∀ (s : State) (p : Port) (tag ch : Nat) (tol con rec fgt : Option Nat), s.mayTake p .lineSupervisor = true →
    let c : Instr := .setSupervision p tag tol con rec fgt
    let d : Instr := .learnLine p tag ch
    let v : Supervision :=
      { tolerance := (tol.map fun n => max 1 (min 63 n)).getD s.supervision.tolerance,
        confirm := (con.map fun n => max 1 (min 15 n)).getD s.supervision.confirm,
        recover := (rec.map fun n => max 1 (min 15 n)).getD s.supervision.recover }
    ((tol = none ∧ con = none ∧ rec = none ∧ fgt = none) ∨ (∃ n, fgt = some n ∧ 159 < n) →
      exec c s = .next (s.replied p .lineSupervisor c .badParam [])) ∧
    (tol.isSome = true ∨ con.isSome = true ∨ rec.isSome = true ∨ fgt.isSome = true → fgt.all (· ≤ 159) = true →
      exec c s = .next (State.replied
        { s with
          supervision := v
          channels := match fgt with
            | some n => s.channels.set n { s.channelRec n with nominal := none }
            | none => s.channels }
        p .lineSupervisor c .ok (byte1 v.tolerance ++ byte1 v.confirm ++ byte1 v.recover))) ∧
    (159 < ch → exec d s = .next (s.replied p .lineSupervisor d .badParam [])) ∧
    (ch ≤ 159 → s.activeFault .link .scanTimeout ≠ none → exec d s = .next (s.replied p .lineSupervisor d .notReady [])) ∧
    (ch ≤ 159 → s.activeFault .link .scanTimeout = none →
      exec d s = .next (s.begun p .lineSupervisor d (.learning ch (.running 240000))))

/-- SET_SEVERITY and SET_ACTIONS store in their maps, and change no active fault and no entry; an unknown kind, a severity above
2, a mark that is neither 0 nor 1, or no mark is refused BAD_PARAM (09 R165; log 19). -/
def MapRequests : Prop :=
  ∀ (s : State) (p : Port) (tag kind sev : Nat) (f a : Option Nat), s.mayTake p .lineSupervisor = true →
    let c : Instr := .setSeverity p tag kind sev
    let d : Instr := .setActions p tag sev f a
    let x := s.actionsOf sev
    (6 < kind ∨ 2 < sev → exec c s = .next (s.replied p .lineSupervisor c .badParam [])) ∧
    (kind ≤ 6 → sev ≤ 2 → exec c s =
      .next (State.replied { s with severities := s.severities.set kind sev } p .lineSupervisor c .ok [])) ∧
    (2 < sev ∨ (f = none ∧ a = none) ∨ (∃ n, f = some n ∧ 1 < n) ∨ (∃ n, a = some n ∧ 1 < n) →
      exec d s = .next (s.replied p .lineSupervisor d .badParam [])) ∧
    (sev ≤ 2 → (f.isSome = true ∨ a.isSome = true) → f.all (· ≤ 1) = true → a.all (· ≤ 1) = true →
      exec d s = .next (State.replied
        { s with actions := (s.actions.set sev
            ⟨(f.map fun n => decide (n = 1)).getD x.fallback, (a.map fun n => decide (n = 1)).getD x.attention⟩) }
        p .lineSupervisor d .ok []))

/-- FAULT_NEXT answers the first entry not reported to its port and marks it reported, after clearing the port's marks for a
restart; with every entry reported it carries a none mark. FAULT_ACK of an entry sets its acknowledged mark and answers its state,
and a CLEARED one is retired; with no entry it is refused BAD_PARAM (09 R168, R169; layout log 18). That FAULT_NEXT refuses a restart
byte above 1, and that FAULT_ACK does not compare the number byte of the link as a source, are the model's (log 19). -/
def FaultListRequests : Prop :=
  ∀ (s : State) (p : Port) (tag restart src num kind : Nat), s.mayTake p .lineSupervisor = true →
    let c : Instr := .faultNext p tag restart
    let d : Instr := .faultAck p tag src num kind
    let cleared := if restart = 1 then s.faults.map (·.report p false) else s.faults
    let standingWith := fun (t : State) => t.standing = State.standing { s.serve p .lineSupervisor with faults := t.faults }
    (1 < restart → exec c s = .next (s.replied p .lineSupervisor c .badParam [])) ∧
    (restart ≤ 1 → (∀ x ∈ cleared, x.reported p = true) → ∃ t, exec c s = .next t ∧ t.faults = cleared ∧ standingWith t ∧
      AnsweredWith s t p c .ok (List.replicate 8 0 ++ byteFlag s.overflow)) ∧
    (restart ≤ 1 → ∀ before x after, cleared = before ++ x :: after → (∀ y ∈ before, y.reported p = true) → x.reported p = false →
      ∃ t, exec c s = .next t ∧ t.faults = before ++ x.report p true :: after ∧ standingWith t ∧
        AnsweredWith s t p c .ok (byte1 1 ++ byte1 x.source.code.1 ++ byte1 x.source.code.2 ++ byte1 x.kind.code ++
          byte1 x.severity ++ byteFlag (!x.active) ++ byteFlag x.acked ++ byte1 (before.length + 1) ++ byteFlag s.overflow)) ∧
    (((∀ so k, FaultSource.ofCode src num = some so → FaultKind.ofCode kind = some k → ∀ x ∈ s.faults, x.key ≠ (so, k))) →
      exec d s = .next (s.replied p .lineSupervisor d .badParam [])) ∧
    ∀ so k x, FaultSource.ofCode src num = some so → FaultKind.ofCode kind = some k → x ∈ s.faults → x.key = (so, k) →
      s.faultsOk → ∃ t, exec d s = .next t ∧ standingWith t ∧ AnsweredWith s t p d .ok (byteFlag (!x.active)) ∧
        (x.active = true → { x with acked := true } ∈ t.faults) ∧ (x.active = false → ∀ y ∈ t.faults, y.key ≠ (so, k))

/-- SET_PIN stores the mode, and for MANUAL the level, evaluates the output, whose latch is set by a change from released to
asserted, and answers the record; PIN_ACK clears the latch. An output above 2, an unknown mode or a severity above 2 is refused
BAD_PARAM (09 R170; log 19, 27). -/
def OutputRequests : Prop :=
  ∀ (s : State) (p : Port) (tag o mode sev level : Nat), s.mayTake p .lineSupervisor = true →
    let c : Instr := .setPin p tag o mode sev level
    let d : Instr := .pinAck p tag o
    let old := s.faultOut o
    let stored := fun (m : PinMode) (manual now : Bool) =>
      let x : FaultOut := ⟨m, manual, now, old.latch || (!old.level && now)⟩
      exec c s = .next ((s.setFaultOut o x).replied p .lineSupervisor c .ok x.data)
    (2 < o ∨ 2 < mode ∨ (mode = 1 ∧ 2 < sev) ∨ (mode = 2 ∧ 1 < level) →
      exec c s = .next (s.replied p .lineSupervisor c .badParam [])) ∧
    (o ≤ 2 → mode = 0 → stored .off old.manual false) ∧
    (o ≤ 2 → mode = 1 → sev ≤ 2 → stored (.severity sev) old.manual (s.activeFaults.any fun f => decide (sev ≤ f.severity))) ∧
    (o ≤ 2 → mode = 2 → level ≤ 1 → stored .manual (decide (level = 1)) (decide (level = 1))) ∧
    (2 < o → exec d s = .next (s.replied p .lineSupervisor d .badParam [])) ∧
    (o ≤ 2 → exec d s = .next ((s.setFaultOut o { old with latch := false }).replied p .lineSupervisor d .ok []))

/-- The requests of the Line Supervisor (09 R159, R160, R165, R169, R170). -/
def Obligations.SupervisorRequestsAreDecided : Prop := SettingsRequests ∧ MapRequests ∧ FaultListRequests ∧ OutputRequests

/-- The state right after power-on satisfies every invariant of this file, and no start of an alarm is pending in it. -/
def Obligations.ResetMeetsInvariants : Prop :=
  State.reset.placesOk ∧ State.reset.rangesOk ∧ State.reset.decksOk ∧ State.reset.settingsOk ∧ State.reset.verifyOk ∧
  State.reset.faultsOk ∧ State.reset.callsOk ∧ State.reset.listingsOk ∧ State.reset.sweepsHeld ∧ State.reset.playersOk ∧
  State.reset.answersOk ∧ State.reset.pinsFollow ∧ State.reset.noPending = true ∧ State.reset.memory.wf = true ∧
  State.reset.countsFollow ∧ State.reset.poolOk ∧ State.reset.messagesServed
end

