-- ==== Sys2Proof/Laws/Word.lean ====
section
/-! SUPPORT. What the operations on tables do to their records. -/

namespace Sys2Proof.Table

set_option Elab.async false

variable {α β : Type} {n : Nat}

/-- Two tables with the same records are one table. -/
theorem ext_cells {t u : Table α n} (h : t.cells = u.cells) : t = u := by
  cases t; cases u; cases h; rfl

theorem get_eq_getElem (t : Table α n) (i : Nat) (d : α) (h : i < n) : t.get i d = t.cells[i]'(by rw [t.size]; exact h) := by
  simp [get, List.getD_eq_getElem?_getD, t.size, h]

theorem get_of_le (t : Table α n) (i : Nat) (d : α) (h : n ≤ i) : t.get i d = d := by
  simp [get, List.getD_eq_getElem?_getD, t.size, h]

theorem get_mem (t : Table α n) (i : Nat) (d : α) (h : i < n) : t.get i d ∈ t.cells := by
  rw [get_eq_getElem t i d h]; exact List.getElem_mem _

/-- Every record is the record of some number. -/
theorem exists_get_of_mem {t : Table α n} {x : α} (d : α) (h : x ∈ t.cells) : ∃ i, i < n ∧ t.get i d = x := by
  obtain ⟨i, hi, rfl⟩ := List.getElem_of_mem h
  exact ⟨i, t.size ▸ hi, get_eq_getElem t i d (t.size ▸ hi)⟩

@[simp] theorem get_set_self (t : Table α n) (i : Nat) (x d : α) (h : i < n) : (t.set i x).get i d = x := by
  simp [get, set, List.getD_eq_getElem?_getD, t.size, h]

@[simp] theorem get_set_ne (t : Table α n) (i j : Nat) (x d : α) (h : i ≠ j) : (t.set i x).get j d = t.get j d := by
  simp [get, set, List.getD_eq_getElem?_getD, List.getElem?_set_ne h]

theorem get_set (t : Table α n) (i j : Nat) (x d : α) (h : i < n) : (t.set i x).get j d = if i = j then x else t.get j d := by
  by_cases e : i = j
  · subst e; simp [h]
  · simp [e]

/-- A record written outside the table is not written. -/
theorem set_of_le (t : Table α n) (i : Nat) (x : α) (h : n ≤ i) : t.set i x = t :=
  ext_cells (by simp [set, List.set_eq_of_length_le, t.size, h])

/-- Writing what a record holds changes nothing. -/
@[simp] theorem set_get_self (t : Table α n) (i : Nat) (d : α) : t.set i (t.get i d) = t := by
  by_cases h : i < n
  · apply ext_cells
    simp [set, get_eq_getElem t i d h]
  · exact set_of_le t i _ (by omega)

@[simp] theorem set_set (t : Table α n) (i : Nat) (x y : α) : (t.set i x).set i y = t.set i y :=
  ext_cells (by simp [set])

theorem set_comm (t : Table α n) (i j : Nat) (x y : α) (h : i ≠ j) : (t.set i x).set j y = (t.set j y).set i x :=
  ext_cells (List.set_comm _ _ h)

/-- The records of a table with one replaced are the new one or old ones. -/
theorem mem_set {t : Table α n} {i : Nat} {x y : α} (h : y ∈ (t.set i x).cells) : y = x ∨ y ∈ t.cells :=
  (List.mem_or_eq_of_mem_set h).symm

@[simp] theorem get_map (f : α → β) (t : Table α n) (i : Nat) (d : α) (e : β) (h : i < n) : (t.map f).get i e = f (t.get i d) := by
  rw [get_eq_getElem _ _ _ h, get_eq_getElem _ _ _ h]; simp [map]

@[simp] theorem get_mapIdx (f : Nat → α → β) (t : Table α n) (i : Nat) (d : α) (e : β) (h : i < n) :
    (t.mapIdx f).get i e = f i (t.get i d) := by
  rw [get_eq_getElem _ _ _ h, get_eq_getElem _ _ _ h]; simp [mapIdx]

@[simp] theorem get_build (f : Nat → α) (i : Nat) (d : α) (h : i < n) : (build n f).get i d = f i := by
  rw [get_eq_getElem _ _ _ h]; simp [build]

@[simp] theorem get_fill (x d : α) (i : Nat) (h : i < n) : (fill n x).get i d = x := by
  rw [get_eq_getElem _ _ _ h]; simp [fill]

@[simp] theorem mem_map {f : α → β} {t : Table α n} {y : β} : y ∈ (t.map f).cells ↔ ∃ x ∈ t.cells, f x = y := by
  simp [map]

/-- Two functions that agree on every record give one table. -/
theorem map_congr {f g : α → β} {t : Table α n} (h : ∀ x ∈ t.cells, f x = g x) : t.map f = t.map g :=
  ext_cells (List.map_congr_left h)

@[simp] theorem map_map {γ : Type} (f : α → β) (g : β → γ) (t : Table α n) : (t.map f).map g = t.map (g ∘ f) :=
  ext_cells (by simp [map])

@[simp] theorem map_id' (t : Table α n) : t.map (fun x => x) = t := ext_cells (by simp [map])

/-- A function that a replaced record does not move gives the table's own image. -/
theorem map_set (f : α → β) (t : Table α n) (i : Nat) (x : α) : (t.set i x).map f = (t.map f).set i (f x) :=
  ext_cells (by simp [map, set, List.map_set])

theorem map_set_same (f : α → β) (t : Table α n) (i : Nat) (x d : α) (h : f x = f (t.get i d)) : (t.set i x).map f = t.map f := by
  by_cases hi : i < n
  · rw [map_set, h, ← get_map f t i d (f d) hi, set_get_self]
  · rw [set_of_le t i x (by omega)]

end Sys2Proof.Table
end

