-- ==== Sys2Proof/Laws/Endpoint.lean ====
section
/-! SUPPORT. Every operation on an endpoint's places leaves its configuration and service fields as they are (01 R2, R7), and keeps
the structure of the places that it does not touch. -/

namespace Sys2Proof.Machine.Endpoint

set_option Elab.async false

/-- Writing places keeps the standing part. -/
@[simp] theorem setSlot_standing (c : ListClass) (v : Option Admitted) (ep : Endpoint) : (ep.setSlot c v).standing = ep.standing := by
  cases c <;> rfl
@[simp] theorem setWait_standing (c : ListClass) (v : List Listing) (ep : Endpoint) : (ep.setWait c v).standing = ep.standing := by
  cases c <;> rfl
@[simp] theorem setDep_standing (sl : DepSlot) (v : Option Departing) (ep : Endpoint) : (ep.setDep sl v).standing = ep.standing := by
  cases sl <;> rfl

@[simp] theorem slot_setSlot (c : ListClass) (v : Option Admitted) (ep : Endpoint) : (ep.setSlot c v).slot c = v := by cases c <;> rfl
@[simp] theorem wait_setWait (c : ListClass) (v : List Listing) (ep : Endpoint) : (ep.setWait c v).wait c = v := by cases c <;> rfl
@[simp] theorem wait_setSlot (c d : ListClass) (v : Option Admitted) (ep : Endpoint) : (ep.setSlot c v).wait d = ep.wait d := by
  cases c <;> cases d <;> rfl
@[simp] theorem slot_setWait (c d : ListClass) (v : List Listing) (ep : Endpoint) : (ep.setWait c v).slot d = ep.slot d := by
  cases c <;> cases d <;> rfl
@[simp] theorem dep_setDep (sl : DepSlot) (v : Option Departing) (ep : Endpoint) : (ep.setDep sl v).dep sl = v := by cases sl <;> rfl
@[simp] theorem slot_setDep (c : ListClass) (sl : DepSlot) (v : Option Departing) (ep : Endpoint) :
    (ep.setDep sl v).slot c = ep.slot c := by cases c <;> cases sl <;> rfl
@[simp] theorem wait_setDep (c : ListClass) (sl : DepSlot) (v : Option Departing) (ep : Endpoint) :
    (ep.setDep sl v).wait c = ep.wait c := by cases c <;> cases sl <;> rfl

@[simp] theorem refit_standing (x : EpCtx) (c : ListClass) (ep : Endpoint) : (ep.refit x c).standing = ep.standing := by
  unfold refit; split <;> simp
@[simp] theorem silenceUnderAlarm_standing (ep : Endpoint) : ep.silenceUnderAlarm.standing = ep.standing := by
  unfold silenceUnderAlarm; split <;> rfl
@[simp] theorem rechooseDuck_standing (x : EpCtx) (ep : Endpoint) : (ep.rechooseDuck x).standing = ep.standing := by
  simp [rechooseDuck]
@[simp] theorem refitAll_standing (x : EpCtx) (ep : Endpoint) : (ep.refitAll x).standing = ep.standing := by simp [refitAll]
@[simp] theorem unlink_standing (sl : DepSlot) (ep : Endpoint) : (ep.unlink sl).standing = ep.standing := rfl
@[simp] theorem freeDep_standing (sl : DepSlot) (ep : Endpoint) : (ep.freeDep sl).standing = ep.standing := by simp [freeDep]
@[simp] theorem cutDeparting_standing (ep : Endpoint) : ep.cutDeparting.standing = ep.standing := by simp [cutDeparting]
@[simp] theorem placeDeparting_standing (d : Departing) (ep : Endpoint) : (ep.placeDeparting d).standing = ep.standing := by
  have : (ep.placeDeparting d).standing =
      ((ep.freeDep ep.depTarget).setDep ep.depTarget (some { d with term := { d.term with target := 0 } })).standing := rfl
  simp [this]
@[simp] theorem depart_standing (a : Admitted) (ep : Endpoint) : (ep.depart a).1.standing = ep.standing := by
  unfold depart; split <;> simp
@[simp] theorem evalMarks_standing (x : EpCtx) (ep : Endpoint) : (ep.evalMarks x).1.standing = ep.standing := rfl
@[simp] theorem finish_standing (x : EpCtx) (r : Endpoint × List Report) : (finish x r).1.standing = r.1.standing := by simp [finish]
@[simp] theorem admit_standing (x : EpCtx) (c : ListClass) (l : Listing) (n : Nat) (ep : Endpoint) :
    (ep.giveSlot x c l n).standing = ep.standing := by
  unfold giveSlot; simp only [setSlot_standing]; split <;> simp
@[simp] theorem putWait_standing (x : EpCtx) (c : ListClass) (w : List Listing) (ep : Endpoint) :
    (ep.putWait x c w).1.standing = ep.standing := by simp [putWait]
@[simp] theorem arriveOver_standing (x : EpCtx) (c : ListClass) (l : Listing) (a : Admitted) (ep : Endpoint) :
    (ep.arriveOver x c l a).1.standing = ep.standing := by
  unfold arriveOver; split
  · simp
  · simp only [admit_standing, putWait_standing]; split <;> simp

/-- An arrival moves no configuration and no service field. -/
@[simp] theorem arrive_standing (x : EpCtx) (c : ListClass) (l : Listing) (ep : Endpoint) :
    (ep.arrive x c l).1.standing = ep.standing := by
  unfold arrive; rw [finish_standing]; split <;> simp

@[simp] theorem takeBack_standing (l : Listing) (ep : Endpoint) : (ep.takeBack l).1.standing = ep.standing := by
  unfold takeBack; split
  · rfl
  · split <;> simp
@[simp] theorem promote_standing (x : EpCtx) (c : ListClass) (ep : Endpoint) : (ep.promote x c).standing = ep.standing := by
  unfold promote; split <;> simp
@[simp] theorem vacate_standing (x : EpCtx) (c : ListClass) (k : Cause) (a : Admitted) (ep : Endpoint) :
    (ep.vacate x c k a).1.standing = ep.standing := by simp [vacate]

/-- A removal moves no configuration and no service field. -/
@[simp] theorem remove_standing (x : EpCtx) (c : ListClass) (h : Handle) (k : Cause) (ep : Endpoint) :
    (ep.remove x c h k).1.standing = ep.standing := by
  unfold remove; rw [finish_standing]; split
  · split <;> simp
  · simp

@[simp] theorem disableClass_standing (x : EpCtx) (c : ListClass) (ep : Endpoint) :
    (ep.disableClass x c).1.standing = ep.standing := by
  unfold disableClass; simp only []; split
  · split <;> simp
  · simp

/-- A disabling's removals move no configuration and no service field. -/
@[simp] theorem disable_standing (x : EpCtx) (ep : Endpoint) : (ep.disable x).1.standing = ep.standing := by simp [disable]

@[simp] theorem stepDep_standing (sl : DepSlot) (ep : Endpoint) : (ep.stepDep sl).standing = ep.standing := by
  unfold stepDep; split
  · rfl
  · split <;> simp
/-- A ramp step moves no configuration and no service field. -/
@[simp] theorem stepTerms_standing (ep : Endpoint) : ep.stepTerms.standing = ep.standing := by
  simp only [stepTerms, stepDep_standing]; rfl
@[simp] theorem updListing_standing (h : Handle) (f : Listing → Listing) (ep : Endpoint) :
    (ep.updListing h f).standing = ep.standing := rfl

/-- What the standing part holds. -/
theorem service_of_standing {a b : Endpoint} (h : a.standing = b.standing) :
    a.service = b.service ∧ a.channel = b.channel ∧ a.movingTo = b.movingTo ∧ a.switchTimer = b.switchTimer ∧
      a.enabled = b.enabled := by
  simp only [standing, Endpoint.mk.injEq] at h; tauto

end Sys2Proof.Machine.Endpoint
end

