-- ==== Sys2Proof/Laws/Memory.lean ====
section
/-! SUPPORT. The phrase memory keeps its canonical form under every operation, and a written byte is the byte read (07 R123). -/

namespace Sys2Proof.Machine.Memory

set_option Elab.async false

/-- The canonical form in one line: no entry equal to what an unlisted address reads, addresses strictly rising. -/
theorem wf_iff (m : Memory) :
    Memory.wf m = true ↔ (∀ c ∈ m, c.2 ≠ Config.unwrittenByte) ∧ m.Pairwise (fun c d => c.1 < d.1) := by
  induction m with
  | nil => simp [wf]
  | cons c m ih =>
    cases m with
    | nil => simp [wf]
    | cons d m =>
      have step : Memory.wf (c :: d :: m) =
          (c.2 != Config.unwrittenByte && decide (c.1 < d.1) && Memory.wf (d :: m)) := rfl
      rw [step, Bool.and_eq_true, Bool.and_eq_true, ih]
      constructor
      · rintro ⟨⟨h1, h2⟩, h3, h4⟩
        have h2 : c.1 < d.1 := by simpa using h2
        refine ⟨fun x hx => ?_, ?_⟩
        · rcases List.mem_cons.1 hx with rfl | hx
          · simpa using h1
          · exact h3 x hx
        · refine List.pairwise_cons.2 ⟨fun x hx => ?_, h4⟩
          rcases List.mem_cons.1 hx with rfl | hx
          · exact h2
          · exact Nat.lt_trans h2 ((List.pairwise_cons.1 h4).1 x hx)
      · rintro ⟨h1, h2⟩
        obtain ⟨h3, h4⟩ := List.pairwise_cons.1 h2
        exact ⟨⟨by simpa using h1 c (by simp), by simpa using h3 d (by simp)⟩, fun x hx => h1 x (List.mem_cons_of_mem _ hx), h4⟩

/-- Dropping an address keeps the form. -/
theorem wf_erase {m : Memory} (a : Nat) (h : Memory.wf m = true) : Memory.wf (m.erase a) = true := by
  rw [wf_iff] at h ⊢
  exact ⟨fun c hc => h.1 c (List.mem_filter.1 hc).1, h.2.filter _⟩

theorem mem_insert {c x : Host.Cell} {m : Memory} : x ∈ Memory.insert c m ↔ x = c ∨ x ∈ m := by
  induction m with
  | nil => simp [insert]
  | cons d m ih => by_cases h : c.1 < d.1 <;> simp [insert, h, ih, or_left_comm]

/-- Putting in a cell of another value at an address that is not listed keeps the form. -/
theorem wf_insert {c : Host.Cell} {m : Memory} (hc : c.2 ≠ Config.unwrittenByte) (ha : ∀ d ∈ m, d.1 ≠ c.1)
    (h : Memory.wf m = true) : Memory.wf (Memory.insert c m) = true := by
  rw [wf_iff] at h ⊢
  refine ⟨fun x hx => ?_, ?_⟩
  · rcases mem_insert.1 hx with rfl | hx
    · exact hc
    · exact h.1 x hx
  · induction m with
    | nil => simp [insert]
    | cons d m ih =>
      obtain ⟨h1, h2⟩ := h
      obtain ⟨h3, h4⟩ := List.pairwise_cons.1 h2
      by_cases hl : c.1 < d.1
      · simp only [insert, hl, if_true]
        refine List.pairwise_cons.2 ⟨fun x hx => ?_, h2⟩
        rcases List.mem_cons.1 hx with rfl | hx
        · exact hl
        · exact Nat.lt_trans hl (h3 x hx)
      · simp only [insert, hl, if_false]
        refine List.pairwise_cons.2 ⟨fun x hx => ?_,
          ih (fun x hx => ha x (List.mem_cons_of_mem _ hx)) ⟨fun x hx => h1 x (List.mem_cons_of_mem _ hx), h4⟩⟩
        rcases mem_insert.1 hx with rfl | hx
        · have := ha d (by simp); omega
        · exact h3 x hx

/-- A write keeps the canonical form. -/
theorem wf_write {m : Memory} (a : Nat) (b : Byte) (h : Memory.wf m = true) : Memory.wf (m.write a b) = true := by
  unfold write
  split
  · exact wf_erase a h
  · refine wf_insert ‹_› (fun d hd => ?_) (wf_erase a h)
    simpa using (List.mem_filter.1 hd).2

theorem read_insert_self (a : Nat) (b : Byte) {m : Memory} (h : ∀ d ∈ m, d.1 ≠ a) : (Memory.insert (a, b) m).read a = b := by
  induction m with
  | nil => simp [insert, read]
  | cons d m ih =>
    by_cases hl : a < d.1
    · simp [insert, hl, read]
    · simp only [insert, hl, if_false, read, h d (by simp)]
      exact ih fun x hx => h x (List.mem_cons_of_mem _ hx)

theorem read_insert_ne (a a' : Nat) (b : Byte) {m : Memory} (h : a ≠ a') : (Memory.insert (a, b) m).read a' = m.read a' := by
  induction m with
  | nil => simp [insert, read, h]
  | cons d m ih => by_cases hl : a < d.1 <;> simp [insert, hl, read, h, ih]

theorem read_erase_self (m : Memory) (a : Nat) : (m.erase a).read a = Config.unwrittenByte := by
  induction m with
  | nil => rfl
  | cons d m ih =>
    by_cases h : d.1 = a
    · simpa [erase, h] using ih
    · simp only [erase, List.filter_cons, ne_eq, h, not_false_eq_true, decide_true, if_true, read, if_false]
      exact ih

theorem read_erase_ne (m : Memory) {a a' : Nat} (h : a ≠ a') : (m.erase a).read a' = m.read a' := by
  induction m with
  | nil => rfl
  | cons d m ih =>
    by_cases hd : d.1 = a
    · simp only [erase, List.filter_cons, ne_eq, hd, not_true_eq_false, decide_false, read, h, if_false]
      exact ih
    · simp only [erase, List.filter_cons, ne_eq, hd, not_false_eq_true, decide_true, if_true, read]
      split
      · rfl
      · exact ih

/-- The byte written is the byte read, and every other address reads as before. -/
theorem read_write (m : Memory) (a a' : Nat) (b : Byte) : (m.write a b).read a' = if a = a' then b else m.read a' := by
  unfold write
  split
  · subst_vars
    by_cases h : a = a'
    · subst h; simp [read_erase_self]
    · simp [h, read_erase_ne m h]
  · by_cases h : a = a'
    · subst h
      simp [read_insert_self a b fun d (hd : d ∈ m.erase a) => by simpa using (List.mem_filter.1 hd).2]
    · rw [read_insert_ne _ _ _ h, read_erase_ne m h, if_neg h]

/-- The memory of the part after power-on lists nothing, in canonical form. -/
theorem wf_reset : Memory.wf State.reset.memory = true := rfl

end Sys2Proof.Machine.Memory
end

