-- ==== Sys2Proof/Laws/PerInstr.lean ====
section
/-! SUPPORT. The family RequestCode: one lemma for each command. -/

namespace Sys2Proof.Laws.RequestCode

set_option Elab.async false

/-- A command has a request code exactly if it is a request, that is, comes on a port; an event has no tag and no parameters; and the
tag of a well-formed command fits its byte (10 R178). -/
def Statement (i : Instr) : Prop :=
  (i.requestPort = none ↔ i.code = 0) ∧ (i.requestPort = none → i.tag = 0 ∧ i.params = []) ∧ (i.wellFormed = true → i.tag < 256)

theorem powerOn : Statement .powerOn :=
  ⟨by simp [Instr.requestPort, Instr.code], fun _ => ⟨rfl, rfl⟩, fun _ => by simp [Instr.tag]⟩
theorem resetInput : Statement .resetInput :=
  ⟨by simp [Instr.requestPort, Instr.code], fun _ => ⟨rfl, rfl⟩, fun _ => by simp [Instr.tag]⟩
theorem bridgeByteReceived (byte : Byte) (framingError : Bool) : Statement (.bridgeByteReceived byte framingError) :=
  ⟨by simp [Instr.requestPort, Instr.code], fun _ => ⟨rfl, rfl⟩, fun _ => by simp [Instr.tag]⟩
theorem bridgeInterbyteTimeout : Statement .bridgeInterbyteTimeout :=
  ⟨by simp [Instr.requestPort, Instr.code], fun _ => ⟨rfl, rfl⟩, fun _ => by simp [Instr.tag]⟩
theorem bridgeAnswerSent : Statement .bridgeAnswerSent :=
  ⟨by simp [Instr.requestPort, Instr.code], fun _ => ⟨rfl, rfl⟩, fun _ => by simp [Instr.tag]⟩
theorem systemPeriodEnd (inward : List Byte) (shown : Bool) : Statement (.systemPeriodEnd inward shown) :=
  ⟨by simp [Instr.requestPort, Instr.code], fun _ => ⟨rfl, rfl⟩, fun _ => by simp [Instr.tag]⟩
theorem status (p : Port) (tag : Nat) : Statement (.status p tag) :=
  ⟨by simp [Instr.requestPort, Instr.code], by simp [Instr.requestPort], fun h => by simp_all [Instr.wellFormed, fits1, Instr.tag]⟩
theorem setEndpoint (p : Port) (tag : Nat) (endpoint : Nat) (fireZone role enabled alarmTrim : Option Nat) : Statement (.setEndpoint p tag endpoint fireZone role enabled alarmTrim) :=
  ⟨by simp [Instr.requestPort, Instr.code], by simp [Instr.requestPort], fun h => by simp_all [Instr.wellFormed, fits1, Instr.tag]⟩
theorem setLocalTrim (p : Port) (tag : Nat) (endpoint trim : Nat) : Statement (.setLocalTrim p tag endpoint trim) :=
  ⟨by simp [Instr.requestPort, Instr.code], by simp [Instr.requestPort], fun h => by simp_all [Instr.wellFormed, fits1, Instr.tag]⟩
theorem setDeck (p : Port) (tag : Nat) (deck first count : Nat) : Statement (.setDeck p tag deck first count) :=
  ⟨by simp [Instr.requestPort, Instr.code], by simp [Instr.requestPort], fun h => by simp_all [Instr.wellFormed, fits1, Instr.tag]⟩
theorem queryEndpoint (p : Port) (tag : Nat) (endpoint : Nat) : Statement (.queryEndpoint p tag endpoint) :=
  ⟨by simp [Instr.requestPort, Instr.code], by simp [Instr.requestPort], fun h => by simp_all [Instr.wellFormed, fits1, Instr.tag]⟩
theorem setBank (p : Port) (tag : Nat) (bank : Nat) (targets : List Descriptor) (trim depth : Option Nat) : Statement (.setBank p tag bank targets trim depth) :=
  ⟨by simp [Instr.requestPort, Instr.code], by simp [Instr.requestPort], fun h => by simp_all [Instr.wellFormed, fits1, Instr.tag]⟩
theorem bankSwap (p : Port) (tag : Nat) : Statement (.bankSwap p tag) :=
  ⟨by simp [Instr.requestPort, Instr.code], by simp [Instr.requestPort], fun h => by simp_all [Instr.wellFormed, fits1, Instr.tag]⟩
theorem openCall (p : Port) (tag : Nat) (fields : OpenFields) : Statement (.openCall p tag fields) :=
  ⟨by simp [Instr.requestPort, Instr.code], by simp [Instr.requestPort], fun h => by simp_all [Instr.wellFormed, fits1, Instr.tag]⟩
theorem addTargets (p : Port) (tag : Nat) (call : Handle) (targets : List Descriptor) : Statement (.addTargets p tag call targets) :=
  ⟨by simp [Instr.requestPort, Instr.code], by simp [Instr.requestPort], fun h => by simp_all [Instr.wellFormed, fits1, Instr.tag]⟩
theorem dropTargets (p : Port) (tag : Nat) (call : Handle) (targets : List Descriptor) : Statement (.dropTargets p tag call targets) :=
  ⟨by simp [Instr.requestPort, Instr.code], by simp [Instr.requestPort], fun h => by simp_all [Instr.wellFormed, fits1, Instr.tag]⟩
theorem setCallGain (p : Port) (tag : Nat) (call : Handle) (action gain endpoint : Nat) : Statement (.setCallGain p tag call action gain endpoint) :=
  ⟨by simp [Instr.requestPort, Instr.code], by simp [Instr.requestPort], fun h => by simp_all [Instr.wellFormed, fits1, Instr.tag]⟩
theorem retireCall (p : Port) (tag : Nat) (call : Handle) : Statement (.retireCall p tag call) :=
  ⟨by simp [Instr.requestPort, Instr.code], by simp [Instr.requestPort], fun h => by simp_all [Instr.wellFormed, fits1, Instr.tag]⟩
theorem queryCall (p : Port) (tag : Nat) (call : Handle) : Statement (.queryCall p tag call) :=
  ⟨by simp [Instr.requestPort, Instr.code], by simp [Instr.requestPort], fun h => by simp_all [Instr.wellFormed, fits1, Instr.tag]⟩
theorem collectEnd (p : Port) (tag : Nat) (call : Handle) : Statement (.collectEnd p tag call) :=
  ⟨by simp [Instr.requestPort, Instr.code], by simp [Instr.requestPort], fun h => by simp_all [Instr.wellFormed, fits1, Instr.tag]⟩
theorem clearCalls (p : Port) (tag : Nat) : Statement (.clearCalls p tag) :=
  ⟨by simp [Instr.requestPort, Instr.code], by simp [Instr.requestPort], fun h => by simp_all [Instr.wellFormed, fits1, Instr.tag]⟩
theorem setParticipant (p : Port) (tag : Nat) (call : Handle) (station muted : Nat) : Statement (.setParticipant p tag call station muted) :=
  ⟨by simp [Instr.requestPort, Instr.code], by simp [Instr.requestPort], fun h => by simp_all [Instr.wellFormed, fits1, Instr.tag]⟩
theorem setMixMode (p : Port) (tag : Nat) (mode : Nat) : Statement (.setMixMode p tag mode) :=
  ⟨by simp [Instr.requestPort, Instr.code], by simp [Instr.requestPort], fun h => by simp_all [Instr.wellFormed, fits1, Instr.tag]⟩
theorem setHold (p : Port) (tag : Nat) (output : Nat) (delay : Option Nat) : Statement (.setHold p tag output delay) :=
  ⟨by simp [Instr.requestPort, Instr.code], by simp [Instr.requestPort], fun h => by simp_all [Instr.wellFormed, fits1, Instr.tag]⟩
theorem definePhrase (p : Port) (tag : Nat) (phrase start length check : Nat) : Statement (.definePhrase p tag phrase start length check) :=
  ⟨by simp [Instr.requestPort, Instr.code], by simp [Instr.requestPort], fun h => by simp_all [Instr.wellFormed, fits1, Instr.tag]⟩
theorem retirePhrase (p : Port) (tag : Nat) (phrase : Nat) : Statement (.retirePhrase p tag phrase) :=
  ⟨by simp [Instr.requestPort, Instr.code], by simp [Instr.requestPort], fun h => by simp_all [Instr.wellFormed, fits1, Instr.tag]⟩
theorem queryPhrase (p : Port) (tag : Nat) (phrase : Nat) : Statement (.queryPhrase p tag phrase) :=
  ⟨by simp [Instr.requestPort, Instr.code], by simp [Instr.requestPort], fun h => by simp_all [Instr.wellFormed, fits1, Instr.tag]⟩
theorem verifyPhrase (p : Port) (tag : Nat) (phrase : Nat) : Statement (.verifyPhrase p tag phrase) :=
  ⟨by simp [Instr.requestPort, Instr.code], by simp [Instr.requestPort], fun h => by simp_all [Instr.wellFormed, fits1, Instr.tag]⟩
theorem defineAlarm (p : Port) (tag : Nat) (program mark : Nat) (fields : Option AlarmFields) : Statement (.defineAlarm p tag program mark fields) :=
  ⟨by simp [Instr.requestPort, Instr.code], by simp [Instr.requestPort], fun h => by simp_all [Instr.wellFormed, fits1, Instr.tag]⟩
theorem queryAlarm (p : Port) (tag : Nat) (program : Nat) : Statement (.queryAlarm p tag program) :=
  ⟨by simp [Instr.requestPort, Instr.code], by simp [Instr.requestPort], fun h => by simp_all [Instr.wellFormed, fits1, Instr.tag]⟩
theorem startAlarm (p : Port) (tag : Nat) (program : Nat) : Statement (.startAlarm p tag program) :=
  ⟨by simp [Instr.requestPort, Instr.code], by simp [Instr.requestPort], fun h => by simp_all [Instr.wellFormed, fits1, Instr.tag]⟩
theorem setTrigger (p : Port) (tag : Nat) (input program mode : Nat) : Statement (.setTrigger p tag input program mode) :=
  ⟨by simp [Instr.requestPort, Instr.code], by simp [Instr.requestPort], fun h => by simp_all [Instr.wellFormed, fits1, Instr.tag]⟩
theorem setSupervision (p : Port) (tag : Nat) (tolerance confirm recover forget : Option Nat) : Statement (.setSupervision p tag tolerance confirm recover forget) :=
  ⟨by simp [Instr.requestPort, Instr.code], by simp [Instr.requestPort], fun h => by simp_all [Instr.wellFormed, fits1, Instr.tag]⟩
theorem learnLine (p : Port) (tag : Nat) (channel : Nat) : Statement (.learnLine p tag channel) :=
  ⟨by simp [Instr.requestPort, Instr.code], by simp [Instr.requestPort], fun h => by simp_all [Instr.wellFormed, fits1, Instr.tag]⟩
theorem queryChannel (p : Port) (tag : Nat) (channel : Nat) : Statement (.queryChannel p tag channel) :=
  ⟨by simp [Instr.requestPort, Instr.code], by simp [Instr.requestPort], fun h => by simp_all [Instr.wellFormed, fits1, Instr.tag]⟩
theorem setSeverity (p : Port) (tag : Nat) (kind severity : Nat) : Statement (.setSeverity p tag kind severity) :=
  ⟨by simp [Instr.requestPort, Instr.code], by simp [Instr.requestPort], fun h => by simp_all [Instr.wellFormed, fits1, Instr.tag]⟩
theorem setActions (p : Port) (tag : Nat) (severity : Nat) (fallback attention : Option Nat) : Statement (.setActions p tag severity fallback attention) :=
  ⟨by simp [Instr.requestPort, Instr.code], by simp [Instr.requestPort], fun h => by simp_all [Instr.wellFormed, fits1, Instr.tag]⟩
theorem faultNext (p : Port) (tag : Nat) (restart : Nat) : Statement (.faultNext p tag restart) :=
  ⟨by simp [Instr.requestPort, Instr.code], by simp [Instr.requestPort], fun h => by simp_all [Instr.wellFormed, fits1, Instr.tag]⟩
theorem faultAck (p : Port) (tag : Nat) (source number kind : Nat) : Statement (.faultAck p tag source number kind) :=
  ⟨by simp [Instr.requestPort, Instr.code], by simp [Instr.requestPort], fun h => by simp_all [Instr.wellFormed, fits1, Instr.tag]⟩
theorem setPin (p : Port) (tag : Nat) (output mode severity level : Nat) : Statement (.setPin p tag output mode severity level) :=
  ⟨by simp [Instr.requestPort, Instr.code], by simp [Instr.requestPort], fun h => by simp_all [Instr.wellFormed, fits1, Instr.tag]⟩
theorem pinAck (p : Port) (tag : Nat) (output : Nat) : Statement (.pinAck p tag output) :=
  ⟨by simp [Instr.requestPort, Instr.code], by simp [Instr.requestPort], fun h => by simp_all [Instr.wellFormed, fits1, Instr.tag]⟩
theorem sweepDelivery (slot : Nat) : Statement (.sweepDelivery slot) :=
  ⟨by simp [Instr.requestPort, Instr.code], fun _ => ⟨rfl, rfl⟩, fun _ => by simp [Instr.tag]⟩
theorem dropSweepRemoval (slot : Nat) : Statement (.dropSweepRemoval slot) :=
  ⟨by simp [Instr.requestPort, Instr.code], fun _ => ⟨rfl, rfl⟩, fun _ => by simp [Instr.tag]⟩
theorem audioFrameBoundary (input : FrameInput) : Statement (.audioFrameBoundary input) :=
  ⟨by simp [Instr.requestPort, Instr.code], fun _ => ⟨rfl, rfl⟩, fun _ => by simp [Instr.tag]⟩
theorem acquireTimeout (inputPort : Nat) : Statement (.acquireTimeout inputPort) :=
  ⟨by simp [Instr.requestPort, Instr.code], fun _ => ⟨rfl, rfl⟩, fun _ => by simp [Instr.tag]⟩
theorem messagePhraseEnd (player : Nat) : Statement (.messagePhraseEnd player) :=
  ⟨by simp [Instr.requestPort, Instr.code], fun _ => ⟨rfl, rfl⟩, fun _ => by simp [Instr.tag]⟩
theorem repeatGapEnd (player : Nat) : Statement (.repeatGapEnd player) :=
  ⟨by simp [Instr.requestPort, Instr.code], fun _ => ⟨rfl, rfl⟩, fun _ => by simp [Instr.tag]⟩
theorem alarmPhraseComplete (player : Nat) : Statement (.alarmPhraseComplete player) :=
  ⟨by simp [Instr.requestPort, Instr.code], fun _ => ⟨rfl, rfl⟩, fun _ => by simp [Instr.tag]⟩
theorem alarmStepEnd (slot : Nat) : Statement (.alarmStepEnd slot) :=
  ⟨by simp [Instr.requestPort, Instr.code], fun _ => ⟨rfl, rfl⟩, fun _ => by simp [Instr.tag]⟩
theorem warbleSwitch (slot : Nat) : Statement (.warbleSwitch slot) :=
  ⟨by simp [Instr.requestPort, Instr.code], fun _ => ⟨rfl, rfl⟩, fun _ => by simp [Instr.tag]⟩
theorem endExpiry (slot gen : Nat) : Statement (.endExpiry slot gen) :=
  ⟨by simp [Instr.requestPort, Instr.code], fun _ => ⟨rfl, rfl⟩, fun _ => by simp [Instr.tag]⟩
theorem holdReleaseTimeout (output : Nat) : Statement (.holdReleaseTimeout output) :=
  ⟨by simp [Instr.requestPort, Instr.code], fun _ => ⟨rfl, rfl⟩, fun _ => by simp [Instr.tag]⟩
theorem triggerPinChange (input : Nat) (active : Bool) : Statement (.triggerPinChange input active) :=
  ⟨by simp [Instr.requestPort, Instr.code], fun _ => ⟨rfl, rfl⟩, fun _ => by simp [Instr.tag]⟩
theorem debounceExpiry (input : Nat) : Statement (.debounceExpiry input) :=
  ⟨by simp [Instr.requestPort, Instr.code], fun _ => ⟨rfl, rfl⟩, fun _ => by simp [Instr.tag]⟩
theorem verifyBlockRead (samples : Nat) : Statement (.verifyBlockRead samples) :=
  ⟨by simp [Instr.requestPort, Instr.code], fun _ => ⟨rfl, rfl⟩, fun _ => by simp [Instr.tag]⟩
theorem supervisionReading (channel code : Nat) (protect signalPresent : Bool) : Statement (.supervisionReading channel code protect signalPresent) :=
  ⟨by simp [Instr.requestPort, Instr.code], fun _ => ⟨rfl, rfl⟩, fun _ => by simp [Instr.tag]⟩
theorem learnTimeout (p : Port) : Statement (.learnTimeout p) :=
  ⟨by simp [Instr.requestPort, Instr.code], fun _ => ⟨rfl, rfl⟩, fun _ => by simp [Instr.tag]⟩
theorem scanTimeoutExpiry : Statement .scanTimeoutExpiry :=
  ⟨by simp [Instr.requestPort, Instr.code], fun _ => ⟨rfl, rfl⟩, fun _ => by simp [Instr.tag]⟩
theorem switchTimerExpiry (zone : Nat) : Statement (.switchTimerExpiry zone) :=
  ⟨by simp [Instr.requestPort, Instr.code], fun _ => ⟨rfl, rfl⟩, fun _ => by simp [Instr.tag]⟩

end Sys2Proof.Laws.RequestCode
end

