-- ==== Sys2Proof/Laws/State.lean ====
section
/-! SUPPORT. What each update of one field of the state does to every field: one lemma for each field and update, by computation. -/

namespace Sys2Proof.Machine.State

set_option Elab.async false

variable (s : State)

/-! `setEp` writes `endpoints` alone. -/

@[simp] theorem setEp_system (e : Nat) (x : Endpoint) : (s.setEp e x).system = s.system := rfl
@[simp] theorem setEp_bridge (e : Nat) (x : Endpoint) : (s.setEp e x).bridge = s.bridge := rfl
@[simp] theorem setEp_marks (e : Nat) (x : Endpoint) : (s.setEp e x).marks = s.marks := rfl
@[simp] theorem setEp_endpoints (e : Nat) (x : Endpoint) : (s.setEp e x).endpoints = s.endpoints.set e x := rfl
@[simp] theorem setEp_decks (e : Nat) (x : Endpoint) : (s.setEp e x).decks = s.decks := rfl
@[simp] theorem setEp_calls (e : Nat) (x : Endpoint) : (s.setEp e x).calls = s.calls := rfl
@[simp] theorem setEp_expiries (e : Nat) (x : Endpoint) : (s.setEp e x).expiries = s.expiries := rfl
@[simp] theorem setEp_bank (e : Nat) (x : Endpoint) : (s.setEp e x).bank = s.bank := rfl
@[simp] theorem setEp_swapPending (e : Nat) (x : Endpoint) : (s.setEp e x).swapPending = s.swapPending := rfl
@[simp] theorem setEp_mixMode (e : Nat) (x : Endpoint) : (s.setEp e x).mixMode = s.mixMode := rfl
@[simp] theorem setEp_pendingMode (e : Nat) (x : Endpoint) : (s.setEp e x).pendingMode = s.pendingMode := rfl
@[simp] theorem setEp_clip (e : Nat) (x : Endpoint) : (s.setEp e x).clip = s.clip := rfl
@[simp] theorem setEp_peak (e : Nat) (x : Endpoint) : (s.setEp e x).peak = s.peak := rfl
@[simp] theorem setEp_mixed (e : Nat) (x : Endpoint) : (s.setEp e x).mixed = s.mixed := rfl
@[simp] theorem setEp_outputs (e : Nat) (x : Endpoint) : (s.setEp e x).outputs = s.outputs := rfl
@[simp] theorem setEp_inputs (e : Nat) (x : Endpoint) : (s.setEp e x).inputs = s.inputs := rfl
@[simp] theorem setEp_holds (e : Nat) (x : Endpoint) : (s.setEp e x).holds = s.holds := rfl
@[simp] theorem setEp_phrases (e : Nat) (x : Endpoint) : (s.setEp e x).phrases = s.phrases := rfl
@[simp] theorem setEp_verifyQueue (e : Nat) (x : Endpoint) : (s.setEp e x).verifyQueue = s.verifyQueue := rfl
@[simp] theorem setEp_verifySummed (e : Nat) (x : Endpoint) : (s.setEp e x).verifySummed = s.verifySummed := rfl
@[simp] theorem setEp_verifySum (e : Nat) (x : Endpoint) : (s.setEp e x).verifySum = s.verifySum := rfl
@[simp] theorem setEp_memory (e : Nat) (x : Endpoint) : (s.setEp e x).memory = s.memory := rfl
@[simp] theorem setEp_players (e : Nat) (x : Endpoint) : (s.setEp e x).players = s.players := rfl
@[simp] theorem setEp_programs (e : Nat) (x : Endpoint) : (s.setEp e x).programs = s.programs := rfl
@[simp] theorem setEp_triggers (e : Nat) (x : Endpoint) : (s.setEp e x).triggers = s.triggers := rfl
@[simp] theorem setEp_alarms (e : Nat) (x : Endpoint) : (s.setEp e x).alarms = s.alarms := rfl
@[simp] theorem setEp_degraded (e : Nat) (x : Endpoint) : (s.setEp e x).degraded = s.degraded := rfl
@[simp] theorem setEp_channels (e : Nat) (x : Endpoint) : (s.setEp e x).channels = s.channels := rfl
@[simp] theorem setEp_supervision (e : Nat) (x : Endpoint) : (s.setEp e x).supervision = s.supervision := rfl
@[simp] theorem setEp_severities (e : Nat) (x : Endpoint) : (s.setEp e x).severities = s.severities := rfl
@[simp] theorem setEp_actions (e : Nat) (x : Endpoint) : (s.setEp e x).actions = s.actions := rfl
@[simp] theorem setEp_linkTimer (e : Nat) (x : Endpoint) : (s.setEp e x).linkTimer = s.linkTimer := rfl
@[simp] theorem setEp_activeFaults (e : Nat) (x : Endpoint) : (s.setEp e x).activeFaults = s.activeFaults := rfl
@[simp] theorem setEp_faults (e : Nat) (x : Endpoint) : (s.setEp e x).faults = s.faults := rfl
@[simp] theorem setEp_overflow (e : Nat) (x : Endpoint) : (s.setEp e x).overflow = s.overflow := rfl
@[simp] theorem setEp_faultOuts (e : Nat) (x : Endpoint) : (s.setEp e x).faultOuts = s.faultOuts := rfl
@[simp] theorem setEp_spares (e : Nat) (x : Endpoint) : (s.setEp e x).spares = s.spares := rfl
@[simp] theorem setEp_spareWait (e : Nat) (x : Endpoint) : (s.setEp e x).spareWait = s.spareWait := rfl
@[simp] theorem setEp_relay (e : Nat) (x : Endpoint) : (s.setEp e x).relay = s.relay := rfl
@[simp] theorem setEp_seq (e : Nat) (x : Endpoint) : (s.setEp e x).seq = s.seq := rfl
@[simp] theorem setEp_pending (e : Nat) (x : Endpoint) : (s.setEp e x).pending = s.pending := rfl

/-! `setRecord` writes `calls` alone. -/

@[simp] theorem setRecord_system (i : Nat) (c : Option Call) : (s.setRecord i c).system = s.system := rfl
@[simp] theorem setRecord_bridge (i : Nat) (c : Option Call) : (s.setRecord i c).bridge = s.bridge := rfl
@[simp] theorem setRecord_marks (i : Nat) (c : Option Call) : (s.setRecord i c).marks = s.marks := rfl
@[simp] theorem setRecord_endpoints (i : Nat) (c : Option Call) : (s.setRecord i c).endpoints = s.endpoints := rfl
@[simp] theorem setRecord_decks (i : Nat) (c : Option Call) : (s.setRecord i c).decks = s.decks := rfl
@[simp] theorem setRecord_calls (i : Nat) (c : Option Call) : (s.setRecord i c).calls = s.calls.set i ⟨(s.slot i).gen, c⟩ := rfl
@[simp] theorem setRecord_expiries (i : Nat) (c : Option Call) : (s.setRecord i c).expiries = s.expiries := rfl
@[simp] theorem setRecord_bank (i : Nat) (c : Option Call) : (s.setRecord i c).bank = s.bank := rfl
@[simp] theorem setRecord_swapPending (i : Nat) (c : Option Call) : (s.setRecord i c).swapPending = s.swapPending := rfl
@[simp] theorem setRecord_mixMode (i : Nat) (c : Option Call) : (s.setRecord i c).mixMode = s.mixMode := rfl
@[simp] theorem setRecord_pendingMode (i : Nat) (c : Option Call) : (s.setRecord i c).pendingMode = s.pendingMode := rfl
@[simp] theorem setRecord_clip (i : Nat) (c : Option Call) : (s.setRecord i c).clip = s.clip := rfl
@[simp] theorem setRecord_peak (i : Nat) (c : Option Call) : (s.setRecord i c).peak = s.peak := rfl
@[simp] theorem setRecord_mixed (i : Nat) (c : Option Call) : (s.setRecord i c).mixed = s.mixed := rfl
@[simp] theorem setRecord_outputs (i : Nat) (c : Option Call) : (s.setRecord i c).outputs = s.outputs := rfl
@[simp] theorem setRecord_inputs (i : Nat) (c : Option Call) : (s.setRecord i c).inputs = s.inputs := rfl
@[simp] theorem setRecord_holds (i : Nat) (c : Option Call) : (s.setRecord i c).holds = s.holds := rfl
@[simp] theorem setRecord_phrases (i : Nat) (c : Option Call) : (s.setRecord i c).phrases = s.phrases := rfl
@[simp] theorem setRecord_verifyQueue (i : Nat) (c : Option Call) : (s.setRecord i c).verifyQueue = s.verifyQueue := rfl
@[simp] theorem setRecord_verifySummed (i : Nat) (c : Option Call) : (s.setRecord i c).verifySummed = s.verifySummed := rfl
@[simp] theorem setRecord_verifySum (i : Nat) (c : Option Call) : (s.setRecord i c).verifySum = s.verifySum := rfl
@[simp] theorem setRecord_memory (i : Nat) (c : Option Call) : (s.setRecord i c).memory = s.memory := rfl
@[simp] theorem setRecord_players (i : Nat) (c : Option Call) : (s.setRecord i c).players = s.players := rfl
@[simp] theorem setRecord_programs (i : Nat) (c : Option Call) : (s.setRecord i c).programs = s.programs := rfl
@[simp] theorem setRecord_triggers (i : Nat) (c : Option Call) : (s.setRecord i c).triggers = s.triggers := rfl
@[simp] theorem setRecord_alarms (i : Nat) (c : Option Call) : (s.setRecord i c).alarms = s.alarms := rfl
@[simp] theorem setRecord_degraded (i : Nat) (c : Option Call) : (s.setRecord i c).degraded = s.degraded := rfl
@[simp] theorem setRecord_channels (i : Nat) (c : Option Call) : (s.setRecord i c).channels = s.channels := rfl
@[simp] theorem setRecord_supervision (i : Nat) (c : Option Call) : (s.setRecord i c).supervision = s.supervision := rfl
@[simp] theorem setRecord_severities (i : Nat) (c : Option Call) : (s.setRecord i c).severities = s.severities := rfl
@[simp] theorem setRecord_actions (i : Nat) (c : Option Call) : (s.setRecord i c).actions = s.actions := rfl
@[simp] theorem setRecord_linkTimer (i : Nat) (c : Option Call) : (s.setRecord i c).linkTimer = s.linkTimer := rfl
@[simp] theorem setRecord_activeFaults (i : Nat) (c : Option Call) : (s.setRecord i c).activeFaults = s.activeFaults := rfl
@[simp] theorem setRecord_faults (i : Nat) (c : Option Call) : (s.setRecord i c).faults = s.faults := rfl
@[simp] theorem setRecord_overflow (i : Nat) (c : Option Call) : (s.setRecord i c).overflow = s.overflow := rfl
@[simp] theorem setRecord_faultOuts (i : Nat) (c : Option Call) : (s.setRecord i c).faultOuts = s.faultOuts := rfl
@[simp] theorem setRecord_spares (i : Nat) (c : Option Call) : (s.setRecord i c).spares = s.spares := rfl
@[simp] theorem setRecord_spareWait (i : Nat) (c : Option Call) : (s.setRecord i c).spareWait = s.spareWait := rfl
@[simp] theorem setRecord_relay (i : Nat) (c : Option Call) : (s.setRecord i c).relay = s.relay := rfl
@[simp] theorem setRecord_seq (i : Nat) (c : Option Call) : (s.setRecord i c).seq = s.seq := rfl
@[simp] theorem setRecord_pending (i : Nat) (c : Option Call) : (s.setRecord i c).pending = s.pending := rfl

/-! `setPlayer` writes `players` alone. -/

@[simp] theorem setPlayer_system (i : Nat) (x : Player) : (s.setPlayer i x).system = s.system := rfl
@[simp] theorem setPlayer_bridge (i : Nat) (x : Player) : (s.setPlayer i x).bridge = s.bridge := rfl
@[simp] theorem setPlayer_marks (i : Nat) (x : Player) : (s.setPlayer i x).marks = s.marks := rfl
@[simp] theorem setPlayer_endpoints (i : Nat) (x : Player) : (s.setPlayer i x).endpoints = s.endpoints := rfl
@[simp] theorem setPlayer_decks (i : Nat) (x : Player) : (s.setPlayer i x).decks = s.decks := rfl
@[simp] theorem setPlayer_calls (i : Nat) (x : Player) : (s.setPlayer i x).calls = s.calls := rfl
@[simp] theorem setPlayer_expiries (i : Nat) (x : Player) : (s.setPlayer i x).expiries = s.expiries := rfl
@[simp] theorem setPlayer_bank (i : Nat) (x : Player) : (s.setPlayer i x).bank = s.bank := rfl
@[simp] theorem setPlayer_swapPending (i : Nat) (x : Player) : (s.setPlayer i x).swapPending = s.swapPending := rfl
@[simp] theorem setPlayer_mixMode (i : Nat) (x : Player) : (s.setPlayer i x).mixMode = s.mixMode := rfl
@[simp] theorem setPlayer_pendingMode (i : Nat) (x : Player) : (s.setPlayer i x).pendingMode = s.pendingMode := rfl
@[simp] theorem setPlayer_clip (i : Nat) (x : Player) : (s.setPlayer i x).clip = s.clip := rfl
@[simp] theorem setPlayer_peak (i : Nat) (x : Player) : (s.setPlayer i x).peak = s.peak := rfl
@[simp] theorem setPlayer_mixed (i : Nat) (x : Player) : (s.setPlayer i x).mixed = s.mixed := rfl
@[simp] theorem setPlayer_outputs (i : Nat) (x : Player) : (s.setPlayer i x).outputs = s.outputs := rfl
@[simp] theorem setPlayer_inputs (i : Nat) (x : Player) : (s.setPlayer i x).inputs = s.inputs := rfl
@[simp] theorem setPlayer_holds (i : Nat) (x : Player) : (s.setPlayer i x).holds = s.holds := rfl
@[simp] theorem setPlayer_phrases (i : Nat) (x : Player) : (s.setPlayer i x).phrases = s.phrases := rfl
@[simp] theorem setPlayer_verifyQueue (i : Nat) (x : Player) : (s.setPlayer i x).verifyQueue = s.verifyQueue := rfl
@[simp] theorem setPlayer_verifySummed (i : Nat) (x : Player) : (s.setPlayer i x).verifySummed = s.verifySummed := rfl
@[simp] theorem setPlayer_verifySum (i : Nat) (x : Player) : (s.setPlayer i x).verifySum = s.verifySum := rfl
@[simp] theorem setPlayer_memory (i : Nat) (x : Player) : (s.setPlayer i x).memory = s.memory := rfl
@[simp] theorem setPlayer_players (i : Nat) (x : Player) : (s.setPlayer i x).players = s.players.set i x := rfl
@[simp] theorem setPlayer_programs (i : Nat) (x : Player) : (s.setPlayer i x).programs = s.programs := rfl
@[simp] theorem setPlayer_triggers (i : Nat) (x : Player) : (s.setPlayer i x).triggers = s.triggers := rfl
@[simp] theorem setPlayer_alarms (i : Nat) (x : Player) : (s.setPlayer i x).alarms = s.alarms := rfl
@[simp] theorem setPlayer_degraded (i : Nat) (x : Player) : (s.setPlayer i x).degraded = s.degraded := rfl
@[simp] theorem setPlayer_channels (i : Nat) (x : Player) : (s.setPlayer i x).channels = s.channels := rfl
@[simp] theorem setPlayer_supervision (i : Nat) (x : Player) : (s.setPlayer i x).supervision = s.supervision := rfl
@[simp] theorem setPlayer_severities (i : Nat) (x : Player) : (s.setPlayer i x).severities = s.severities := rfl
@[simp] theorem setPlayer_actions (i : Nat) (x : Player) : (s.setPlayer i x).actions = s.actions := rfl
@[simp] theorem setPlayer_linkTimer (i : Nat) (x : Player) : (s.setPlayer i x).linkTimer = s.linkTimer := rfl
@[simp] theorem setPlayer_activeFaults (i : Nat) (x : Player) : (s.setPlayer i x).activeFaults = s.activeFaults := rfl
@[simp] theorem setPlayer_faults (i : Nat) (x : Player) : (s.setPlayer i x).faults = s.faults := rfl
@[simp] theorem setPlayer_overflow (i : Nat) (x : Player) : (s.setPlayer i x).overflow = s.overflow := rfl
@[simp] theorem setPlayer_faultOuts (i : Nat) (x : Player) : (s.setPlayer i x).faultOuts = s.faultOuts := rfl
@[simp] theorem setPlayer_spares (i : Nat) (x : Player) : (s.setPlayer i x).spares = s.spares := rfl
@[simp] theorem setPlayer_spareWait (i : Nat) (x : Player) : (s.setPlayer i x).spareWait = s.spareWait := rfl
@[simp] theorem setPlayer_relay (i : Nat) (x : Player) : (s.setPlayer i x).relay = s.relay := rfl
@[simp] theorem setPlayer_seq (i : Nat) (x : Player) : (s.setPlayer i x).seq = s.seq := rfl
@[simp] theorem setPlayer_pending (i : Nat) (x : Player) : (s.setPlayer i x).pending = s.pending := rfl

/-! `setPhrase` writes `phrases` alone. -/

@[simp] theorem setPhrase_system (i : Nat) (x : Phrase) : (s.setPhrase i x).system = s.system := rfl
@[simp] theorem setPhrase_bridge (i : Nat) (x : Phrase) : (s.setPhrase i x).bridge = s.bridge := rfl
@[simp] theorem setPhrase_marks (i : Nat) (x : Phrase) : (s.setPhrase i x).marks = s.marks := rfl
@[simp] theorem setPhrase_endpoints (i : Nat) (x : Phrase) : (s.setPhrase i x).endpoints = s.endpoints := rfl
@[simp] theorem setPhrase_decks (i : Nat) (x : Phrase) : (s.setPhrase i x).decks = s.decks := rfl
@[simp] theorem setPhrase_calls (i : Nat) (x : Phrase) : (s.setPhrase i x).calls = s.calls := rfl
@[simp] theorem setPhrase_expiries (i : Nat) (x : Phrase) : (s.setPhrase i x).expiries = s.expiries := rfl
@[simp] theorem setPhrase_bank (i : Nat) (x : Phrase) : (s.setPhrase i x).bank = s.bank := rfl
@[simp] theorem setPhrase_swapPending (i : Nat) (x : Phrase) : (s.setPhrase i x).swapPending = s.swapPending := rfl
@[simp] theorem setPhrase_mixMode (i : Nat) (x : Phrase) : (s.setPhrase i x).mixMode = s.mixMode := rfl
@[simp] theorem setPhrase_pendingMode (i : Nat) (x : Phrase) : (s.setPhrase i x).pendingMode = s.pendingMode := rfl
@[simp] theorem setPhrase_clip (i : Nat) (x : Phrase) : (s.setPhrase i x).clip = s.clip := rfl
@[simp] theorem setPhrase_peak (i : Nat) (x : Phrase) : (s.setPhrase i x).peak = s.peak := rfl
@[simp] theorem setPhrase_mixed (i : Nat) (x : Phrase) : (s.setPhrase i x).mixed = s.mixed := rfl
@[simp] theorem setPhrase_outputs (i : Nat) (x : Phrase) : (s.setPhrase i x).outputs = s.outputs := rfl
@[simp] theorem setPhrase_inputs (i : Nat) (x : Phrase) : (s.setPhrase i x).inputs = s.inputs := rfl
@[simp] theorem setPhrase_holds (i : Nat) (x : Phrase) : (s.setPhrase i x).holds = s.holds := rfl
@[simp] theorem setPhrase_phrases (i : Nat) (x : Phrase) : (s.setPhrase i x).phrases = s.phrases.set i x := rfl
@[simp] theorem setPhrase_verifyQueue (i : Nat) (x : Phrase) : (s.setPhrase i x).verifyQueue = s.verifyQueue := rfl
@[simp] theorem setPhrase_verifySummed (i : Nat) (x : Phrase) : (s.setPhrase i x).verifySummed = s.verifySummed := rfl
@[simp] theorem setPhrase_verifySum (i : Nat) (x : Phrase) : (s.setPhrase i x).verifySum = s.verifySum := rfl
@[simp] theorem setPhrase_memory (i : Nat) (x : Phrase) : (s.setPhrase i x).memory = s.memory := rfl
@[simp] theorem setPhrase_players (i : Nat) (x : Phrase) : (s.setPhrase i x).players = s.players := rfl
@[simp] theorem setPhrase_programs (i : Nat) (x : Phrase) : (s.setPhrase i x).programs = s.programs := rfl
@[simp] theorem setPhrase_triggers (i : Nat) (x : Phrase) : (s.setPhrase i x).triggers = s.triggers := rfl
@[simp] theorem setPhrase_alarms (i : Nat) (x : Phrase) : (s.setPhrase i x).alarms = s.alarms := rfl
@[simp] theorem setPhrase_degraded (i : Nat) (x : Phrase) : (s.setPhrase i x).degraded = s.degraded := rfl
@[simp] theorem setPhrase_channels (i : Nat) (x : Phrase) : (s.setPhrase i x).channels = s.channels := rfl
@[simp] theorem setPhrase_supervision (i : Nat) (x : Phrase) : (s.setPhrase i x).supervision = s.supervision := rfl
@[simp] theorem setPhrase_severities (i : Nat) (x : Phrase) : (s.setPhrase i x).severities = s.severities := rfl
@[simp] theorem setPhrase_actions (i : Nat) (x : Phrase) : (s.setPhrase i x).actions = s.actions := rfl
@[simp] theorem setPhrase_linkTimer (i : Nat) (x : Phrase) : (s.setPhrase i x).linkTimer = s.linkTimer := rfl
@[simp] theorem setPhrase_activeFaults (i : Nat) (x : Phrase) : (s.setPhrase i x).activeFaults = s.activeFaults := rfl
@[simp] theorem setPhrase_faults (i : Nat) (x : Phrase) : (s.setPhrase i x).faults = s.faults := rfl
@[simp] theorem setPhrase_overflow (i : Nat) (x : Phrase) : (s.setPhrase i x).overflow = s.overflow := rfl
@[simp] theorem setPhrase_faultOuts (i : Nat) (x : Phrase) : (s.setPhrase i x).faultOuts = s.faultOuts := rfl
@[simp] theorem setPhrase_spares (i : Nat) (x : Phrase) : (s.setPhrase i x).spares = s.spares := rfl
@[simp] theorem setPhrase_spareWait (i : Nat) (x : Phrase) : (s.setPhrase i x).spareWait = s.spareWait := rfl
@[simp] theorem setPhrase_relay (i : Nat) (x : Phrase) : (s.setPhrase i x).relay = s.relay := rfl
@[simp] theorem setPhrase_seq (i : Nat) (x : Phrase) : (s.setPhrase i x).seq = s.seq := rfl
@[simp] theorem setPhrase_pending (i : Nat) (x : Phrase) : (s.setPhrase i x).pending = s.pending := rfl

/-! `setHold` writes `holds` alone. -/

@[simp] theorem setHold_system (o : Nat) (x : Hold) : (s.setHold o x).system = s.system := rfl
@[simp] theorem setHold_bridge (o : Nat) (x : Hold) : (s.setHold o x).bridge = s.bridge := rfl
@[simp] theorem setHold_marks (o : Nat) (x : Hold) : (s.setHold o x).marks = s.marks := rfl
@[simp] theorem setHold_endpoints (o : Nat) (x : Hold) : (s.setHold o x).endpoints = s.endpoints := rfl
@[simp] theorem setHold_decks (o : Nat) (x : Hold) : (s.setHold o x).decks = s.decks := rfl
@[simp] theorem setHold_calls (o : Nat) (x : Hold) : (s.setHold o x).calls = s.calls := rfl
@[simp] theorem setHold_expiries (o : Nat) (x : Hold) : (s.setHold o x).expiries = s.expiries := rfl
@[simp] theorem setHold_bank (o : Nat) (x : Hold) : (s.setHold o x).bank = s.bank := rfl
@[simp] theorem setHold_swapPending (o : Nat) (x : Hold) : (s.setHold o x).swapPending = s.swapPending := rfl
@[simp] theorem setHold_mixMode (o : Nat) (x : Hold) : (s.setHold o x).mixMode = s.mixMode := rfl
@[simp] theorem setHold_pendingMode (o : Nat) (x : Hold) : (s.setHold o x).pendingMode = s.pendingMode := rfl
@[simp] theorem setHold_clip (o : Nat) (x : Hold) : (s.setHold o x).clip = s.clip := rfl
@[simp] theorem setHold_peak (o : Nat) (x : Hold) : (s.setHold o x).peak = s.peak := rfl
@[simp] theorem setHold_mixed (o : Nat) (x : Hold) : (s.setHold o x).mixed = s.mixed := rfl
@[simp] theorem setHold_outputs (o : Nat) (x : Hold) : (s.setHold o x).outputs = s.outputs := rfl
@[simp] theorem setHold_inputs (o : Nat) (x : Hold) : (s.setHold o x).inputs = s.inputs := rfl
@[simp] theorem setHold_holds (o : Nat) (x : Hold) : (s.setHold o x).holds = s.holds.set o x := rfl
@[simp] theorem setHold_phrases (o : Nat) (x : Hold) : (s.setHold o x).phrases = s.phrases := rfl
@[simp] theorem setHold_verifyQueue (o : Nat) (x : Hold) : (s.setHold o x).verifyQueue = s.verifyQueue := rfl
@[simp] theorem setHold_verifySummed (o : Nat) (x : Hold) : (s.setHold o x).verifySummed = s.verifySummed := rfl
@[simp] theorem setHold_verifySum (o : Nat) (x : Hold) : (s.setHold o x).verifySum = s.verifySum := rfl
@[simp] theorem setHold_memory (o : Nat) (x : Hold) : (s.setHold o x).memory = s.memory := rfl
@[simp] theorem setHold_players (o : Nat) (x : Hold) : (s.setHold o x).players = s.players := rfl
@[simp] theorem setHold_programs (o : Nat) (x : Hold) : (s.setHold o x).programs = s.programs := rfl
@[simp] theorem setHold_triggers (o : Nat) (x : Hold) : (s.setHold o x).triggers = s.triggers := rfl
@[simp] theorem setHold_alarms (o : Nat) (x : Hold) : (s.setHold o x).alarms = s.alarms := rfl
@[simp] theorem setHold_degraded (o : Nat) (x : Hold) : (s.setHold o x).degraded = s.degraded := rfl
@[simp] theorem setHold_channels (o : Nat) (x : Hold) : (s.setHold o x).channels = s.channels := rfl
@[simp] theorem setHold_supervision (o : Nat) (x : Hold) : (s.setHold o x).supervision = s.supervision := rfl
@[simp] theorem setHold_severities (o : Nat) (x : Hold) : (s.setHold o x).severities = s.severities := rfl
@[simp] theorem setHold_actions (o : Nat) (x : Hold) : (s.setHold o x).actions = s.actions := rfl
@[simp] theorem setHold_linkTimer (o : Nat) (x : Hold) : (s.setHold o x).linkTimer = s.linkTimer := rfl
@[simp] theorem setHold_activeFaults (o : Nat) (x : Hold) : (s.setHold o x).activeFaults = s.activeFaults := rfl
@[simp] theorem setHold_faults (o : Nat) (x : Hold) : (s.setHold o x).faults = s.faults := rfl
@[simp] theorem setHold_overflow (o : Nat) (x : Hold) : (s.setHold o x).overflow = s.overflow := rfl
@[simp] theorem setHold_faultOuts (o : Nat) (x : Hold) : (s.setHold o x).faultOuts = s.faultOuts := rfl
@[simp] theorem setHold_spares (o : Nat) (x : Hold) : (s.setHold o x).spares = s.spares := rfl
@[simp] theorem setHold_spareWait (o : Nat) (x : Hold) : (s.setHold o x).spareWait = s.spareWait := rfl
@[simp] theorem setHold_relay (o : Nat) (x : Hold) : (s.setHold o x).relay = s.relay := rfl
@[simp] theorem setHold_seq (o : Nat) (x : Hold) : (s.setHold o x).seq = s.seq := rfl
@[simp] theorem setHold_pending (o : Nat) (x : Hold) : (s.setHold o x).pending = s.pending := rfl

/-! `setTrigger` writes `triggers` alone. -/

@[simp] theorem setTrigger_system (i : Nat) (x : Trigger) : (s.setTrigger i x).system = s.system := rfl
@[simp] theorem setTrigger_bridge (i : Nat) (x : Trigger) : (s.setTrigger i x).bridge = s.bridge := rfl
@[simp] theorem setTrigger_marks (i : Nat) (x : Trigger) : (s.setTrigger i x).marks = s.marks := rfl
@[simp] theorem setTrigger_endpoints (i : Nat) (x : Trigger) : (s.setTrigger i x).endpoints = s.endpoints := rfl
@[simp] theorem setTrigger_decks (i : Nat) (x : Trigger) : (s.setTrigger i x).decks = s.decks := rfl
@[simp] theorem setTrigger_calls (i : Nat) (x : Trigger) : (s.setTrigger i x).calls = s.calls := rfl
@[simp] theorem setTrigger_expiries (i : Nat) (x : Trigger) : (s.setTrigger i x).expiries = s.expiries := rfl
@[simp] theorem setTrigger_bank (i : Nat) (x : Trigger) : (s.setTrigger i x).bank = s.bank := rfl
@[simp] theorem setTrigger_swapPending (i : Nat) (x : Trigger) : (s.setTrigger i x).swapPending = s.swapPending := rfl
@[simp] theorem setTrigger_mixMode (i : Nat) (x : Trigger) : (s.setTrigger i x).mixMode = s.mixMode := rfl
@[simp] theorem setTrigger_pendingMode (i : Nat) (x : Trigger) : (s.setTrigger i x).pendingMode = s.pendingMode := rfl
@[simp] theorem setTrigger_clip (i : Nat) (x : Trigger) : (s.setTrigger i x).clip = s.clip := rfl
@[simp] theorem setTrigger_peak (i : Nat) (x : Trigger) : (s.setTrigger i x).peak = s.peak := rfl
@[simp] theorem setTrigger_mixed (i : Nat) (x : Trigger) : (s.setTrigger i x).mixed = s.mixed := rfl
@[simp] theorem setTrigger_outputs (i : Nat) (x : Trigger) : (s.setTrigger i x).outputs = s.outputs := rfl
@[simp] theorem setTrigger_inputs (i : Nat) (x : Trigger) : (s.setTrigger i x).inputs = s.inputs := rfl
@[simp] theorem setTrigger_holds (i : Nat) (x : Trigger) : (s.setTrigger i x).holds = s.holds := rfl
@[simp] theorem setTrigger_phrases (i : Nat) (x : Trigger) : (s.setTrigger i x).phrases = s.phrases := rfl
@[simp] theorem setTrigger_verifyQueue (i : Nat) (x : Trigger) : (s.setTrigger i x).verifyQueue = s.verifyQueue := rfl
@[simp] theorem setTrigger_verifySummed (i : Nat) (x : Trigger) : (s.setTrigger i x).verifySummed = s.verifySummed := rfl
@[simp] theorem setTrigger_verifySum (i : Nat) (x : Trigger) : (s.setTrigger i x).verifySum = s.verifySum := rfl
@[simp] theorem setTrigger_memory (i : Nat) (x : Trigger) : (s.setTrigger i x).memory = s.memory := rfl
@[simp] theorem setTrigger_players (i : Nat) (x : Trigger) : (s.setTrigger i x).players = s.players := rfl
@[simp] theorem setTrigger_programs (i : Nat) (x : Trigger) : (s.setTrigger i x).programs = s.programs := rfl
@[simp] theorem setTrigger_triggers (i : Nat) (x : Trigger) : (s.setTrigger i x).triggers = s.triggers.set i x := rfl
@[simp] theorem setTrigger_alarms (i : Nat) (x : Trigger) : (s.setTrigger i x).alarms = s.alarms := rfl
@[simp] theorem setTrigger_degraded (i : Nat) (x : Trigger) : (s.setTrigger i x).degraded = s.degraded := rfl
@[simp] theorem setTrigger_channels (i : Nat) (x : Trigger) : (s.setTrigger i x).channels = s.channels := rfl
@[simp] theorem setTrigger_supervision (i : Nat) (x : Trigger) : (s.setTrigger i x).supervision = s.supervision := rfl
@[simp] theorem setTrigger_severities (i : Nat) (x : Trigger) : (s.setTrigger i x).severities = s.severities := rfl
@[simp] theorem setTrigger_actions (i : Nat) (x : Trigger) : (s.setTrigger i x).actions = s.actions := rfl
@[simp] theorem setTrigger_linkTimer (i : Nat) (x : Trigger) : (s.setTrigger i x).linkTimer = s.linkTimer := rfl
@[simp] theorem setTrigger_activeFaults (i : Nat) (x : Trigger) : (s.setTrigger i x).activeFaults = s.activeFaults := rfl
@[simp] theorem setTrigger_faults (i : Nat) (x : Trigger) : (s.setTrigger i x).faults = s.faults := rfl
@[simp] theorem setTrigger_overflow (i : Nat) (x : Trigger) : (s.setTrigger i x).overflow = s.overflow := rfl
@[simp] theorem setTrigger_faultOuts (i : Nat) (x : Trigger) : (s.setTrigger i x).faultOuts = s.faultOuts := rfl
@[simp] theorem setTrigger_spares (i : Nat) (x : Trigger) : (s.setTrigger i x).spares = s.spares := rfl
@[simp] theorem setTrigger_spareWait (i : Nat) (x : Trigger) : (s.setTrigger i x).spareWait = s.spareWait := rfl
@[simp] theorem setTrigger_relay (i : Nat) (x : Trigger) : (s.setTrigger i x).relay = s.relay := rfl
@[simp] theorem setTrigger_seq (i : Nat) (x : Trigger) : (s.setTrigger i x).seq = s.seq := rfl
@[simp] theorem setTrigger_pending (i : Nat) (x : Trigger) : (s.setTrigger i x).pending = s.pending := rfl

/-! `setAlarmSeq` writes `alarms` alone. -/

@[simp] theorem setAlarmSeq_system (i : Nat) (x : AlarmSeq) : (s.setAlarmSeq i x).system = s.system := rfl
@[simp] theorem setAlarmSeq_bridge (i : Nat) (x : AlarmSeq) : (s.setAlarmSeq i x).bridge = s.bridge := rfl
@[simp] theorem setAlarmSeq_marks (i : Nat) (x : AlarmSeq) : (s.setAlarmSeq i x).marks = s.marks := rfl
@[simp] theorem setAlarmSeq_endpoints (i : Nat) (x : AlarmSeq) : (s.setAlarmSeq i x).endpoints = s.endpoints := rfl
@[simp] theorem setAlarmSeq_decks (i : Nat) (x : AlarmSeq) : (s.setAlarmSeq i x).decks = s.decks := rfl
@[simp] theorem setAlarmSeq_calls (i : Nat) (x : AlarmSeq) : (s.setAlarmSeq i x).calls = s.calls := rfl
@[simp] theorem setAlarmSeq_expiries (i : Nat) (x : AlarmSeq) : (s.setAlarmSeq i x).expiries = s.expiries := rfl
@[simp] theorem setAlarmSeq_bank (i : Nat) (x : AlarmSeq) : (s.setAlarmSeq i x).bank = s.bank := rfl
@[simp] theorem setAlarmSeq_swapPending (i : Nat) (x : AlarmSeq) : (s.setAlarmSeq i x).swapPending = s.swapPending := rfl
@[simp] theorem setAlarmSeq_mixMode (i : Nat) (x : AlarmSeq) : (s.setAlarmSeq i x).mixMode = s.mixMode := rfl
@[simp] theorem setAlarmSeq_pendingMode (i : Nat) (x : AlarmSeq) : (s.setAlarmSeq i x).pendingMode = s.pendingMode := rfl
@[simp] theorem setAlarmSeq_clip (i : Nat) (x : AlarmSeq) : (s.setAlarmSeq i x).clip = s.clip := rfl
@[simp] theorem setAlarmSeq_peak (i : Nat) (x : AlarmSeq) : (s.setAlarmSeq i x).peak = s.peak := rfl
@[simp] theorem setAlarmSeq_mixed (i : Nat) (x : AlarmSeq) : (s.setAlarmSeq i x).mixed = s.mixed := rfl
@[simp] theorem setAlarmSeq_outputs (i : Nat) (x : AlarmSeq) : (s.setAlarmSeq i x).outputs = s.outputs := rfl
@[simp] theorem setAlarmSeq_inputs (i : Nat) (x : AlarmSeq) : (s.setAlarmSeq i x).inputs = s.inputs := rfl
@[simp] theorem setAlarmSeq_holds (i : Nat) (x : AlarmSeq) : (s.setAlarmSeq i x).holds = s.holds := rfl
@[simp] theorem setAlarmSeq_phrases (i : Nat) (x : AlarmSeq) : (s.setAlarmSeq i x).phrases = s.phrases := rfl
@[simp] theorem setAlarmSeq_verifyQueue (i : Nat) (x : AlarmSeq) : (s.setAlarmSeq i x).verifyQueue = s.verifyQueue := rfl
@[simp] theorem setAlarmSeq_verifySummed (i : Nat) (x : AlarmSeq) : (s.setAlarmSeq i x).verifySummed = s.verifySummed := rfl
@[simp] theorem setAlarmSeq_verifySum (i : Nat) (x : AlarmSeq) : (s.setAlarmSeq i x).verifySum = s.verifySum := rfl
@[simp] theorem setAlarmSeq_memory (i : Nat) (x : AlarmSeq) : (s.setAlarmSeq i x).memory = s.memory := rfl
@[simp] theorem setAlarmSeq_players (i : Nat) (x : AlarmSeq) : (s.setAlarmSeq i x).players = s.players := rfl
@[simp] theorem setAlarmSeq_programs (i : Nat) (x : AlarmSeq) : (s.setAlarmSeq i x).programs = s.programs := rfl
@[simp] theorem setAlarmSeq_triggers (i : Nat) (x : AlarmSeq) : (s.setAlarmSeq i x).triggers = s.triggers := rfl
@[simp] theorem setAlarmSeq_alarms (i : Nat) (x : AlarmSeq) : (s.setAlarmSeq i x).alarms = s.alarms.set (i - 60) x := rfl
@[simp] theorem setAlarmSeq_degraded (i : Nat) (x : AlarmSeq) : (s.setAlarmSeq i x).degraded = s.degraded := rfl
@[simp] theorem setAlarmSeq_channels (i : Nat) (x : AlarmSeq) : (s.setAlarmSeq i x).channels = s.channels := rfl
@[simp] theorem setAlarmSeq_supervision (i : Nat) (x : AlarmSeq) : (s.setAlarmSeq i x).supervision = s.supervision := rfl
@[simp] theorem setAlarmSeq_severities (i : Nat) (x : AlarmSeq) : (s.setAlarmSeq i x).severities = s.severities := rfl
@[simp] theorem setAlarmSeq_actions (i : Nat) (x : AlarmSeq) : (s.setAlarmSeq i x).actions = s.actions := rfl
@[simp] theorem setAlarmSeq_linkTimer (i : Nat) (x : AlarmSeq) : (s.setAlarmSeq i x).linkTimer = s.linkTimer := rfl
@[simp] theorem setAlarmSeq_activeFaults (i : Nat) (x : AlarmSeq) : (s.setAlarmSeq i x).activeFaults = s.activeFaults := rfl
@[simp] theorem setAlarmSeq_faults (i : Nat) (x : AlarmSeq) : (s.setAlarmSeq i x).faults = s.faults := rfl
@[simp] theorem setAlarmSeq_overflow (i : Nat) (x : AlarmSeq) : (s.setAlarmSeq i x).overflow = s.overflow := rfl
@[simp] theorem setAlarmSeq_faultOuts (i : Nat) (x : AlarmSeq) : (s.setAlarmSeq i x).faultOuts = s.faultOuts := rfl
@[simp] theorem setAlarmSeq_spares (i : Nat) (x : AlarmSeq) : (s.setAlarmSeq i x).spares = s.spares := rfl
@[simp] theorem setAlarmSeq_spareWait (i : Nat) (x : AlarmSeq) : (s.setAlarmSeq i x).spareWait = s.spareWait := rfl
@[simp] theorem setAlarmSeq_relay (i : Nat) (x : AlarmSeq) : (s.setAlarmSeq i x).relay = s.relay := rfl
@[simp] theorem setAlarmSeq_seq (i : Nat) (x : AlarmSeq) : (s.setAlarmSeq i x).seq = s.seq := rfl
@[simp] theorem setAlarmSeq_pending (i : Nat) (x : AlarmSeq) : (s.setAlarmSeq i x).pending = s.pending := rfl

/-! `setChannel` writes `channels` alone. -/

@[simp] theorem setChannel_system (c : Nat) (x : Channel) : (s.setChannel c x).system = s.system := rfl
@[simp] theorem setChannel_bridge (c : Nat) (x : Channel) : (s.setChannel c x).bridge = s.bridge := rfl
@[simp] theorem setChannel_marks (c : Nat) (x : Channel) : (s.setChannel c x).marks = s.marks := rfl
@[simp] theorem setChannel_endpoints (c : Nat) (x : Channel) : (s.setChannel c x).endpoints = s.endpoints := rfl
@[simp] theorem setChannel_decks (c : Nat) (x : Channel) : (s.setChannel c x).decks = s.decks := rfl
@[simp] theorem setChannel_calls (c : Nat) (x : Channel) : (s.setChannel c x).calls = s.calls := rfl
@[simp] theorem setChannel_expiries (c : Nat) (x : Channel) : (s.setChannel c x).expiries = s.expiries := rfl
@[simp] theorem setChannel_bank (c : Nat) (x : Channel) : (s.setChannel c x).bank = s.bank := rfl
@[simp] theorem setChannel_swapPending (c : Nat) (x : Channel) : (s.setChannel c x).swapPending = s.swapPending := rfl
@[simp] theorem setChannel_mixMode (c : Nat) (x : Channel) : (s.setChannel c x).mixMode = s.mixMode := rfl
@[simp] theorem setChannel_pendingMode (c : Nat) (x : Channel) : (s.setChannel c x).pendingMode = s.pendingMode := rfl
@[simp] theorem setChannel_clip (c : Nat) (x : Channel) : (s.setChannel c x).clip = s.clip := rfl
@[simp] theorem setChannel_peak (c : Nat) (x : Channel) : (s.setChannel c x).peak = s.peak := rfl
@[simp] theorem setChannel_mixed (c : Nat) (x : Channel) : (s.setChannel c x).mixed = s.mixed := rfl
@[simp] theorem setChannel_outputs (c : Nat) (x : Channel) : (s.setChannel c x).outputs = s.outputs := rfl
@[simp] theorem setChannel_inputs (c : Nat) (x : Channel) : (s.setChannel c x).inputs = s.inputs := rfl
@[simp] theorem setChannel_holds (c : Nat) (x : Channel) : (s.setChannel c x).holds = s.holds := rfl
@[simp] theorem setChannel_phrases (c : Nat) (x : Channel) : (s.setChannel c x).phrases = s.phrases := rfl
@[simp] theorem setChannel_verifyQueue (c : Nat) (x : Channel) : (s.setChannel c x).verifyQueue = s.verifyQueue := rfl
@[simp] theorem setChannel_verifySummed (c : Nat) (x : Channel) : (s.setChannel c x).verifySummed = s.verifySummed := rfl
@[simp] theorem setChannel_verifySum (c : Nat) (x : Channel) : (s.setChannel c x).verifySum = s.verifySum := rfl
@[simp] theorem setChannel_memory (c : Nat) (x : Channel) : (s.setChannel c x).memory = s.memory := rfl
@[simp] theorem setChannel_players (c : Nat) (x : Channel) : (s.setChannel c x).players = s.players := rfl
@[simp] theorem setChannel_programs (c : Nat) (x : Channel) : (s.setChannel c x).programs = s.programs := rfl
@[simp] theorem setChannel_triggers (c : Nat) (x : Channel) : (s.setChannel c x).triggers = s.triggers := rfl
@[simp] theorem setChannel_alarms (c : Nat) (x : Channel) : (s.setChannel c x).alarms = s.alarms := rfl
@[simp] theorem setChannel_degraded (c : Nat) (x : Channel) : (s.setChannel c x).degraded = s.degraded := rfl
@[simp] theorem setChannel_channels (c : Nat) (x : Channel) : (s.setChannel c x).channels = s.channels.set c x := rfl
@[simp] theorem setChannel_supervision (c : Nat) (x : Channel) : (s.setChannel c x).supervision = s.supervision := rfl
@[simp] theorem setChannel_severities (c : Nat) (x : Channel) : (s.setChannel c x).severities = s.severities := rfl
@[simp] theorem setChannel_actions (c : Nat) (x : Channel) : (s.setChannel c x).actions = s.actions := rfl
@[simp] theorem setChannel_linkTimer (c : Nat) (x : Channel) : (s.setChannel c x).linkTimer = s.linkTimer := rfl
@[simp] theorem setChannel_activeFaults (c : Nat) (x : Channel) : (s.setChannel c x).activeFaults = s.activeFaults := rfl
@[simp] theorem setChannel_faults (c : Nat) (x : Channel) : (s.setChannel c x).faults = s.faults := rfl
@[simp] theorem setChannel_overflow (c : Nat) (x : Channel) : (s.setChannel c x).overflow = s.overflow := rfl
@[simp] theorem setChannel_faultOuts (c : Nat) (x : Channel) : (s.setChannel c x).faultOuts = s.faultOuts := rfl
@[simp] theorem setChannel_spares (c : Nat) (x : Channel) : (s.setChannel c x).spares = s.spares := rfl
@[simp] theorem setChannel_spareWait (c : Nat) (x : Channel) : (s.setChannel c x).spareWait = s.spareWait := rfl
@[simp] theorem setChannel_relay (c : Nat) (x : Channel) : (s.setChannel c x).relay = s.relay := rfl
@[simp] theorem setChannel_seq (c : Nat) (x : Channel) : (s.setChannel c x).seq = s.seq := rfl
@[simp] theorem setChannel_pending (c : Nat) (x : Channel) : (s.setChannel c x).pending = s.pending := rfl

/-! `setFaultOut` writes `faultOuts` alone. -/

@[simp] theorem setFaultOut_system (o : Nat) (x : FaultOut) : (s.setFaultOut o x).system = s.system := rfl
@[simp] theorem setFaultOut_bridge (o : Nat) (x : FaultOut) : (s.setFaultOut o x).bridge = s.bridge := rfl
@[simp] theorem setFaultOut_marks (o : Nat) (x : FaultOut) : (s.setFaultOut o x).marks = s.marks := rfl
@[simp] theorem setFaultOut_endpoints (o : Nat) (x : FaultOut) : (s.setFaultOut o x).endpoints = s.endpoints := rfl
@[simp] theorem setFaultOut_decks (o : Nat) (x : FaultOut) : (s.setFaultOut o x).decks = s.decks := rfl
@[simp] theorem setFaultOut_calls (o : Nat) (x : FaultOut) : (s.setFaultOut o x).calls = s.calls := rfl
@[simp] theorem setFaultOut_expiries (o : Nat) (x : FaultOut) : (s.setFaultOut o x).expiries = s.expiries := rfl
@[simp] theorem setFaultOut_bank (o : Nat) (x : FaultOut) : (s.setFaultOut o x).bank = s.bank := rfl
@[simp] theorem setFaultOut_swapPending (o : Nat) (x : FaultOut) : (s.setFaultOut o x).swapPending = s.swapPending := rfl
@[simp] theorem setFaultOut_mixMode (o : Nat) (x : FaultOut) : (s.setFaultOut o x).mixMode = s.mixMode := rfl
@[simp] theorem setFaultOut_pendingMode (o : Nat) (x : FaultOut) : (s.setFaultOut o x).pendingMode = s.pendingMode := rfl
@[simp] theorem setFaultOut_clip (o : Nat) (x : FaultOut) : (s.setFaultOut o x).clip = s.clip := rfl
@[simp] theorem setFaultOut_peak (o : Nat) (x : FaultOut) : (s.setFaultOut o x).peak = s.peak := rfl
@[simp] theorem setFaultOut_mixed (o : Nat) (x : FaultOut) : (s.setFaultOut o x).mixed = s.mixed := rfl
@[simp] theorem setFaultOut_outputs (o : Nat) (x : FaultOut) : (s.setFaultOut o x).outputs = s.outputs := rfl
@[simp] theorem setFaultOut_inputs (o : Nat) (x : FaultOut) : (s.setFaultOut o x).inputs = s.inputs := rfl
@[simp] theorem setFaultOut_holds (o : Nat) (x : FaultOut) : (s.setFaultOut o x).holds = s.holds := rfl
@[simp] theorem setFaultOut_phrases (o : Nat) (x : FaultOut) : (s.setFaultOut o x).phrases = s.phrases := rfl
@[simp] theorem setFaultOut_verifyQueue (o : Nat) (x : FaultOut) : (s.setFaultOut o x).verifyQueue = s.verifyQueue := rfl
@[simp] theorem setFaultOut_verifySummed (o : Nat) (x : FaultOut) : (s.setFaultOut o x).verifySummed = s.verifySummed := rfl
@[simp] theorem setFaultOut_verifySum (o : Nat) (x : FaultOut) : (s.setFaultOut o x).verifySum = s.verifySum := rfl
@[simp] theorem setFaultOut_memory (o : Nat) (x : FaultOut) : (s.setFaultOut o x).memory = s.memory := rfl
@[simp] theorem setFaultOut_players (o : Nat) (x : FaultOut) : (s.setFaultOut o x).players = s.players := rfl
@[simp] theorem setFaultOut_programs (o : Nat) (x : FaultOut) : (s.setFaultOut o x).programs = s.programs := rfl
@[simp] theorem setFaultOut_triggers (o : Nat) (x : FaultOut) : (s.setFaultOut o x).triggers = s.triggers := rfl
@[simp] theorem setFaultOut_alarms (o : Nat) (x : FaultOut) : (s.setFaultOut o x).alarms = s.alarms := rfl
@[simp] theorem setFaultOut_degraded (o : Nat) (x : FaultOut) : (s.setFaultOut o x).degraded = s.degraded := rfl
@[simp] theorem setFaultOut_channels (o : Nat) (x : FaultOut) : (s.setFaultOut o x).channels = s.channels := rfl
@[simp] theorem setFaultOut_supervision (o : Nat) (x : FaultOut) : (s.setFaultOut o x).supervision = s.supervision := rfl
@[simp] theorem setFaultOut_severities (o : Nat) (x : FaultOut) : (s.setFaultOut o x).severities = s.severities := rfl
@[simp] theorem setFaultOut_actions (o : Nat) (x : FaultOut) : (s.setFaultOut o x).actions = s.actions := rfl
@[simp] theorem setFaultOut_linkTimer (o : Nat) (x : FaultOut) : (s.setFaultOut o x).linkTimer = s.linkTimer := rfl
@[simp] theorem setFaultOut_activeFaults (o : Nat) (x : FaultOut) : (s.setFaultOut o x).activeFaults = s.activeFaults := rfl
@[simp] theorem setFaultOut_faults (o : Nat) (x : FaultOut) : (s.setFaultOut o x).faults = s.faults := rfl
@[simp] theorem setFaultOut_overflow (o : Nat) (x : FaultOut) : (s.setFaultOut o x).overflow = s.overflow := rfl
@[simp] theorem setFaultOut_faultOuts (o : Nat) (x : FaultOut) : (s.setFaultOut o x).faultOuts = s.faultOuts.set o x := rfl
@[simp] theorem setFaultOut_spares (o : Nat) (x : FaultOut) : (s.setFaultOut o x).spares = s.spares := rfl
@[simp] theorem setFaultOut_spareWait (o : Nat) (x : FaultOut) : (s.setFaultOut o x).spareWait = s.spareWait := rfl
@[simp] theorem setFaultOut_relay (o : Nat) (x : FaultOut) : (s.setFaultOut o x).relay = s.relay := rfl
@[simp] theorem setFaultOut_seq (o : Nat) (x : FaultOut) : (s.setFaultOut o x).seq = s.seq := rfl
@[simp] theorem setFaultOut_pending (o : Nat) (x : FaultOut) : (s.setFaultOut o x).pending = s.pending := rfl

/-! `setInput` writes `inputs` alone. -/

@[simp] theorem setInput_system (i : Nat) (x : InPort) : (s.setInput i x).system = s.system := rfl
@[simp] theorem setInput_bridge (i : Nat) (x : InPort) : (s.setInput i x).bridge = s.bridge := rfl
@[simp] theorem setInput_marks (i : Nat) (x : InPort) : (s.setInput i x).marks = s.marks := rfl
@[simp] theorem setInput_endpoints (i : Nat) (x : InPort) : (s.setInput i x).endpoints = s.endpoints := rfl
@[simp] theorem setInput_decks (i : Nat) (x : InPort) : (s.setInput i x).decks = s.decks := rfl
@[simp] theorem setInput_calls (i : Nat) (x : InPort) : (s.setInput i x).calls = s.calls := rfl
@[simp] theorem setInput_expiries (i : Nat) (x : InPort) : (s.setInput i x).expiries = s.expiries := rfl
@[simp] theorem setInput_bank (i : Nat) (x : InPort) : (s.setInput i x).bank = s.bank := rfl
@[simp] theorem setInput_swapPending (i : Nat) (x : InPort) : (s.setInput i x).swapPending = s.swapPending := rfl
@[simp] theorem setInput_mixMode (i : Nat) (x : InPort) : (s.setInput i x).mixMode = s.mixMode := rfl
@[simp] theorem setInput_pendingMode (i : Nat) (x : InPort) : (s.setInput i x).pendingMode = s.pendingMode := rfl
@[simp] theorem setInput_clip (i : Nat) (x : InPort) : (s.setInput i x).clip = s.clip := rfl
@[simp] theorem setInput_peak (i : Nat) (x : InPort) : (s.setInput i x).peak = s.peak := rfl
@[simp] theorem setInput_mixed (i : Nat) (x : InPort) : (s.setInput i x).mixed = s.mixed := rfl
@[simp] theorem setInput_outputs (i : Nat) (x : InPort) : (s.setInput i x).outputs = s.outputs := rfl
@[simp] theorem setInput_inputs (i : Nat) (x : InPort) : (s.setInput i x).inputs = s.inputs.set i x := rfl
@[simp] theorem setInput_holds (i : Nat) (x : InPort) : (s.setInput i x).holds = s.holds := rfl
@[simp] theorem setInput_phrases (i : Nat) (x : InPort) : (s.setInput i x).phrases = s.phrases := rfl
@[simp] theorem setInput_verifyQueue (i : Nat) (x : InPort) : (s.setInput i x).verifyQueue = s.verifyQueue := rfl
@[simp] theorem setInput_verifySummed (i : Nat) (x : InPort) : (s.setInput i x).verifySummed = s.verifySummed := rfl
@[simp] theorem setInput_verifySum (i : Nat) (x : InPort) : (s.setInput i x).verifySum = s.verifySum := rfl
@[simp] theorem setInput_memory (i : Nat) (x : InPort) : (s.setInput i x).memory = s.memory := rfl
@[simp] theorem setInput_players (i : Nat) (x : InPort) : (s.setInput i x).players = s.players := rfl
@[simp] theorem setInput_programs (i : Nat) (x : InPort) : (s.setInput i x).programs = s.programs := rfl
@[simp] theorem setInput_triggers (i : Nat) (x : InPort) : (s.setInput i x).triggers = s.triggers := rfl
@[simp] theorem setInput_alarms (i : Nat) (x : InPort) : (s.setInput i x).alarms = s.alarms := rfl
@[simp] theorem setInput_degraded (i : Nat) (x : InPort) : (s.setInput i x).degraded = s.degraded := rfl
@[simp] theorem setInput_channels (i : Nat) (x : InPort) : (s.setInput i x).channels = s.channels := rfl
@[simp] theorem setInput_supervision (i : Nat) (x : InPort) : (s.setInput i x).supervision = s.supervision := rfl
@[simp] theorem setInput_severities (i : Nat) (x : InPort) : (s.setInput i x).severities = s.severities := rfl
@[simp] theorem setInput_actions (i : Nat) (x : InPort) : (s.setInput i x).actions = s.actions := rfl
@[simp] theorem setInput_linkTimer (i : Nat) (x : InPort) : (s.setInput i x).linkTimer = s.linkTimer := rfl
@[simp] theorem setInput_activeFaults (i : Nat) (x : InPort) : (s.setInput i x).activeFaults = s.activeFaults := rfl
@[simp] theorem setInput_faults (i : Nat) (x : InPort) : (s.setInput i x).faults = s.faults := rfl
@[simp] theorem setInput_overflow (i : Nat) (x : InPort) : (s.setInput i x).overflow = s.overflow := rfl
@[simp] theorem setInput_faultOuts (i : Nat) (x : InPort) : (s.setInput i x).faultOuts = s.faultOuts := rfl
@[simp] theorem setInput_spares (i : Nat) (x : InPort) : (s.setInput i x).spares = s.spares := rfl
@[simp] theorem setInput_spareWait (i : Nat) (x : InPort) : (s.setInput i x).spareWait = s.spareWait := rfl
@[simp] theorem setInput_relay (i : Nat) (x : InPort) : (s.setInput i x).relay = s.relay := rfl
@[simp] theorem setInput_seq (i : Nat) (x : InPort) : (s.setInput i x).seq = s.seq := rfl
@[simp] theorem setInput_pending (i : Nat) (x : InPort) : (s.setInput i x).pending = s.pending := rfl

/-! `setSpare` writes `spares` alone. -/

@[simp] theorem setSpare_system (c : Nat) (v : Option Nat) : (s.setSpare c v).system = s.system := rfl
@[simp] theorem setSpare_bridge (c : Nat) (v : Option Nat) : (s.setSpare c v).bridge = s.bridge := rfl
@[simp] theorem setSpare_marks (c : Nat) (v : Option Nat) : (s.setSpare c v).marks = s.marks := rfl
@[simp] theorem setSpare_endpoints (c : Nat) (v : Option Nat) : (s.setSpare c v).endpoints = s.endpoints := rfl
@[simp] theorem setSpare_decks (c : Nat) (v : Option Nat) : (s.setSpare c v).decks = s.decks := rfl
@[simp] theorem setSpare_calls (c : Nat) (v : Option Nat) : (s.setSpare c v).calls = s.calls := rfl
@[simp] theorem setSpare_expiries (c : Nat) (v : Option Nat) : (s.setSpare c v).expiries = s.expiries := rfl
@[simp] theorem setSpare_bank (c : Nat) (v : Option Nat) : (s.setSpare c v).bank = s.bank := rfl
@[simp] theorem setSpare_swapPending (c : Nat) (v : Option Nat) : (s.setSpare c v).swapPending = s.swapPending := rfl
@[simp] theorem setSpare_mixMode (c : Nat) (v : Option Nat) : (s.setSpare c v).mixMode = s.mixMode := rfl
@[simp] theorem setSpare_pendingMode (c : Nat) (v : Option Nat) : (s.setSpare c v).pendingMode = s.pendingMode := rfl
@[simp] theorem setSpare_clip (c : Nat) (v : Option Nat) : (s.setSpare c v).clip = s.clip := rfl
@[simp] theorem setSpare_peak (c : Nat) (v : Option Nat) : (s.setSpare c v).peak = s.peak := rfl
@[simp] theorem setSpare_mixed (c : Nat) (v : Option Nat) : (s.setSpare c v).mixed = s.mixed := rfl
@[simp] theorem setSpare_outputs (c : Nat) (v : Option Nat) : (s.setSpare c v).outputs = s.outputs := rfl
@[simp] theorem setSpare_inputs (c : Nat) (v : Option Nat) : (s.setSpare c v).inputs = s.inputs := rfl
@[simp] theorem setSpare_holds (c : Nat) (v : Option Nat) : (s.setSpare c v).holds = s.holds := rfl
@[simp] theorem setSpare_phrases (c : Nat) (v : Option Nat) : (s.setSpare c v).phrases = s.phrases := rfl
@[simp] theorem setSpare_verifyQueue (c : Nat) (v : Option Nat) : (s.setSpare c v).verifyQueue = s.verifyQueue := rfl
@[simp] theorem setSpare_verifySummed (c : Nat) (v : Option Nat) : (s.setSpare c v).verifySummed = s.verifySummed := rfl
@[simp] theorem setSpare_verifySum (c : Nat) (v : Option Nat) : (s.setSpare c v).verifySum = s.verifySum := rfl
@[simp] theorem setSpare_memory (c : Nat) (v : Option Nat) : (s.setSpare c v).memory = s.memory := rfl
@[simp] theorem setSpare_players (c : Nat) (v : Option Nat) : (s.setSpare c v).players = s.players := rfl
@[simp] theorem setSpare_programs (c : Nat) (v : Option Nat) : (s.setSpare c v).programs = s.programs := rfl
@[simp] theorem setSpare_triggers (c : Nat) (v : Option Nat) : (s.setSpare c v).triggers = s.triggers := rfl
@[simp] theorem setSpare_alarms (c : Nat) (v : Option Nat) : (s.setSpare c v).alarms = s.alarms := rfl
@[simp] theorem setSpare_degraded (c : Nat) (v : Option Nat) : (s.setSpare c v).degraded = s.degraded := rfl
@[simp] theorem setSpare_channels (c : Nat) (v : Option Nat) : (s.setSpare c v).channels = s.channels := rfl
@[simp] theorem setSpare_supervision (c : Nat) (v : Option Nat) : (s.setSpare c v).supervision = s.supervision := rfl
@[simp] theorem setSpare_severities (c : Nat) (v : Option Nat) : (s.setSpare c v).severities = s.severities := rfl
@[simp] theorem setSpare_actions (c : Nat) (v : Option Nat) : (s.setSpare c v).actions = s.actions := rfl
@[simp] theorem setSpare_linkTimer (c : Nat) (v : Option Nat) : (s.setSpare c v).linkTimer = s.linkTimer := rfl
@[simp] theorem setSpare_activeFaults (c : Nat) (v : Option Nat) : (s.setSpare c v).activeFaults = s.activeFaults := rfl
@[simp] theorem setSpare_faults (c : Nat) (v : Option Nat) : (s.setSpare c v).faults = s.faults := rfl
@[simp] theorem setSpare_overflow (c : Nat) (v : Option Nat) : (s.setSpare c v).overflow = s.overflow := rfl
@[simp] theorem setSpare_faultOuts (c : Nat) (v : Option Nat) : (s.setSpare c v).faultOuts = s.faultOuts := rfl
@[simp] theorem setSpare_spares (c : Nat) (v : Option Nat) : (s.setSpare c v).spares = s.spares.set (c - 144) v := rfl
@[simp] theorem setSpare_spareWait (c : Nat) (v : Option Nat) : (s.setSpare c v).spareWait = s.spareWait := rfl
@[simp] theorem setSpare_relay (c : Nat) (v : Option Nat) : (s.setSpare c v).relay = s.relay := rfl
@[simp] theorem setSpare_seq (c : Nat) (v : Option Nat) : (s.setSpare c v).seq = s.seq := rfl
@[simp] theorem setSpare_pending (c : Nat) (v : Option Nat) : (s.setSpare c v).pending = s.pending := rfl

/-! `serve` writes `marks` alone. -/

@[simp] theorem serve_system (p : Port) (o : Owner) : (s.serve p o).system = s.system := rfl
@[simp] theorem serve_bridge (p : Port) (o : Owner) : (s.serve p o).bridge = s.bridge := rfl
@[simp] theorem serve_marks (p : Port) (o : Owner) :
    (s.serve p o).marks = if (s.port p.other).asks o then s.marks.set o p else s.marks := rfl
@[simp] theorem serve_endpoints (p : Port) (o : Owner) : (s.serve p o).endpoints = s.endpoints := rfl
@[simp] theorem serve_decks (p : Port) (o : Owner) : (s.serve p o).decks = s.decks := rfl
@[simp] theorem serve_calls (p : Port) (o : Owner) : (s.serve p o).calls = s.calls := rfl
@[simp] theorem serve_expiries (p : Port) (o : Owner) : (s.serve p o).expiries = s.expiries := rfl
@[simp] theorem serve_bank (p : Port) (o : Owner) : (s.serve p o).bank = s.bank := rfl
@[simp] theorem serve_swapPending (p : Port) (o : Owner) : (s.serve p o).swapPending = s.swapPending := rfl
@[simp] theorem serve_mixMode (p : Port) (o : Owner) : (s.serve p o).mixMode = s.mixMode := rfl
@[simp] theorem serve_pendingMode (p : Port) (o : Owner) : (s.serve p o).pendingMode = s.pendingMode := rfl
@[simp] theorem serve_clip (p : Port) (o : Owner) : (s.serve p o).clip = s.clip := rfl
@[simp] theorem serve_peak (p : Port) (o : Owner) : (s.serve p o).peak = s.peak := rfl
@[simp] theorem serve_mixed (p : Port) (o : Owner) : (s.serve p o).mixed = s.mixed := rfl
@[simp] theorem serve_outputs (p : Port) (o : Owner) : (s.serve p o).outputs = s.outputs := rfl
@[simp] theorem serve_inputs (p : Port) (o : Owner) : (s.serve p o).inputs = s.inputs := rfl
@[simp] theorem serve_holds (p : Port) (o : Owner) : (s.serve p o).holds = s.holds := rfl
@[simp] theorem serve_phrases (p : Port) (o : Owner) : (s.serve p o).phrases = s.phrases := rfl
@[simp] theorem serve_verifyQueue (p : Port) (o : Owner) : (s.serve p o).verifyQueue = s.verifyQueue := rfl
@[simp] theorem serve_verifySummed (p : Port) (o : Owner) : (s.serve p o).verifySummed = s.verifySummed := rfl
@[simp] theorem serve_verifySum (p : Port) (o : Owner) : (s.serve p o).verifySum = s.verifySum := rfl
@[simp] theorem serve_memory (p : Port) (o : Owner) : (s.serve p o).memory = s.memory := rfl
@[simp] theorem serve_players (p : Port) (o : Owner) : (s.serve p o).players = s.players := rfl
@[simp] theorem serve_programs (p : Port) (o : Owner) : (s.serve p o).programs = s.programs := rfl
@[simp] theorem serve_triggers (p : Port) (o : Owner) : (s.serve p o).triggers = s.triggers := rfl
@[simp] theorem serve_alarms (p : Port) (o : Owner) : (s.serve p o).alarms = s.alarms := rfl
@[simp] theorem serve_degraded (p : Port) (o : Owner) : (s.serve p o).degraded = s.degraded := rfl
@[simp] theorem serve_channels (p : Port) (o : Owner) : (s.serve p o).channels = s.channels := rfl
@[simp] theorem serve_supervision (p : Port) (o : Owner) : (s.serve p o).supervision = s.supervision := rfl
@[simp] theorem serve_severities (p : Port) (o : Owner) : (s.serve p o).severities = s.severities := rfl
@[simp] theorem serve_actions (p : Port) (o : Owner) : (s.serve p o).actions = s.actions := rfl
@[simp] theorem serve_linkTimer (p : Port) (o : Owner) : (s.serve p o).linkTimer = s.linkTimer := rfl
@[simp] theorem serve_activeFaults (p : Port) (o : Owner) : (s.serve p o).activeFaults = s.activeFaults := rfl
@[simp] theorem serve_faults (p : Port) (o : Owner) : (s.serve p o).faults = s.faults := rfl
@[simp] theorem serve_overflow (p : Port) (o : Owner) : (s.serve p o).overflow = s.overflow := rfl
@[simp] theorem serve_faultOuts (p : Port) (o : Owner) : (s.serve p o).faultOuts = s.faultOuts := rfl
@[simp] theorem serve_spares (p : Port) (o : Owner) : (s.serve p o).spares = s.spares := rfl
@[simp] theorem serve_spareWait (p : Port) (o : Owner) : (s.serve p o).spareWait = s.spareWait := rfl
@[simp] theorem serve_relay (p : Port) (o : Owner) : (s.serve p o).relay = s.relay := rfl
@[simp] theorem serve_seq (p : Port) (o : Owner) : (s.serve p o).seq = s.seq := rfl
@[simp] theorem serve_pending (p : Port) (o : Owner) : (s.serve p o).pending = s.pending := rfl

/-! `sendMove` writes `relay` alone. -/

@[simp] theorem sendMove_system (z c : Nat) : (s.sendMove z c).system = s.system := rfl
@[simp] theorem sendMove_bridge (z c : Nat) : (s.sendMove z c).bridge = s.bridge := rfl
@[simp] theorem sendMove_marks (z c : Nat) : (s.sendMove z c).marks = s.marks := rfl
@[simp] theorem sendMove_endpoints (z c : Nat) : (s.sendMove z c).endpoints = s.endpoints := rfl
@[simp] theorem sendMove_decks (z c : Nat) : (s.sendMove z c).decks = s.decks := rfl
@[simp] theorem sendMove_calls (z c : Nat) : (s.sendMove z c).calls = s.calls := rfl
@[simp] theorem sendMove_expiries (z c : Nat) : (s.sendMove z c).expiries = s.expiries := rfl
@[simp] theorem sendMove_bank (z c : Nat) : (s.sendMove z c).bank = s.bank := rfl
@[simp] theorem sendMove_swapPending (z c : Nat) : (s.sendMove z c).swapPending = s.swapPending := rfl
@[simp] theorem sendMove_mixMode (z c : Nat) : (s.sendMove z c).mixMode = s.mixMode := rfl
@[simp] theorem sendMove_pendingMode (z c : Nat) : (s.sendMove z c).pendingMode = s.pendingMode := rfl
@[simp] theorem sendMove_clip (z c : Nat) : (s.sendMove z c).clip = s.clip := rfl
@[simp] theorem sendMove_peak (z c : Nat) : (s.sendMove z c).peak = s.peak := rfl
@[simp] theorem sendMove_mixed (z c : Nat) : (s.sendMove z c).mixed = s.mixed := rfl
@[simp] theorem sendMove_outputs (z c : Nat) : (s.sendMove z c).outputs = s.outputs := rfl
@[simp] theorem sendMove_inputs (z c : Nat) : (s.sendMove z c).inputs = s.inputs := rfl
@[simp] theorem sendMove_holds (z c : Nat) : (s.sendMove z c).holds = s.holds := rfl
@[simp] theorem sendMove_phrases (z c : Nat) : (s.sendMove z c).phrases = s.phrases := rfl
@[simp] theorem sendMove_verifyQueue (z c : Nat) : (s.sendMove z c).verifyQueue = s.verifyQueue := rfl
@[simp] theorem sendMove_verifySummed (z c : Nat) : (s.sendMove z c).verifySummed = s.verifySummed := rfl
@[simp] theorem sendMove_verifySum (z c : Nat) : (s.sendMove z c).verifySum = s.verifySum := rfl
@[simp] theorem sendMove_memory (z c : Nat) : (s.sendMove z c).memory = s.memory := rfl
@[simp] theorem sendMove_players (z c : Nat) : (s.sendMove z c).players = s.players := rfl
@[simp] theorem sendMove_programs (z c : Nat) : (s.sendMove z c).programs = s.programs := rfl
@[simp] theorem sendMove_triggers (z c : Nat) : (s.sendMove z c).triggers = s.triggers := rfl
@[simp] theorem sendMove_alarms (z c : Nat) : (s.sendMove z c).alarms = s.alarms := rfl
@[simp] theorem sendMove_degraded (z c : Nat) : (s.sendMove z c).degraded = s.degraded := rfl
@[simp] theorem sendMove_channels (z c : Nat) : (s.sendMove z c).channels = s.channels := rfl
@[simp] theorem sendMove_supervision (z c : Nat) : (s.sendMove z c).supervision = s.supervision := rfl
@[simp] theorem sendMove_severities (z c : Nat) : (s.sendMove z c).severities = s.severities := rfl
@[simp] theorem sendMove_actions (z c : Nat) : (s.sendMove z c).actions = s.actions := rfl
@[simp] theorem sendMove_linkTimer (z c : Nat) : (s.sendMove z c).linkTimer = s.linkTimer := rfl
@[simp] theorem sendMove_activeFaults (z c : Nat) : (s.sendMove z c).activeFaults = s.activeFaults := rfl
@[simp] theorem sendMove_faults (z c : Nat) : (s.sendMove z c).faults = s.faults := rfl
@[simp] theorem sendMove_overflow (z c : Nat) : (s.sendMove z c).overflow = s.overflow := rfl
@[simp] theorem sendMove_faultOuts (z c : Nat) : (s.sendMove z c).faultOuts = s.faultOuts := rfl
@[simp] theorem sendMove_spares (z c : Nat) : (s.sendMove z c).spares = s.spares := rfl
@[simp] theorem sendMove_spareWait (z c : Nat) : (s.sendMove z c).spareWait = s.spareWait := rfl
@[simp] theorem sendMove_relay (z c : Nat) : (s.sendMove z c).relay = s.relay ++ [.move z c] := rfl
@[simp] theorem sendMove_seq (z c : Nat) : (s.sendMove z c).seq = s.seq := rfl
@[simp] theorem sendMove_pending (z c : Nat) : (s.sendMove z c).pending = s.pending := rfl

/-! `leaveWait` writes `spareWait` alone. -/

@[simp] theorem leaveWait_system (z : Nat) : (s.leaveWait z).system = s.system := rfl
@[simp] theorem leaveWait_bridge (z : Nat) : (s.leaveWait z).bridge = s.bridge := rfl
@[simp] theorem leaveWait_marks (z : Nat) : (s.leaveWait z).marks = s.marks := rfl
@[simp] theorem leaveWait_endpoints (z : Nat) : (s.leaveWait z).endpoints = s.endpoints := rfl
@[simp] theorem leaveWait_decks (z : Nat) : (s.leaveWait z).decks = s.decks := rfl
@[simp] theorem leaveWait_calls (z : Nat) : (s.leaveWait z).calls = s.calls := rfl
@[simp] theorem leaveWait_expiries (z : Nat) : (s.leaveWait z).expiries = s.expiries := rfl
@[simp] theorem leaveWait_bank (z : Nat) : (s.leaveWait z).bank = s.bank := rfl
@[simp] theorem leaveWait_swapPending (z : Nat) : (s.leaveWait z).swapPending = s.swapPending := rfl
@[simp] theorem leaveWait_mixMode (z : Nat) : (s.leaveWait z).mixMode = s.mixMode := rfl
@[simp] theorem leaveWait_pendingMode (z : Nat) : (s.leaveWait z).pendingMode = s.pendingMode := rfl
@[simp] theorem leaveWait_clip (z : Nat) : (s.leaveWait z).clip = s.clip := rfl
@[simp] theorem leaveWait_peak (z : Nat) : (s.leaveWait z).peak = s.peak := rfl
@[simp] theorem leaveWait_mixed (z : Nat) : (s.leaveWait z).mixed = s.mixed := rfl
@[simp] theorem leaveWait_outputs (z : Nat) : (s.leaveWait z).outputs = s.outputs := rfl
@[simp] theorem leaveWait_inputs (z : Nat) : (s.leaveWait z).inputs = s.inputs := rfl
@[simp] theorem leaveWait_holds (z : Nat) : (s.leaveWait z).holds = s.holds := rfl
@[simp] theorem leaveWait_phrases (z : Nat) : (s.leaveWait z).phrases = s.phrases := rfl
@[simp] theorem leaveWait_verifyQueue (z : Nat) : (s.leaveWait z).verifyQueue = s.verifyQueue := rfl
@[simp] theorem leaveWait_verifySummed (z : Nat) : (s.leaveWait z).verifySummed = s.verifySummed := rfl
@[simp] theorem leaveWait_verifySum (z : Nat) : (s.leaveWait z).verifySum = s.verifySum := rfl
@[simp] theorem leaveWait_memory (z : Nat) : (s.leaveWait z).memory = s.memory := rfl
@[simp] theorem leaveWait_players (z : Nat) : (s.leaveWait z).players = s.players := rfl
@[simp] theorem leaveWait_programs (z : Nat) : (s.leaveWait z).programs = s.programs := rfl
@[simp] theorem leaveWait_triggers (z : Nat) : (s.leaveWait z).triggers = s.triggers := rfl
@[simp] theorem leaveWait_alarms (z : Nat) : (s.leaveWait z).alarms = s.alarms := rfl
@[simp] theorem leaveWait_degraded (z : Nat) : (s.leaveWait z).degraded = s.degraded := rfl
@[simp] theorem leaveWait_channels (z : Nat) : (s.leaveWait z).channels = s.channels := rfl
@[simp] theorem leaveWait_supervision (z : Nat) : (s.leaveWait z).supervision = s.supervision := rfl
@[simp] theorem leaveWait_severities (z : Nat) : (s.leaveWait z).severities = s.severities := rfl
@[simp] theorem leaveWait_actions (z : Nat) : (s.leaveWait z).actions = s.actions := rfl
@[simp] theorem leaveWait_linkTimer (z : Nat) : (s.leaveWait z).linkTimer = s.linkTimer := rfl
@[simp] theorem leaveWait_activeFaults (z : Nat) : (s.leaveWait z).activeFaults = s.activeFaults := rfl
@[simp] theorem leaveWait_faults (z : Nat) : (s.leaveWait z).faults = s.faults := rfl
@[simp] theorem leaveWait_overflow (z : Nat) : (s.leaveWait z).overflow = s.overflow := rfl
@[simp] theorem leaveWait_faultOuts (z : Nat) : (s.leaveWait z).faultOuts = s.faultOuts := rfl
@[simp] theorem leaveWait_spares (z : Nat) : (s.leaveWait z).spares = s.spares := rfl
@[simp] theorem leaveWait_spareWait (z : Nat) : (s.leaveWait z).spareWait = s.spareWait.filter (·.zone ≠ z) := rfl
@[simp] theorem leaveWait_relay (z : Nat) : (s.leaveWait z).relay = s.relay := rfl
@[simp] theorem leaveWait_seq (z : Nat) : (s.leaveWait z).seq = s.seq := rfl
@[simp] theorem leaveWait_pending (z : Nat) : (s.leaveWait z).pending = s.pending := rfl

/-! `stopExpiry` writes `expiries` alone. -/

@[simp] theorem stopExpiry_system (h : Handle) : (s.stopExpiry h).system = s.system := rfl
@[simp] theorem stopExpiry_bridge (h : Handle) : (s.stopExpiry h).bridge = s.bridge := rfl
@[simp] theorem stopExpiry_marks (h : Handle) : (s.stopExpiry h).marks = s.marks := rfl
@[simp] theorem stopExpiry_endpoints (h : Handle) : (s.stopExpiry h).endpoints = s.endpoints := rfl
@[simp] theorem stopExpiry_decks (h : Handle) : (s.stopExpiry h).decks = s.decks := rfl
@[simp] theorem stopExpiry_calls (h : Handle) : (s.stopExpiry h).calls = s.calls := rfl
@[simp] theorem stopExpiry_expiries (h : Handle) : (s.stopExpiry h).expiries = s.expiries.filter fun x => !(x.slot == h.slot && x.gen == h.gen) := rfl
@[simp] theorem stopExpiry_bank (h : Handle) : (s.stopExpiry h).bank = s.bank := rfl
@[simp] theorem stopExpiry_swapPending (h : Handle) : (s.stopExpiry h).swapPending = s.swapPending := rfl
@[simp] theorem stopExpiry_mixMode (h : Handle) : (s.stopExpiry h).mixMode = s.mixMode := rfl
@[simp] theorem stopExpiry_pendingMode (h : Handle) : (s.stopExpiry h).pendingMode = s.pendingMode := rfl
@[simp] theorem stopExpiry_clip (h : Handle) : (s.stopExpiry h).clip = s.clip := rfl
@[simp] theorem stopExpiry_peak (h : Handle) : (s.stopExpiry h).peak = s.peak := rfl
@[simp] theorem stopExpiry_mixed (h : Handle) : (s.stopExpiry h).mixed = s.mixed := rfl
@[simp] theorem stopExpiry_outputs (h : Handle) : (s.stopExpiry h).outputs = s.outputs := rfl
@[simp] theorem stopExpiry_inputs (h : Handle) : (s.stopExpiry h).inputs = s.inputs := rfl
@[simp] theorem stopExpiry_holds (h : Handle) : (s.stopExpiry h).holds = s.holds := rfl
@[simp] theorem stopExpiry_phrases (h : Handle) : (s.stopExpiry h).phrases = s.phrases := rfl
@[simp] theorem stopExpiry_verifyQueue (h : Handle) : (s.stopExpiry h).verifyQueue = s.verifyQueue := rfl
@[simp] theorem stopExpiry_verifySummed (h : Handle) : (s.stopExpiry h).verifySummed = s.verifySummed := rfl
@[simp] theorem stopExpiry_verifySum (h : Handle) : (s.stopExpiry h).verifySum = s.verifySum := rfl
@[simp] theorem stopExpiry_memory (h : Handle) : (s.stopExpiry h).memory = s.memory := rfl
@[simp] theorem stopExpiry_players (h : Handle) : (s.stopExpiry h).players = s.players := rfl
@[simp] theorem stopExpiry_programs (h : Handle) : (s.stopExpiry h).programs = s.programs := rfl
@[simp] theorem stopExpiry_triggers (h : Handle) : (s.stopExpiry h).triggers = s.triggers := rfl
@[simp] theorem stopExpiry_alarms (h : Handle) : (s.stopExpiry h).alarms = s.alarms := rfl
@[simp] theorem stopExpiry_degraded (h : Handle) : (s.stopExpiry h).degraded = s.degraded := rfl
@[simp] theorem stopExpiry_channels (h : Handle) : (s.stopExpiry h).channels = s.channels := rfl
@[simp] theorem stopExpiry_supervision (h : Handle) : (s.stopExpiry h).supervision = s.supervision := rfl
@[simp] theorem stopExpiry_severities (h : Handle) : (s.stopExpiry h).severities = s.severities := rfl
@[simp] theorem stopExpiry_actions (h : Handle) : (s.stopExpiry h).actions = s.actions := rfl
@[simp] theorem stopExpiry_linkTimer (h : Handle) : (s.stopExpiry h).linkTimer = s.linkTimer := rfl
@[simp] theorem stopExpiry_activeFaults (h : Handle) : (s.stopExpiry h).activeFaults = s.activeFaults := rfl
@[simp] theorem stopExpiry_faults (h : Handle) : (s.stopExpiry h).faults = s.faults := rfl
@[simp] theorem stopExpiry_overflow (h : Handle) : (s.stopExpiry h).overflow = s.overflow := rfl
@[simp] theorem stopExpiry_faultOuts (h : Handle) : (s.stopExpiry h).faultOuts = s.faultOuts := rfl
@[simp] theorem stopExpiry_spares (h : Handle) : (s.stopExpiry h).spares = s.spares := rfl
@[simp] theorem stopExpiry_spareWait (h : Handle) : (s.stopExpiry h).spareWait = s.spareWait := rfl
@[simp] theorem stopExpiry_relay (h : Handle) : (s.stopExpiry h).relay = s.relay := rfl
@[simp] theorem stopExpiry_seq (h : Handle) : (s.stopExpiry h).seq = s.seq := rfl
@[simp] theorem stopExpiry_pending (h : Handle) : (s.stopExpiry h).pending = s.pending := rfl

/-! `nextSeq` writes `seq` alone. -/

@[simp] theorem nextSeq_system : (s.nextSeq).system = s.system := rfl
@[simp] theorem nextSeq_bridge : (s.nextSeq).bridge = s.bridge := rfl
@[simp] theorem nextSeq_marks : (s.nextSeq).marks = s.marks := rfl
@[simp] theorem nextSeq_endpoints : (s.nextSeq).endpoints = s.endpoints := rfl
@[simp] theorem nextSeq_decks : (s.nextSeq).decks = s.decks := rfl
@[simp] theorem nextSeq_calls : (s.nextSeq).calls = s.calls := rfl
@[simp] theorem nextSeq_expiries : (s.nextSeq).expiries = s.expiries := rfl
@[simp] theorem nextSeq_bank : (s.nextSeq).bank = s.bank := rfl
@[simp] theorem nextSeq_swapPending : (s.nextSeq).swapPending = s.swapPending := rfl
@[simp] theorem nextSeq_mixMode : (s.nextSeq).mixMode = s.mixMode := rfl
@[simp] theorem nextSeq_pendingMode : (s.nextSeq).pendingMode = s.pendingMode := rfl
@[simp] theorem nextSeq_clip : (s.nextSeq).clip = s.clip := rfl
@[simp] theorem nextSeq_peak : (s.nextSeq).peak = s.peak := rfl
@[simp] theorem nextSeq_mixed : (s.nextSeq).mixed = s.mixed := rfl
@[simp] theorem nextSeq_outputs : (s.nextSeq).outputs = s.outputs := rfl
@[simp] theorem nextSeq_inputs : (s.nextSeq).inputs = s.inputs := rfl
@[simp] theorem nextSeq_holds : (s.nextSeq).holds = s.holds := rfl
@[simp] theorem nextSeq_phrases : (s.nextSeq).phrases = s.phrases := rfl
@[simp] theorem nextSeq_verifyQueue : (s.nextSeq).verifyQueue = s.verifyQueue := rfl
@[simp] theorem nextSeq_verifySummed : (s.nextSeq).verifySummed = s.verifySummed := rfl
@[simp] theorem nextSeq_verifySum : (s.nextSeq).verifySum = s.verifySum := rfl
@[simp] theorem nextSeq_memory : (s.nextSeq).memory = s.memory := rfl
@[simp] theorem nextSeq_players : (s.nextSeq).players = s.players := rfl
@[simp] theorem nextSeq_programs : (s.nextSeq).programs = s.programs := rfl
@[simp] theorem nextSeq_triggers : (s.nextSeq).triggers = s.triggers := rfl
@[simp] theorem nextSeq_alarms : (s.nextSeq).alarms = s.alarms := rfl
@[simp] theorem nextSeq_degraded : (s.nextSeq).degraded = s.degraded := rfl
@[simp] theorem nextSeq_channels : (s.nextSeq).channels = s.channels := rfl
@[simp] theorem nextSeq_supervision : (s.nextSeq).supervision = s.supervision := rfl
@[simp] theorem nextSeq_severities : (s.nextSeq).severities = s.severities := rfl
@[simp] theorem nextSeq_actions : (s.nextSeq).actions = s.actions := rfl
@[simp] theorem nextSeq_linkTimer : (s.nextSeq).linkTimer = s.linkTimer := rfl
@[simp] theorem nextSeq_activeFaults : (s.nextSeq).activeFaults = s.activeFaults := rfl
@[simp] theorem nextSeq_faults : (s.nextSeq).faults = s.faults := rfl
@[simp] theorem nextSeq_overflow : (s.nextSeq).overflow = s.overflow := rfl
@[simp] theorem nextSeq_faultOuts : (s.nextSeq).faultOuts = s.faultOuts := rfl
@[simp] theorem nextSeq_spares : (s.nextSeq).spares = s.spares := rfl
@[simp] theorem nextSeq_spareWait : (s.nextSeq).spareWait = s.spareWait := rfl
@[simp] theorem nextSeq_relay : (s.nextSeq).relay = s.relay := rfl
@[simp] theorem nextSeq_seq : (s.nextSeq).seq = s.seq + 1 := rfl
@[simp] theorem nextSeq_pending : (s.nextSeq).pending = s.pending := rfl

/-! `evalFaultOuts` writes `faultOuts` alone. -/

@[simp] theorem evalFaultOuts_system : (s.evalFaultOuts).system = s.system := rfl
@[simp] theorem evalFaultOuts_bridge : (s.evalFaultOuts).bridge = s.bridge := rfl
@[simp] theorem evalFaultOuts_marks : (s.evalFaultOuts).marks = s.marks := rfl
@[simp] theorem evalFaultOuts_endpoints : (s.evalFaultOuts).endpoints = s.endpoints := rfl
@[simp] theorem evalFaultOuts_decks : (s.evalFaultOuts).decks = s.decks := rfl
@[simp] theorem evalFaultOuts_calls : (s.evalFaultOuts).calls = s.calls := rfl
@[simp] theorem evalFaultOuts_expiries : (s.evalFaultOuts).expiries = s.expiries := rfl
@[simp] theorem evalFaultOuts_bank : (s.evalFaultOuts).bank = s.bank := rfl
@[simp] theorem evalFaultOuts_swapPending : (s.evalFaultOuts).swapPending = s.swapPending := rfl
@[simp] theorem evalFaultOuts_mixMode : (s.evalFaultOuts).mixMode = s.mixMode := rfl
@[simp] theorem evalFaultOuts_pendingMode : (s.evalFaultOuts).pendingMode = s.pendingMode := rfl
@[simp] theorem evalFaultOuts_clip : (s.evalFaultOuts).clip = s.clip := rfl
@[simp] theorem evalFaultOuts_peak : (s.evalFaultOuts).peak = s.peak := rfl
@[simp] theorem evalFaultOuts_mixed : (s.evalFaultOuts).mixed = s.mixed := rfl
@[simp] theorem evalFaultOuts_outputs : (s.evalFaultOuts).outputs = s.outputs := rfl
@[simp] theorem evalFaultOuts_inputs : (s.evalFaultOuts).inputs = s.inputs := rfl
@[simp] theorem evalFaultOuts_holds : (s.evalFaultOuts).holds = s.holds := rfl
@[simp] theorem evalFaultOuts_phrases : (s.evalFaultOuts).phrases = s.phrases := rfl
@[simp] theorem evalFaultOuts_verifyQueue : (s.evalFaultOuts).verifyQueue = s.verifyQueue := rfl
@[simp] theorem evalFaultOuts_verifySummed : (s.evalFaultOuts).verifySummed = s.verifySummed := rfl
@[simp] theorem evalFaultOuts_verifySum : (s.evalFaultOuts).verifySum = s.verifySum := rfl
@[simp] theorem evalFaultOuts_memory : (s.evalFaultOuts).memory = s.memory := rfl
@[simp] theorem evalFaultOuts_players : (s.evalFaultOuts).players = s.players := rfl
@[simp] theorem evalFaultOuts_programs : (s.evalFaultOuts).programs = s.programs := rfl
@[simp] theorem evalFaultOuts_triggers : (s.evalFaultOuts).triggers = s.triggers := rfl
@[simp] theorem evalFaultOuts_alarms : (s.evalFaultOuts).alarms = s.alarms := rfl
@[simp] theorem evalFaultOuts_degraded : (s.evalFaultOuts).degraded = s.degraded := rfl
@[simp] theorem evalFaultOuts_channels : (s.evalFaultOuts).channels = s.channels := rfl
@[simp] theorem evalFaultOuts_supervision : (s.evalFaultOuts).supervision = s.supervision := rfl
@[simp] theorem evalFaultOuts_severities : (s.evalFaultOuts).severities = s.severities := rfl
@[simp] theorem evalFaultOuts_actions : (s.evalFaultOuts).actions = s.actions := rfl
@[simp] theorem evalFaultOuts_linkTimer : (s.evalFaultOuts).linkTimer = s.linkTimer := rfl
@[simp] theorem evalFaultOuts_activeFaults : (s.evalFaultOuts).activeFaults = s.activeFaults := rfl
@[simp] theorem evalFaultOuts_faults : (s.evalFaultOuts).faults = s.faults := rfl
@[simp] theorem evalFaultOuts_overflow : (s.evalFaultOuts).overflow = s.overflow := rfl
@[simp] theorem evalFaultOuts_faultOuts : (s.evalFaultOuts).faultOuts = s.faultOuts.map (FaultOut.eval s.activeFaults) := rfl
@[simp] theorem evalFaultOuts_spares : (s.evalFaultOuts).spares = s.spares := rfl
@[simp] theorem evalFaultOuts_spareWait : (s.evalFaultOuts).spareWait = s.spareWait := rfl
@[simp] theorem evalFaultOuts_relay : (s.evalFaultOuts).relay = s.relay := rfl
@[simp] theorem evalFaultOuts_seq : (s.evalFaultOuts).seq = s.seq := rfl
@[simp] theorem evalFaultOuts_pending : (s.evalFaultOuts).pending = s.pending := rfl

/-! `stepTerms` writes `endpoints` alone. -/

@[simp] theorem stepTerms_system : (s.stepTerms).system = s.system := rfl
@[simp] theorem stepTerms_bridge : (s.stepTerms).bridge = s.bridge := rfl
@[simp] theorem stepTerms_marks : (s.stepTerms).marks = s.marks := rfl
@[simp] theorem stepTerms_endpoints : (s.stepTerms).endpoints = s.endpoints.map Endpoint.stepTerms := rfl
@[simp] theorem stepTerms_decks : (s.stepTerms).decks = s.decks := rfl
@[simp] theorem stepTerms_calls : (s.stepTerms).calls = s.calls := rfl
@[simp] theorem stepTerms_expiries : (s.stepTerms).expiries = s.expiries := rfl
@[simp] theorem stepTerms_bank : (s.stepTerms).bank = s.bank := rfl
@[simp] theorem stepTerms_swapPending : (s.stepTerms).swapPending = s.swapPending := rfl
@[simp] theorem stepTerms_mixMode : (s.stepTerms).mixMode = s.mixMode := rfl
@[simp] theorem stepTerms_pendingMode : (s.stepTerms).pendingMode = s.pendingMode := rfl
@[simp] theorem stepTerms_clip : (s.stepTerms).clip = s.clip := rfl
@[simp] theorem stepTerms_peak : (s.stepTerms).peak = s.peak := rfl
@[simp] theorem stepTerms_mixed : (s.stepTerms).mixed = s.mixed := rfl
@[simp] theorem stepTerms_outputs : (s.stepTerms).outputs = s.outputs := rfl
@[simp] theorem stepTerms_inputs : (s.stepTerms).inputs = s.inputs := rfl
@[simp] theorem stepTerms_holds : (s.stepTerms).holds = s.holds := rfl
@[simp] theorem stepTerms_phrases : (s.stepTerms).phrases = s.phrases := rfl
@[simp] theorem stepTerms_verifyQueue : (s.stepTerms).verifyQueue = s.verifyQueue := rfl
@[simp] theorem stepTerms_verifySummed : (s.stepTerms).verifySummed = s.verifySummed := rfl
@[simp] theorem stepTerms_verifySum : (s.stepTerms).verifySum = s.verifySum := rfl
@[simp] theorem stepTerms_memory : (s.stepTerms).memory = s.memory := rfl
@[simp] theorem stepTerms_players : (s.stepTerms).players = s.players := rfl
@[simp] theorem stepTerms_programs : (s.stepTerms).programs = s.programs := rfl
@[simp] theorem stepTerms_triggers : (s.stepTerms).triggers = s.triggers := rfl
@[simp] theorem stepTerms_alarms : (s.stepTerms).alarms = s.alarms := rfl
@[simp] theorem stepTerms_degraded : (s.stepTerms).degraded = s.degraded := rfl
@[simp] theorem stepTerms_channels : (s.stepTerms).channels = s.channels := rfl
@[simp] theorem stepTerms_supervision : (s.stepTerms).supervision = s.supervision := rfl
@[simp] theorem stepTerms_severities : (s.stepTerms).severities = s.severities := rfl
@[simp] theorem stepTerms_actions : (s.stepTerms).actions = s.actions := rfl
@[simp] theorem stepTerms_linkTimer : (s.stepTerms).linkTimer = s.linkTimer := rfl
@[simp] theorem stepTerms_activeFaults : (s.stepTerms).activeFaults = s.activeFaults := rfl
@[simp] theorem stepTerms_faults : (s.stepTerms).faults = s.faults := rfl
@[simp] theorem stepTerms_overflow : (s.stepTerms).overflow = s.overflow := rfl
@[simp] theorem stepTerms_faultOuts : (s.stepTerms).faultOuts = s.faultOuts := rfl
@[simp] theorem stepTerms_spares : (s.stepTerms).spares = s.spares := rfl
@[simp] theorem stepTerms_spareWait : (s.stepTerms).spareWait = s.spareWait := rfl
@[simp] theorem stepTerms_relay : (s.stepTerms).relay = s.relay := rfl
@[simp] theorem stepTerms_seq : (s.stepTerms).seq = s.seq := rfl
@[simp] theorem stepTerms_pending : (s.stepTerms).pending = s.pending := rfl

/-! `setPort` writes the record of its port alone. -/

@[simp] theorem setPort_port (p : Port) (r : PortRec) : (s.setPort p r).port p = r := by cases p <;> rfl
@[simp] theorem setPort_port_other (p : Port) (r : PortRec) : (s.setPort p r).port p.other = s.port p.other := by cases p <;> rfl
@[simp] theorem setPort_self (p : Port) : s.setPort p (s.port p) = s := by cases p <;> rfl
@[simp] theorem setPort_setPort (p : Port) (r q : PortRec) : (s.setPort p r).setPort p q = s.setPort p q := by cases p <;> rfl
@[simp] theorem setPort_marks (p : Port) (r : PortRec) : (s.setPort p r).marks = s.marks := by cases p <;> rfl
@[simp] theorem setPort_endpoints (p : Port) (r : PortRec) : (s.setPort p r).endpoints = s.endpoints := by cases p <;> rfl
@[simp] theorem setPort_decks (p : Port) (r : PortRec) : (s.setPort p r).decks = s.decks := by cases p <;> rfl
@[simp] theorem setPort_calls (p : Port) (r : PortRec) : (s.setPort p r).calls = s.calls := by cases p <;> rfl
@[simp] theorem setPort_expiries (p : Port) (r : PortRec) : (s.setPort p r).expiries = s.expiries := by cases p <;> rfl
@[simp] theorem setPort_bank (p : Port) (r : PortRec) : (s.setPort p r).bank = s.bank := by cases p <;> rfl
@[simp] theorem setPort_swapPending (p : Port) (r : PortRec) : (s.setPort p r).swapPending = s.swapPending := by cases p <;> rfl
@[simp] theorem setPort_mixMode (p : Port) (r : PortRec) : (s.setPort p r).mixMode = s.mixMode := by cases p <;> rfl
@[simp] theorem setPort_pendingMode (p : Port) (r : PortRec) : (s.setPort p r).pendingMode = s.pendingMode := by cases p <;> rfl
@[simp] theorem setPort_clip (p : Port) (r : PortRec) : (s.setPort p r).clip = s.clip := by cases p <;> rfl
@[simp] theorem setPort_peak (p : Port) (r : PortRec) : (s.setPort p r).peak = s.peak := by cases p <;> rfl
@[simp] theorem setPort_mixed (p : Port) (r : PortRec) : (s.setPort p r).mixed = s.mixed := by cases p <;> rfl
@[simp] theorem setPort_outputs (p : Port) (r : PortRec) : (s.setPort p r).outputs = s.outputs := by cases p <;> rfl
@[simp] theorem setPort_inputs (p : Port) (r : PortRec) : (s.setPort p r).inputs = s.inputs := by cases p <;> rfl
@[simp] theorem setPort_holds (p : Port) (r : PortRec) : (s.setPort p r).holds = s.holds := by cases p <;> rfl
@[simp] theorem setPort_phrases (p : Port) (r : PortRec) : (s.setPort p r).phrases = s.phrases := by cases p <;> rfl
@[simp] theorem setPort_verifyQueue (p : Port) (r : PortRec) : (s.setPort p r).verifyQueue = s.verifyQueue := by cases p <;> rfl
@[simp] theorem setPort_verifySummed (p : Port) (r : PortRec) : (s.setPort p r).verifySummed = s.verifySummed := by cases p <;> rfl
@[simp] theorem setPort_verifySum (p : Port) (r : PortRec) : (s.setPort p r).verifySum = s.verifySum := by cases p <;> rfl
@[simp] theorem setPort_memory (p : Port) (r : PortRec) : (s.setPort p r).memory = s.memory := by cases p <;> rfl
@[simp] theorem setPort_players (p : Port) (r : PortRec) : (s.setPort p r).players = s.players := by cases p <;> rfl
@[simp] theorem setPort_programs (p : Port) (r : PortRec) : (s.setPort p r).programs = s.programs := by cases p <;> rfl
@[simp] theorem setPort_triggers (p : Port) (r : PortRec) : (s.setPort p r).triggers = s.triggers := by cases p <;> rfl
@[simp] theorem setPort_alarms (p : Port) (r : PortRec) : (s.setPort p r).alarms = s.alarms := by cases p <;> rfl
@[simp] theorem setPort_degraded (p : Port) (r : PortRec) : (s.setPort p r).degraded = s.degraded := by cases p <;> rfl
@[simp] theorem setPort_channels (p : Port) (r : PortRec) : (s.setPort p r).channels = s.channels := by cases p <;> rfl
@[simp] theorem setPort_supervision (p : Port) (r : PortRec) : (s.setPort p r).supervision = s.supervision := by cases p <;> rfl
@[simp] theorem setPort_severities (p : Port) (r : PortRec) : (s.setPort p r).severities = s.severities := by cases p <;> rfl
@[simp] theorem setPort_actions (p : Port) (r : PortRec) : (s.setPort p r).actions = s.actions := by cases p <;> rfl
@[simp] theorem setPort_linkTimer (p : Port) (r : PortRec) : (s.setPort p r).linkTimer = s.linkTimer := by cases p <;> rfl
@[simp] theorem setPort_activeFaults (p : Port) (r : PortRec) : (s.setPort p r).activeFaults = s.activeFaults := by cases p <;> rfl
@[simp] theorem setPort_faults (p : Port) (r : PortRec) : (s.setPort p r).faults = s.faults := by cases p <;> rfl
@[simp] theorem setPort_overflow (p : Port) (r : PortRec) : (s.setPort p r).overflow = s.overflow := by cases p <;> rfl
@[simp] theorem setPort_faultOuts (p : Port) (r : PortRec) : (s.setPort p r).faultOuts = s.faultOuts := by cases p <;> rfl
@[simp] theorem setPort_spares (p : Port) (r : PortRec) : (s.setPort p r).spares = s.spares := by cases p <;> rfl
@[simp] theorem setPort_spareWait (p : Port) (r : PortRec) : (s.setPort p r).spareWait = s.spareWait := by cases p <;> rfl
@[simp] theorem setPort_relay (p : Port) (r : PortRec) : (s.setPort p r).relay = s.relay := by cases p <;> rfl
@[simp] theorem setPort_seq (p : Port) (r : PortRec) : (s.setPort p r).seq = s.seq := by cases p <;> rfl
@[simp] theorem setPort_pending (p : Port) (r : PortRec) : (s.setPort p r).pending = s.pending := by cases p <;> rfl

/-- The port's record is the port's field. -/
@[simp] theorem port_system : s.port .system = s.system := rfl
/-- The port's record is the port's field. -/
@[simp] theorem port_bridge : s.port .bridge = s.bridge := rfl

/-! `refresh` writes the counts of the calls, ALARM DEGRADED, the overflow flag, the ends to collect and the attention lines alone. -/

@[simp] theorem refresh_marks : s.refresh.marks = s.marks := rfl
@[simp] theorem refresh_endpoints : s.refresh.endpoints = s.endpoints := rfl
@[simp] theorem refresh_decks : s.refresh.decks = s.decks := rfl
@[simp] theorem refresh_expiries : s.refresh.expiries = s.expiries := rfl
@[simp] theorem refresh_bank : s.refresh.bank = s.bank := rfl
@[simp] theorem refresh_swapPending : s.refresh.swapPending = s.swapPending := rfl
@[simp] theorem refresh_mixMode : s.refresh.mixMode = s.mixMode := rfl
@[simp] theorem refresh_pendingMode : s.refresh.pendingMode = s.pendingMode := rfl
@[simp] theorem refresh_clip : s.refresh.clip = s.clip := rfl
@[simp] theorem refresh_peak : s.refresh.peak = s.peak := rfl
@[simp] theorem refresh_mixed : s.refresh.mixed = s.mixed := rfl
@[simp] theorem refresh_outputs : s.refresh.outputs = s.outputs := rfl
@[simp] theorem refresh_inputs : s.refresh.inputs = s.inputs := rfl
@[simp] theorem refresh_holds : s.refresh.holds = s.holds := rfl
@[simp] theorem refresh_phrases : s.refresh.phrases = s.phrases := rfl
@[simp] theorem refresh_verifyQueue : s.refresh.verifyQueue = s.verifyQueue := rfl
@[simp] theorem refresh_verifySummed : s.refresh.verifySummed = s.verifySummed := rfl
@[simp] theorem refresh_verifySum : s.refresh.verifySum = s.verifySum := rfl
@[simp] theorem refresh_memory : s.refresh.memory = s.memory := rfl
@[simp] theorem refresh_players : s.refresh.players = s.players := rfl
@[simp] theorem refresh_programs : s.refresh.programs = s.programs := rfl
@[simp] theorem refresh_triggers : s.refresh.triggers = s.triggers := rfl
@[simp] theorem refresh_alarms : s.refresh.alarms = s.alarms := rfl
@[simp] theorem refresh_channels : s.refresh.channels = s.channels := rfl
@[simp] theorem refresh_supervision : s.refresh.supervision = s.supervision := rfl
@[simp] theorem refresh_severities : s.refresh.severities = s.severities := rfl
@[simp] theorem refresh_actions : s.refresh.actions = s.actions := rfl
@[simp] theorem refresh_linkTimer : s.refresh.linkTimer = s.linkTimer := rfl
@[simp] theorem refresh_activeFaults : s.refresh.activeFaults = s.activeFaults := rfl
@[simp] theorem refresh_faults : s.refresh.faults = s.faults := rfl
@[simp] theorem refresh_faultOuts : s.refresh.faultOuts = s.faultOuts := rfl
@[simp] theorem refresh_spares : s.refresh.spares = s.spares := rfl
@[simp] theorem refresh_spareWait : s.refresh.spareWait = s.spareWait := rfl
@[simp] theorem refresh_relay : s.refresh.relay = s.relay := rfl
@[simp] theorem refresh_seq : s.refresh.seq = s.seq := rfl
@[simp] theorem refresh_pending : s.refresh.pending = s.pending := rfl

end Sys2Proof.Machine.State
end

