-- ==== Sys2Proof/Laws/Requests.lean ====
section
/-! SUPPORT. What a request command comes to: taken with the turn, left waiting without it, answered BUSY behind another; and what
an answer leaves (10 R182 to R185). -/

namespace Sys2Proof.Machine

set_option Elab.async false

/-- What `mayTake` says. -/
theorem State.mayTake_iff (s : State) (p : Port) (o : Owner) :
    s.mayTake p o = true ↔
      (s.port p).inProgress = none ∧ (s.port p).answers.length < 8 ∧ s.hasTurn p o = true := by
  simp [State.mayTake, and_assoc]

/-- The turn depends on the other port and the marks alone. -/
@[simp] theorem State.hasTurn_setPort (s : State) (p : Port) (r : PortRec) (o : Owner) :
    (s.setPort p r).hasTurn p o = s.hasTurn p o := by
  simp [State.hasTurn]

/-- The mark that a turn leaves depends on the other port and the marks alone. -/
theorem State.serve_setPort (s : State) (p : Port) (r : PortRec) (o : Owner) :
    (s.setPort p r).serve p o = (s.serve p o).setPort p r := by cases p <;> rfl

/-- A port served while the other waits for nothing there leaves the marks as they are. -/
theorem State.serve_alone {s : State} {p : Port} {o : Owner} (h : (s.port p.other).asks o = false) : s.serve p o = s := by
  simp [State.serve, h]

@[simp] theorem State.port_serve (s : State) (p q : Port) (o : Owner) : (s.serve p o).port q = s.port q := by cases q <;> rfl

/-- A request that its owner may take is taken, as the port's request in progress, after the owner's mark is set. -/
theorem State.request_of_mayTake {s : State} {p : Port} {o : Owner} (c : Instr) (take : State → State)
    (h : s.mayTake p o = true) : s.request p o c take = take (s.begun p o c .waiting) := by
  obtain ⟨h1, h2, h3⟩ := (State.mayTake_iff s p o).1 h
  have hp : (s.port p).present c = { s.port p with inProgress := some ⟨c, .waiting⟩ } := by
    simp [PortRec.present, PortRec.waits, PortRec.command, PortRec.hasPlace, h1, Config.answerPlaces, Nat.not_le.2 h2]
  simp [State.request, hp, PortRec.waits, h3, State.begun, State.serve_setPort]

/-- A request that comes without the owner's turn waits, and nothing else changes. -/
theorem State.request_without_turn {s : State} {p : Port} {o : Owner} (c : Instr) (take : State → State)
    (h1 : (s.port p).inProgress = none) (h2 : (s.port p).answers.length < 8) (h3 : s.hasTurn p o = false) :
    s.request p o c take = s.setPort p { s.port p with inProgress := some ⟨c, .waiting⟩ } := by
  have hp : (s.port p).present c = { s.port p with inProgress := some ⟨c, .waiting⟩ } := by
    simp [PortRec.present, PortRec.waits, PortRec.command, PortRec.hasPlace, h1, Config.answerPlaces, Nat.not_le.2 h2]
  simp [State.request, hp, h3]

/-- A request that comes behind another is answered BUSY, and nothing else changes. -/
theorem State.request_behind {s : State} {p : Port} {o : Owner} {c : Instr} {ip : InProgress} (take : State → State)
    (h1 : (s.port p).inProgress = some ip) (h2 : ip ≠ ⟨c, .waiting⟩) (h3 : (s.port p).answers.length < 7) :
    s.request p o c take = s.queued p c .busy [] := by
  have hp : (s.port p).present c = { s.port p with answers := (s.port p).answers ++ [⟨c.code, c.tag, .busy, []⟩] } := by
    simp [PortRec.present, PortRec.waits, PortRec.command, PortRec.hasPlace, PortRec.push, h1, h2, Config.answerPlaces,
      show ¬ 8 ≤ (s.port p).answers.length + 1 by omega]
  simp [State.request, hp, PortRec.waits, h1, h2, State.queued]

/-- An answer to a request in progress queues it and ends the request. -/
theorem State.answer_inProgress {s : State} {p : Port} {ip : InProgress} (h : (s.port p).inProgress = some ip) (a : AnswerCode)
    (data : List Byte) :
    s.answer p a data = s.setPort p { s.port p with
      inProgress := none, answers := (s.port p).answers ++ [⟨ip.command.code, ip.command.tag, a, data⟩] } := by
  simp [State.answer, PortRec.result, h]

/-- An answer without a request in progress is none. -/
theorem State.answer_none {s : State} {p : Port} (h : (s.port p).inProgress = none) (a : AnswerCode) (data : List Byte) :
    s.answer p a data = s := by
  simp [State.answer, PortRec.result, h]

/-- The record of the port in a state where a request has just been taken. -/
@[simp] theorem State.begun_port (s : State) (p : Port) (o : Owner) (c : Instr) (ph : Phase) :
    (s.begun p o c ph).port p = { s.port p with inProgress := some ⟨c, ph⟩ } := by simp [State.begun]

/-- A request taken whole: its answer at once leaves the reply and nothing else. -/
theorem State.begun_answer {s : State} {p : Port} {o : Owner} (h : s.mayTake p o = true) (c : Instr) (a : AnswerCode)
    (data : List Byte) : (s.begun p o c .waiting).answer p a data = s.replied p o c a data := by
  obtain ⟨h1, -, -⟩ := (State.mayTake_iff s p o).1 h
  rw [State.answer_inProgress (ip := ⟨c, .waiting⟩) (by simp)]
  simp [State.begun, State.replied, State.queued, h1]

/-- A request that its owner refuses leaves the refusal's answer and nothing else. -/
theorem State.request_refused {s : State} {p : Port} {o : Owner} {c : Instr} {take : State → State} {a : AnswerCode}
    (h : s.mayTake p o = true) (ht : take (s.begun p o c .waiting) = (s.begun p o c .waiting).refuse p a) :
    s.request p o c take = s.replied p o c a [] := by
  rw [State.request_of_mayTake c take h, ht]; exact State.begun_answer h c a []

/-- Entering a spanning phase changes the phase alone. -/
theorem State.begun_enterPhase (s : State) (p : Port) (o : Owner) (c : Instr) (ph : Phase) :
    (s.begun p o c .waiting).enterPhase p ph = s.begun p o c ph := by
  simp [State.enterPhase, State.begun]

end Sys2Proof.Machine
end

