-- ==== Sys2Proof/Laws/Standing.lean ====
section
/-! SUPPORT. What the shared operations on calls, listings and players leave as it is: the standing part of the state; and for the
settling of an event without a pending start, every endpoint. -/

namespace Sys2Proof.Machine.State

set_option Elab.async false

/-! ## Single updates -/

@[simp] theorem setRecord_standing (s : State) (i : Nat) (c : Option Call) : (s.setRecord i c).standing = s.standing := rfl
@[simp] theorem setPlayer_standing (s : State) (i : Nat) (x : Player) : (s.setPlayer i x).standing = s.standing := rfl
@[simp] theorem freePlayer_standing (s : State) (i : Nat) : (s.freePlayer i).standing = s.standing := rfl
@[simp] theorem setAlarmSeq_standing (s : State) (i : Nat) (x : AlarmSeq) : (s.setAlarmSeq i x).standing = s.standing := rfl
@[simp] theorem nextSeq_standing (s : State) : s.nextSeq.standing = s.standing := rfl
@[simp] theorem refresh_standing (s : State) : s.refresh.standing = s.standing := rfl
@[simp] theorem freeRecord_standing (s : State) (h : Handle) : (s.freeRecord h).standing = s.standing := rfl
@[simp] theorem stopExpiry_standing (s : State) (h : Handle) : (s.stopExpiry h).standing = s.standing := rfl
@[simp] theorem takeSlot_standing (s : State) (i : Nat) (c : Call) : (s.takeSlot i c).standing = s.standing := rfl
@[simp] theorem updCall_standing (s : State) (h : Handle) (f : Call → Call) : (s.updCall h f).standing = s.standing := by
  unfold updCall; split <;> rfl
@[simp] theorem setHold_standing (s : State) (o : Nat) (x : Hold) (hx : x.delay = (s.hold o).delay) :
    (s.setHold o x).standing = s.standing := by
  have h : (s.holds.set o x).map Hold.standing = s.holds.map Hold.standing :=
    Table.map_set_same _ _ _ _ .initial (by simp only [Hold.standing, hx]; rfl)
  simp only [standing, setHold, h]
@[simp] theorem setEp_standing (s : State) (e : Nat) (x : Endpoint) (hx : x.standing = (s.ep e).standing) :
    (s.setEp e x).standing = s.standing := by
  have h : (s.endpoints.set e x).map Endpoint.standing = s.endpoints.map Endpoint.standing :=
    Table.map_set_same _ _ _ _ (Endpoint.initial 0) hx
  simp only [standing, setEp, h]
@[simp] theorem setPort_standing (s : State) (p : Port) (r : PortRec) (hr : r.standing = (s.port p).standing) :
    (s.setPort p r).standing = s.standing := by
  cases p <;> simp_all [standing, setPort, port]
@[simp] theorem answer_standing (s : State) (p : Port) (a : AnswerCode) (d : List Byte) : (s.answer p a d).standing = s.standing := by
  refine setPort_standing s p _ ?_
  unfold PortRec.result; split <;> rfl

end Sys2Proof.Machine.State

namespace Sys2Proof.Machine.Hold

/-! ## Hold outputs -/

@[simp] theorem afterRemoval_delay (h : Hold) : h.afterRemoval.delay = h.delay := by
  unfold afterRemoval; split
  · split <;> rfl
  · rfl
@[simp] theorem begins_delay (h : Hold) (c : Handle) (e : Nat) : (h.begins c e).delay = h.delay := by
  unfold begins; split <;> rfl
@[simp] theorem ends_delay (h : Hold) (c : Handle) (e : Nat) : (h.ends c e).delay = h.delay := by
  unfold ends; split <;> simp
@[simp] theorem unbind_delay (h : Hold) (c : Handle) : (h.unbind c).delay = h.delay := by simp [unbind]

end Sys2Proof.Machine.Hold

namespace Sys2Proof.Machine.State

set_option Elab.async false

@[simp] theorem unbindHold_standing (s : State) (h : Handle) (c : Call) : (s.unbindHold h c).standing = s.standing := by
  unfold unbindHold; split
  · exact setHold_standing _ _ _ (by simp)
  · rfl
@[simp] theorem takeInterruption_standing (e : Nat) (s : State) (r : Report) : (s.takeInterruption e r).standing = s.standing := by
  unfold takeInterruption; split
  · exact setHold_standing _ _ _ (by simp)
  · exact setHold_standing _ _ _ (by simp)
  · rfl

/-- A fold of a step that keeps a property of the state keeps it. -/
theorem foldl_keep {α β : Type} (g : State → β) (f : State → α → State) (hf : ∀ s x, g (f s x) = g s) (l : List α) (s : State) :
    g (l.foldl f s) = g s := by
  induction l generalizing s with
  | nil => rfl
  | cons x l ih => rw [List.foldl_cons, ih, hf]

/-! ## The end of a call (02 R26) -/

@[simp] theorem endAlarm_standing (s : State) (h : Handle) : (s.endAlarm h).standing = s.standing := by
  have ht : (s.triggers.map fun t => if t.owned = some h then { t with owned := none } else t).map Trigger.standing =
      s.triggers.map Trigger.standing := by
    rw [Table.map_map]
    refine Table.map_congr fun x _ => ?_
    simp only [Function.comp_apply]
    split <;> rfl
  simp only [endAlarm, standing, setAlarmSeq, ht]
@[simp] theorem freePlayerOf_standing (s : State) (h : Handle) : (s.freePlayerOf h).standing = s.standing := by
  unfold freePlayerOf; split <;> simp
@[simp] theorem withdrawAt_standing (h : Handle) (cl : ListClass) (s : State) (e : Nat) :
    (s.withdrawAt h cl e).standing = s.standing := by
  unfold withdrawAt; split
  · simp only []
    rw [foldl_keep standing _ (takeInterruption_standing e), setEp_standing]
    simp
  · rfl
@[simp] theorem withdraw_standing (s : State) (h : Handle) (cl : ListClass) : (s.withdraw h cl).standing = s.standing :=
  foldl_keep standing _ (fun s e => withdrawAt_standing h cl s e) _ s
@[simp] theorem answerStopped_standing (s : State) (h : Handle) (t : CallType) (sw : Sweep) (r : EndReason) :
    (s.answerStopped h t sw r).standing = s.standing := by
  unfold answerStopped; split <;> simp
@[simp] theorem enterEnding_standing (s : State) (h : Handle) (c : Call) (r : EndReason) :
    (s.enterEnding h c r).standing = s.standing := by
  unfold enterEnding; simp only []; split <;> (try rw [answerStopped_standing]) <;> split <;> simp
/-- The end of a call moves nothing of the standing part. -/
@[simp] theorem endCall_standing (s : State) (h : Handle) (r : EndReason) : (s.endCall h r).standing = s.standing := by
  unfold endCall; split
  · split <;> simp
  · rfl

/-! ## Reports and events at an endpoint (03 R58) -/

@[simp] theorem lastLoss_standing (s : State) (h : Handle) (k : Cause) : (s.lastLoss h k).standing = s.standing := by
  unfold lastLoss; split
  · rfl
  · split
    · split <;> simp
    · rfl
@[simp] theorem takeReport_standing (e : Nat) (s : State) (r : Report) : (s.takeReport e r).standing = s.standing := by
  unfold takeReport; split <;> simp
/-- An event at an endpoint that keeps the endpoint's standing part keeps the state's. -/
theorem atEndpoint_standing (s : State) (e : Nat) (f : EpCtx → Endpoint → Endpoint × List Report)
    (hf : ∀ x ep, (f x ep).1.standing = ep.standing) : (s.atEndpoint e f).standing = s.standing := by
  unfold atEndpoint
  simp only []
  rw [foldl_keep standing _ (takeReport_standing e), setEp_standing]
  exact hf _ _

/-! ## Settling (02 R27; 07 R134, R137) -/

@[simp] theorem endFadedAt_standing (s : State) (h : Handle) : (s.endFadedAt h).standing = s.standing := by
  unfold endFadedAt; split
  · split <;> rfl
  · rfl
@[simp] theorem endFaded_standing (s : State) : s.endFaded.standing = s.standing :=
  foldl_keep standing _ endFadedAt_standing _ s
@[simp] theorem pauseMessage_standing (s : State) (h : Handle) (m : MessagePart) : (s.pauseMessage h m).standing = s.standing := by
  unfold pauseMessage; rw [updCall_standing]; split <;> rfl
@[simp] theorem pauseIfUnheard_standing (s : State) (h : Handle) : (s.pauseIfUnheard h).standing = s.standing := by
  unfold pauseIfUnheard; split
  · split
    · split <;> simp
    · rfl
  · rfl
@[simp] theorem pauseUnheard_standing (s : State) : s.pauseUnheard.standing = s.standing :=
  foldl_keep standing _ pauseIfUnheard_standing _ s
@[simp] theorem giveToMessage_standing (s : State) (i : Nat) (h : Handle) (m : MessagePart) :
    (s.giveToMessage i h m).standing = s.standing := by simp [giveToMessage]
@[simp] theorem serveRounds_standing (n : Nat) (s : State) : (serveRounds n s).standing = s.standing := by
  induction n generalizing s with
  | zero => rfl
  | succ n ih =>
    unfold serveRounds; split
    · split
      · rw [ih, giveToMessage_standing]
      · rfl
    · rfl
@[simp] theorem servePlayers_standing (s : State) : s.servePlayers.standing = s.standing := serveRounds_standing 4 s
@[simp] theorem releasePlayer_standing (s : State) (i : Nat) : (s.releasePlayer i).standing = s.standing := by simp [releasePlayer]
@[simp] theorem settleCalls_standing (s : State) : s.settleCalls.standing = s.standing := by simp [settleCalls]

/-! ## Alarms (08) -/

@[simp] theorem markSubstituted_standing (s : State) (h : Handle) : (s.markSubstituted h).standing = s.standing := by
  simp [markSubstituted]
@[simp] theorem playerForAlarm_standing (s : State) : s.playerForAlarm.1.standing = s.standing := by
  unfold playerForAlarm; split
  · rfl
  · split
    · split <;> simp
    · rfl
@[simp] theorem beginPhrase_standing (s : State) (h : Handle) (rep idx id : Nat) : (s.beginPhrase h rep idx id).standing = s.standing := by
  unfold beginPhrase; simp only [setAlarmSeq_standing]; split <;> simp
@[simp] theorem beginStep_standing (s : State) (h : Handle) (g : AlarmProgram) (rep idx : Nat) :
    (s.beginStep h g rep idx).standing = s.standing := by
  unfold beginStep; split
  · rfl
  · rfl
  · rfl
  · split <;> simp
@[simp] theorem displace_standing (s : State) (h : Handle) (c : Call) : (s.displace h c).1.standing = s.standing := by
  unfold displace; split <;> simp
@[simp] theorem openAlarm_standing (s : State) (p : Port) (id : Nat) (g : AlarmProgram) (sw : Sweep) (i : Nat) :
    (s.openAlarm p id g sw i).standing = s.standing := by simp [openAlarm]
theorem obtainAlarmSlot_standing {s s' : State} {level i : Nat} {d : Option (Handle × EndReason)}
    (h : s.obtainAlarmSlot level = some (s', i, d)) : s'.standing = s.standing := by
  unfold obtainAlarmSlot at h
  split at h
  · simp only [Option.some.injEq, Prod.mk.injEq] at h; rw [← h.1]
  · split at h
    · simp only [Option.some.injEq, Prod.mk.injEq] at h; rw [← h.1]; simp
    · cases h
/-- The start of an alarm moves nothing of the standing part. -/
@[simp] theorem startAlarm_standing (s : State) (p : Port) (id : Nat) (b : Bool) : (s.startAlarm p id b).state.standing = s.standing := by
  unfold startAlarm; split
  · rfl
  · split
    · rfl
    · unfold startProgram; simp only []; split
      · rfl
      · split
        · rfl
        · split
          · rfl
          · simp only [openAlarm_standing]; exact obtainAlarmSlot_standing ‹_›
theorem setTrigger_standing (s : State) (i : Nat) (x : Trigger) (hx : x.standing = (s.trigger i).standing) :
    (s.setTrigger i x).standing = s.standing := by
  have h : (s.triggers.set i x).map Trigger.standing = s.triggers.map Trigger.standing :=
    Table.map_set_same _ _ _ _ (.initial .off false) hx
  simp only [standing, setTrigger, h]
@[simp] theorem tryTrigger_standing (s : State) (i : Nat) : (s.tryTrigger i).standing = s.standing := by
  unfold tryTrigger; simp only [nextSeq_standing]
  rw [setTrigger_standing, startAlarm_standing]
  unfold Trigger.afterTry; split <;> rfl
@[simp] theorem retryPending_standing (s : State) : s.retryPending.standing = s.standing :=
  foldl_keep standing _ tryTrigger_standing _ s
/-- The settling of an event moves nothing of the standing part. -/
@[simp] theorem settle_standing (s0 s : State) : (settle s0 s).standing = s.standing := by
  unfold settle; simp only [refresh_standing]; split <;> simp

/-! ## Without a pending start, settling moves no endpoint and no alarm position -/

/-- What settling leaves as it is when no start is pending. -/
def unsettled (s : State) : Table Endpoint 176 × Table Trigger 4 × Table AlarmSeq 4 × Table Hold 4 :=
  (s.endpoints, s.triggers, s.alarms, s.holds)

theorem updCall_unsettled (s : State) (h : Handle) (f : Call → Call) : (s.updCall h f).unsettled = s.unsettled := by
  unfold updCall; split <;> rfl
theorem endFadedAt_unsettled (s : State) (h : Handle) : (s.endFadedAt h).unsettled = s.unsettled := by
  unfold endFadedAt; split
  · split <;> rfl
  · rfl
theorem pauseMessage_unsettled (s : State) (h : Handle) (m : MessagePart) : (s.pauseMessage h m).unsettled = s.unsettled := by
  unfold pauseMessage; rw [updCall_unsettled]; split <;> rfl
theorem pauseIfUnheard_unsettled (s : State) (h : Handle) : (s.pauseIfUnheard h).unsettled = s.unsettled := by
  unfold pauseIfUnheard; split
  · split
    · split
      · exact pauseMessage_unsettled _ _ _
      · rfl
    · rfl
  · rfl
theorem serveRounds_unsettled (n : Nat) (s : State) : (serveRounds n s).unsettled = s.unsettled := by
  induction n generalizing s with
  | zero => rfl
  | succ n ih =>
    unfold serveRounds; split
    · split
      · rw [ih]; unfold giveToMessage; rw [updCall_unsettled]; rfl
      · rfl
    · rfl
theorem settleCalls_unsettled (s : State) : s.settleCalls.unsettled = s.unsettled := by
  unfold settleCalls servePlayers endFaded pauseUnheard
  rw [serveRounds_unsettled, foldl_keep unsettled _ endFadedAt_unsettled, foldl_keep unsettled _ pauseIfUnheard_unsettled]

theorem retryPending_of_noPending {s : State} (h : s.noPending = true) : s.retryPending = s := by
  have hp : ∀ i, i < 4 → (s.trigger i).pending = none := fun i hi => by
    have := (List.all_eq_true.1 h) _ (Table.get_mem s.triggers i (.initial .off false) hi)
    exact Option.isNone_iff_eq_none.1 this
  have : s.pendingInputs = [] := by
    unfold pendingInputs
    rw [List.filterMap_eq_nil_iff.2]
    · rfl
    · intro i hi; rw [hp i (by simpa using hi)]; rfl
  simp [retryPending, this]

/-- Without a pending start, the settling of an event moves no endpoint, no trigger, no alarm position and no hold output. -/
theorem settle_unsettled {s0 s : State} (h : s.noPending = true) : (settle s0 s).unsettled = s.unsettled := by
  have hn : s.settleCalls.noPending = true := by
    have := congrArg (fun x => x.2.1) (settleCalls_unsettled s)
    simp only [unsettled] at this
    simpa [noPending, this] using h
  unfold settle
  simp only []
  have : ∀ u : State, u.refresh.unsettled = u.unsettled := fun _ => rfl
  rw [this]
  split
  · rw [retryPending_of_noPending hn, settleCalls_unsettled, settleCalls_unsettled]
  · exact settleCalls_unsettled s

end Sys2Proof.Machine.State
end

