-- ==== Sys2Proof/Tests/Slice0.lean ====
section
/-! SUPPORT. Small tests: the check of WellFormed, frames read byte by byte, one step of a command on a small state, and for each
statement of Obligations.lean with hypotheses a state and operands that meet them. -/

namespace Sys2Proof.Tests

open Sys2Proof.Machine

set_option Elab.async false
set_option maxRecDepth 20000

/-! ## Small states -/

/-- The state a command leaves. -/
def after (c : Instr) (s : State) : State :=
  match exec c s with
  | .next t => t
  | .fault _ => s
  | .refused _ => s

/-- The codes and data of a port's answers. -/
def said (s : State) (p : Port) : List (AnswerCode × List Nat) := (s.port p).answers.map fun a => (a.answer, a.data.map BitVec.toNat)

/-- A PAGE on lane 33 at level 5, in a state. -/
def page (st : CallState) (sweep : Option Sweep) : Call :=
  { level := 5, opener := .bridge, locked := false, state := st, gain := 32768, ramp := 0, lanes := [33], sweep, listingCount := 1,
    heardCount := 1, reason := if st.live then none else some .retired, part := .page, openSeq := 1, endSeq := 2 }

/-- A sweep of the Bridge Port over endpoints, with nothing counted yet. -/
def sweepOver (kind : SweepKind) (rest : List Nat) : Sweep :=
  { kind, port := .bridge, answers := true, rest, taken := 0, skipped := 0, bumped := 0, removed := 0, notListed := 0,
    lastLoss := none, displaced := none }

/-- The listing of the call in slot `i`, generation 1, of a type and level. -/
def listing (i : Nat) (t : CallType) (level : Nat) : Listing := ⟨⟨i, 1⟩, t, level, none, false, false, none⟩

/-- The listing with a term at unity. -/
def admitted (i : Nat) (t : CallType) (level : Nat) : Admitted := ⟨listing i t level, ⟨⟨i, 1⟩, t, 32768, 32768, 3, 32768, 32768⟩⟩

/-- The part after power-on, with call `c` of generation 1 in slot `i`, and endpoint record `ep` at number `e`. -/
def scene (i : Nat) (c : Call) (e : Nat) (ep : Endpoint) : State :=
  { State.reset with calls := State.reset.calls.set i ⟨1, some c⟩, endpoints := State.reset.endpoints.set e ep, seq := 3 }

/-- Zone 10 after power-on. -/
def zone : Endpoint := .initial 10

/-- Zone 10 with the call of slot `i` alone in its foreground. -/
def heard (i : Nat) (t : CallType) (level : Nat) : Endpoint := { zone with fg := some (admitted i t level) }

/-- A state has the call of a scene, and each of its endpoints is one of some records or as after power-on. -/
def IsScene (s : State) (i : Nat) (c : Call) (eps : List Endpoint) : Prop :=
  s.calls = State.reset.calls.set i ⟨1, some c⟩ ∧ (∀ x ∈ s.endpoints.cells, x ∈ eps ∨ ∃ k, x = Endpoint.initial k) ∧ i < 64

theorem mem_reset {x : Endpoint} (h : x ∈ State.reset.endpoints.cells) : ∃ k, x = Endpoint.initial k := by
  obtain ⟨k, -, rfl⟩ := List.mem_map.mp h
  exact ⟨_, rfl⟩

theorem isScene_of {s : State} {i : Nat} {c : Call} {e : Nat} {ep : Endpoint}
    (hc : s.calls = State.reset.calls.set i ⟨1, some c⟩) (he : s.endpoints = State.reset.endpoints.set e ep) (hi : i < 64) :
    IsScene s i c [ep] := by
  refine ⟨hc, fun x hx => ?_, hi⟩
  rw [he] at hx
  rcases Table.mem_set hx with rfl | hx
  · exact .inl (List.mem_singleton.mpr rfl)
  · exact .inr (mem_reset hx)

theorem isScene_of_two {s : State} {i : Nat} {c : Call} {e e' : Nat} {ep ep' : Endpoint}
    (hc : s.calls = State.reset.calls.set i ⟨1, some c⟩)
    (he : s.endpoints = (State.reset.endpoints.set e ep).set e' ep') (hi : i < 64) : IsScene s i c [ep, ep'] := by
  refine ⟨hc, fun x hx => ?_, hi⟩
  rw [he] at hx
  rcases Table.mem_set hx with rfl | hx
  · exact .inl (by simp)
  · rcases Table.mem_set hx with rfl | hx
    · exact .inl (by simp)
    · exact .inr (mem_reset hx)

theorem slot_scene {s : State} {i : Nat} {c : Call} {eps : List Endpoint} (h : IsScene s i c eps) (j : Nat) :
    s.slot j = if i = j then ⟨1, some c⟩ else ⟨0, none⟩ := by
  obtain ⟨hc, -, hi⟩ := h
  rw [State.slot, hc, Table.get_set _ _ _ _ _ hi]
  split
  · rfl
  · by_cases hj : j < 64
    · exact Table.get_fill _ _ _ hj
    · exact Table.get_of_le _ _ _ (by omega)

theorem record_scene {s : State} {i : Nat} {c : Call} {eps : List Endpoint} (h : IsScene s i c eps) {j : Nat} {d : Call}
    (hd : (s.slot j).record = some d) : j = i ∧ d = c := by
  rw [slot_scene h] at hd
  split at hd
  · rename_i hij; exact ⟨hij.symm, (Option.some.inj hd).symm⟩
  · cases hd

theorem call_scene {s : State} {i : Nat} {c : Call} {eps : List Endpoint} (h : IsScene s i c eps) : s.call ⟨i, 1⟩ = some c := by
  have := slot_scene h i
  simp only [State.slot, if_true] at this
  simp [State.call, findCall, this]

theorem call_of_scene {s : State} {i : Nat} {c : Call} {eps : List Endpoint} (h : IsScene s i c eps) {k : Handle} {d : Call}
    (hd : s.call k = some d) : k = ⟨i, 1⟩ ∧ d = c := by
  simp only [State.call, findCall] at hd
  have hk := slot_scene h k.slot
  simp only [State.slot] at hk
  rw [hk] at hd
  by_cases hij : i = k.slot
  · simp [hij] at hd
    exact ⟨by cases k; simp_all, hd.2.symm⟩
  · simp [hij] at hd

/-- The listings of a scene are all of its one call. -/
theorem listingsOk_scene {s : State} {i : Nat} {c : Call} {eps : List Endpoint} (h : IsScene s i c eps)
    (h1 : ∀ cl, ∀ ep ∈ eps, ∀ l ∈ ep.listings cl,
      l.type.listClass = cl ∧ l.call = ⟨i, 1⟩ ∧ c.state.live = true ∧ c.type = l.type ∧ c.level = l.level)
    (h2 : ∀ cl, ∀ ep ∈ eps, ((ep.listings cl).map (·.call)).Nodup)
    (h3 : ∀ sw, c.sweep = some sw → sw.kind ≠ .drop → sw.rest.Nodup ∧ ∀ x ∈ sw.rest, x < 176 ∧ (s.ep x).lists (s.handleOf i) = false) :
    s.listingsOk := by
  refine ⟨fun x hx cl l hl => ?_, fun x hx cl => ?_, fun j d sw hd hs hk => ?_⟩
  · rcases h.2.1 x hx with hx | ⟨k, rfl⟩
    · obtain ⟨a, b, d⟩ := h1 cl x hx l hl
      exact ⟨a, c, b ▸ call_scene h, d⟩
    · cases cl <;> simp [Endpoint.listings, Endpoint.slot, Endpoint.wait, Endpoint.initial] at hl
  · rcases h.2.1 x hx with hx | ⟨k, rfl⟩
    · exact h2 cl x hx
    · cases cl <;> simp [Endpoint.listings, Endpoint.slot, Endpoint.wait, Endpoint.initial]
  · obtain ⟨rfl, rfl⟩ := record_scene h hd
    exact h3 sw hs hk

/-- A sweep that answers is the request of its port, and no other request is in progress. -/
theorem sweepsHeld_scene {s : State} {i : Nat} {c : Call} {eps : List Endpoint} (h : IsScene s i c eps)
    (h1 : ∀ sw, c.sweep = some sw → sw.answers = true → ∃ r, (s.port sw.port).inProgress = some ⟨r, .sweeping i⟩)
    (h2 : ∀ p r k, (s.port p).inProgress = some ⟨r, .sweeping k⟩ →
      k = i ∧ ∃ sw, c.sweep = some sw ∧ sw.answers = true ∧ sw.port = p) : s.sweepsHeld := by
  refine ⟨fun j d sw hd hs ha => ?_, fun p r k hk => ?_⟩
  · obtain ⟨rfl, rfl⟩ := record_scene h hd
    exact h1 sw hs ha
  · obtain ⟨rfl, sw, a, b, d⟩ := h2 p r k hk
    exact ⟨c, sw, by rw [slot_scene h]; simp, a, b, d⟩

theorem callsOk_scene {s : State} {i : Nat} {c : Call} {eps : List Endpoint} (h : IsScene s i c eps) (h1 : c.recordOk i)
    (h2 : s.programs = State.reset.programs) : s.callsOk := by
  refine ⟨fun j => ⟨?_, fun d hd => ?_⟩, fun g hg => ?_⟩
  · rw [slot_scene h]; split <;> simp
  · obtain ⟨rfl, rfl⟩ := record_scene h hd
    exact h1
  · rw [h2] at hg
    rcases Table.mem_set hg with hg | hg
    · obtain rfl := Option.some.inj hg; decide
    · simp [Table.fill] at hg

/-- No player is taken and no alarm runs in a scene whose players and alarm records are those after power-on. -/
theorem playersOk_scene {s : State} {i : Nat} {c : Call} {eps : List Endpoint} (h : IsScene s i c eps)
    (hp : s.players = State.reset.players) (ha : s.alarms = State.reset.alarms) (hm : ∀ m k, c.part = .message m → m.player ≠ some k)
    (ho : ∀ sw, c.sweep = some sw → sw.kind = .opening → 0 < sw.taken ∨ sw.rest ≠ []) (hn : ∀ a, c.part ≠ .alarm a) :
    s.playersOk := by
  have hidle : ∀ j, j < 4 → s.player j = .idle := fun j hj => by
    rw [State.player, hp]; exact Table.get_fill _ _ _ hj
  refine ⟨fun j hj _ => hidle j hj, fun j k hj hk => ?_, fun k d m j hd hpart hj => ?_, fun k d sw _ hd hs hk => ?_,
    fun k d a _ hd ha' _ => ?_, fun k x h60 h64 hx => ?_⟩
  · rw [hidle j hj] at hk; cases hk
  · obtain ⟨rfl, rfl⟩ := call_of_scene h hd
    exact absurd hj (hm m j hpart)
  · obtain ⟨rfl, rfl⟩ := record_scene h hd
    exact ho sw hs hk
  · obtain ⟨rfl, rfl⟩ := record_scene h hd
    exact absurd ha' (hn a)
  · have : s.alarmSeq k = .initial := by
      rw [State.alarmSeq, ha]; exact Table.get_fill _ _ _ (by omega)
    rw [this] at hx; cases hx

/-! ## The invariants as checks, for states of several calls -/

/-- Calls of generation 1 in slots, and endpoint records at numbers, after power-on. -/
def cast (cs : List (Nat × Call)) (es : List (Nat × Endpoint)) : State :=
  { State.reset with
    calls := cs.foldl (fun t x => t.set x.1 ⟨1, some x.2⟩) State.reset.calls
    endpoints := es.foldl (fun t x => t.set x.1 x.2) State.reset.endpoints
    seq := 100 }

theorem lt_of_record {s : State} {i : Nat} {c : Call} (h : (s.slot i).record = some c) : i < 64 := by
  by_cases hi : i < 64
  · exact hi
  · rw [State.slot, Table.get_of_le _ _ _ (by omega)] at h; cases h

theorem record_of_call {s : State} {h : Handle} {c : Call} (hc : s.call h = some c) :
    (s.slot h.slot).record = some c ∧ s.handleOf h.slot = h := by
  simp only [State.call, findCall] at hc
  split at hc
  · rename_i hg; exact ⟨hc, by cases h; simp_all [State.handleOf, State.slot]⟩
  · cases hc

/-- `listingsOk` as a check. -/
def listingsCheck (s : State) : Bool :=
  s.endpoints.cells.all (fun ep => [ListClass.foreground, .background].all fun cl =>
    (ep.listings cl).all (fun l => l.type.listClass == cl &&
      (s.call l.call).any fun c => c.state.live && c.type == l.type && c.level == l.level) &&
    decide ((ep.listings cl).map (·.call)).Nodup) &&
  (List.range 64).all fun i => (s.slot i).record.all fun c => c.sweep.all fun sw => sw.kind == .drop ||
    (decide sw.rest.Nodup && sw.rest.all fun e => decide (e < 176) && !(s.ep e).lists (s.handleOf i))

theorem listingsOk_of {s : State} (h : listingsCheck s = true) : s.listingsOk := by
  simp only [listingsCheck, Bool.and_eq_true, List.all_eq_true] at h
  have hcl : ∀ cl : ListClass, cl ∈ [ListClass.foreground, .background] := by intro cl; cases cl <;> simp
  refine ⟨fun ep hep cl l hl => ?_, fun ep hep cl => by simpa using (h.1 ep hep cl (hcl cl)).2, fun i c sw hc hs hk => ?_⟩
  · obtain ⟨a, b⟩ := (by simpa using (h.1 ep hep cl (hcl cl)).1 l hl : l.type.listClass = cl ∧ _)
    refine ⟨a, ?_⟩
    cases hcall : s.call l.call with
    | none => simp [hcall] at b
    | some c => exact ⟨c, rfl, by simpa [hcall, and_assoc] using b⟩
  · have := h.2 i (List.mem_range.mpr (lt_of_record hc))
    simp only [hc, hs, Option.all_some] at this
    simpa [hk] using this

/-- `sweepsHeld` as a check. -/
def sweepsCheck (s : State) : Bool :=
  (List.range 64).all (fun i => (s.slot i).record.all fun c => c.sweep.all fun sw => !sw.answers ||
    (s.port sw.port).inProgress.any fun ip => ip.phase == .sweeping i) &&
  [Port.system, .bridge].all fun p => (s.port p).inProgress.all fun ip =>
    match ip.phase with
    | .sweeping i => (s.slot i).record.any fun c => c.sweep.any fun sw => sw.answers && sw.port == p
    | _ => true

theorem sweepsHeld_of {s : State} (h : sweepsCheck s = true) : s.sweepsHeld := by
  simp only [sweepsCheck, Bool.and_eq_true, List.all_eq_true] at h
  refine ⟨fun i c sw hc hs ha => ?_, fun p r i hp => ?_⟩
  · have := h.1 i (List.mem_range.mpr (lt_of_record hc))
    simp only [hc, hs, Option.all_some, ha, Bool.not_true, Bool.false_or] at this
    cases hip : (s.port sw.port).inProgress with
    | none => simp [hip] at this
    | some ip => exact ⟨ip.command, by simp [hip] at this; rw [← this]⟩
  · have := h.2 p (by cases p <;> simp)
    simp only [hp, Option.all_some] at this
    cases hr : (s.slot i).record with
    | none => simp [hr] at this
    | some c =>
      cases hs : c.sweep with
      | none => simp [hr, hs] at this
      | some sw => exact ⟨c, sw, rfl, hs, by simpa [hr, hs] using this⟩

/-- `callsOk` as a check. -/
def callsCheck (s : State) : Bool :=
  (List.range 64).all (fun i => decide ((s.slot i).gen < 256) && (s.slot i).record.all fun c =>
    @decide (c.recordOk i) (by unfold Call.recordOk; infer_instance)) &&
  s.programs.cells.all fun g => g.all fun g => decide (12 ≤ g.level ∧ g.level ≤ 15)

theorem callsOk_of {s : State} (h : callsCheck s = true) : s.callsOk := by
  simp only [callsCheck, Bool.and_eq_true, List.all_eq_true] at h
  refine ⟨fun i => ⟨?_, fun c hc => ?_⟩, fun g hg => by simpa using h.2 _ hg⟩
  · by_cases hi : i < 64
    · simpa using (h.1 i (List.mem_range.mpr hi)).1
    · rw [State.slot, Table.get_of_le _ _ _ (by omega)]; decide
  · have := (h.1 i (List.mem_range.mpr (lt_of_record hc))).2
    simp only [hc, Option.all_some, decide_eq_true_eq] at this
    exact this

/-- `playersOk` as a check. -/
def playersCheck (s : State) : Bool :=
  (List.range 4).all (fun i =>
    match (s.player i).call with
    | none => s.player i == .idle
    | some h => (s.call h).any fun c => c.state.live &&
        match c.part with
        | .message m => c.state == .active && m.player == some i && m.playback == .playing
        | .alarm _ => (s.alarmSeq h.slot).position.any (·.player == some i)
        | _ => false) &&
  ((List.range 64).all (fun i => (s.slot i).record.all fun c =>
    (match c.part with
      | .message m => m.player.all fun j => decide (j < 4) && (s.player j).call == some (s.handleOf i)
      | _ => true) &&
    (decide (i < 60) || ((c.sweep.all fun sw => sw.kind != .opening || decide (0 < sw.taken) || !sw.rest.isEmpty) &&
      match c.part with
      | .alarm a => c.state == .ended || (s.program a.program).isSome
      | _ => true))) &&
  [60, 61, 62, 63].all fun k => (s.alarmSeq k).position.all fun x =>
    (s.slot k).record.any (fun c => c.state.live && c.type == .alarm) &&
    x.player.all fun i => x.kind == .phrase && decide (i < 4) && (s.player i).call == some (s.handleOf k))

theorem playersOk_of {s : State} (h : playersCheck s = true) : s.playersOk := by
  simp only [playersCheck, Bool.and_eq_true, List.all_eq_true] at h
  obtain ⟨hp, hc, ha⟩ := h
  refine ⟨fun i hi hn => ?_, fun i k hi hk => ?_, fun k c m i hk hm hi => ?_, fun k c sw h60 hr hs ho => ?_,
    fun k c a h60 hr ha' he => ?_, fun k x h60 h64 hx => ?_⟩
  · simpa [hn] using hp i (List.mem_range.mpr hi)
  · have := hp i (List.mem_range.mpr hi)
    simp only [hk] at this
    cases hcall : s.call k with
    | none => simp [hcall] at this
    | some c =>
      simp only [hcall, Option.any_some, Bool.and_eq_true] at this
      refine ⟨c, rfl, this.1, ?_⟩
      cases hpart : c.part with
      | message m => exact .inl ⟨m, rfl, by simpa [hpart, and_assoc] using this.2⟩
      | alarm a =>
        cases hx : (s.alarmSeq k.slot).position with
        | none => simp [hpart, hx] at this
        | some x => exact .inr ⟨a, x, rfl, rfl, by simpa [hpart, hx] using this.2⟩
      | page => simp [hpart] at this
      | program _ _ => simp [hpart] at this
      | talk _ => simp [hpart] at this
  · obtain ⟨hr, hh⟩ := record_of_call hk
    have := hc k.slot (List.mem_range.mpr (lt_of_record hr))
    simp only [hr, Option.all_some, hm, hi, Bool.and_eq_true, hh] at this
    simpa using this.1
  · have := hc k (List.mem_range.mpr (lt_of_record hr))
    simp only [hr, Option.all_some, hs, Bool.and_eq_true] at this
    have h60' : ¬ k < 60 := by omega
    simp only [h60', decide_false, Bool.false_or, Bool.and_eq_true] at this
    simpa [ho] using this.2.1
  · have := hc k (List.mem_range.mpr (lt_of_record hr))
    have h60' : ¬ k < 60 := by omega
    simp only [hr, Option.all_some, h60', decide_false, Bool.false_or, Bool.and_eq_true, ha'] at this
    simpa [he] using this.2.2
  · have := ha k (by simp; omega)
    simp only [hx, Option.all_some, Bool.and_eq_true] at this
    refine ⟨?_, fun i hi => by simpa [hi, and_assoc] using this.2⟩
    cases hr : (s.slot k).record with
    | none => simp [hr] at this
    | some c =>
      have h1 := this.1
      simp only [hr, Option.any_some, Bool.and_eq_true, beq_iff_eq] at h1
      cases hpart : c.part <;> simp [Call.type, hpart] at h1
      exact ⟨c, _, rfl, hpart, h1⟩

/-- `countsFollow` as a check. -/
def countsCheck (s : State) : Bool :=
  (List.range 64).all fun i => (s.slot i).record.all fun c =>
    c.listingCount == s.listingCount (s.handleOf i) && (c.heardCount == s.heardCount (s.handleOf i) &&
      match c.part with
      | .alarm a => a.unserved == s.unservedCount (s.handleOf i)
      | _ => true)

theorem countsFollow_of {s : State} (h : countsCheck s = true) : s.countsFollow := by
  intro i c hc
  have := List.all_eq_true.mp h i (List.mem_range.mpr (lt_of_record hc))
  simp only [hc, Option.all_some, Bool.and_eq_true, beq_iff_eq] at this
  exact ⟨this.1, this.2.1, fun a ha => by simpa [ha] using this.2.2⟩

/-- The spare channels. -/
def spareChannels : List Nat := (List.range 16).map (· + 144)

theorem mem_spareChannels {c : Nat} : c ∈ spareChannels ↔ 144 ≤ c ∧ c < 160 := by
  simp only [spareChannels, List.mem_map, List.mem_range]
  exact ⟨by rintro ⟨k, hk, rfl⟩; omega, fun ⟨h1, h2⟩ => ⟨c - 144, by omega, by omega⟩⟩

/-- `zoneOk` as a check. -/
def zoneCheck (s : State) (z : Nat) : Bool :=
  match (s.ep z).service with
  | .inService => decide ((s.ep z).channel = z ∧ (s.ep z).movingTo = none ∧ (s.ep z).switchTimer = .stopped)
  | .fallback => decide (144 ≤ (s.ep z).channel ∧ (s.ep z).channel < 160 ∧ s.spareOf (s.ep z).channel = some z ∧
      (s.ep z).movingTo = none ∧ (s.ep z).switchTimer = .stopped)
  | .switching => (s.ep z).switchTimer.isRunning &&
      spareChannels.any fun sp => decide (s.spareOf sp = some z ∧ ((s.ep z).movingTo = some z ∨ (s.ep z).movingTo = some sp))
  | .outOfService => decide ((s.ep z).channel = z ∧ (s.ep z).movingTo = none ∧ (s.ep z).switchTimer = .stopped ∧
      ∃ w ∈ s.spareWait, w.zone = z)

theorem zoneOk_of {s : State} {z : Nat} (h : zoneCheck s z = true) : s.zoneOk z := by
  cases hv : (s.ep z).service <;> simp only [zoneCheck, hv] at h <;> simp only [State.zoneOk, hv]
  · simpa using h
  · rw [Bool.and_eq_true, List.any_eq_true] at h
    obtain ⟨ht, sp, hsp, hd⟩ := h
    obtain ⟨h1, h2⟩ := of_decide_eq_true hd
    obtain ⟨h144, h160⟩ := mem_spareChannels.mp hsp
    rcases h2 with h2 | h2
    · exact ⟨ht, sp, z, h144, h160, h1, h2, .inl rfl⟩
    · exact ⟨ht, sp, sp, h144, h160, h1, h2, .inr rfl⟩
  · simpa using h
  · simpa using h

/-- `poolOk` as a check. -/
def poolCheck (s : State) : Bool :=
  spareChannels.all (fun c => (s.spareOf c).all fun z =>
    decide (z < 144 ∧ ((s.ep z).service = .fallback ∨ (s.ep z).service = .switching)) &&
      spareChannels.all fun d => decide (s.spareOf d = some z → d = c)) &&
  (s.spareWait.all (fun w => decide (w.zone < 144 ∧ (s.ep w.zone).service = .outOfService)) &&
    (decide (s.spareWait.map (·.zone)).Nodup && (List.range 144).all (zoneCheck s)))

theorem poolOk_of {s : State} (h : poolCheck s = true) : s.poolOk := by
  simp only [poolCheck, Bool.and_eq_true, List.all_eq_true] at h
  obtain ⟨h1, h2, h3, h4⟩ := h
  refine ⟨fun c z ha hb hz => ?_, fun w hw => of_decide_eq_true (h2 w hw), of_decide_eq_true h3,
    fun z hz => zoneOk_of (h4 z (List.mem_range.mpr hz))⟩
  have := h1 c (mem_spareChannels.mpr ⟨ha, hb⟩)
  simp only [hz, Option.all_some, Bool.and_eq_true, List.all_eq_true, decide_eq_true_eq] at this
  exact ⟨this.1.1, this.1.2, fun d hc hd => this.2 d (mem_spareChannels.mpr ⟨hc, hd⟩)⟩

/-! ## WellFormed: for each check a term that it refuses -/

/-- OPEN_CALL's fields of a PAGE on lane 33 to zone 10. -/
def pageFields : OpenFields :=
  { type := 1, level := 5, gain := none, ramp := some 0, lane1 := 33, lane2 := 255, holdLine := 255, holdLevel := none, duplex := 0,
    repeatCount := 0, repeatGap := 0, phraseCount := 0, phraseIds := [0, 0, 0, 0, 0, 0, 0, 0], targets := [⟨1, 10, 0, 0⟩] }

/-- DEFINE_ALARM's fields of a warble of one second to everywhere. -/
def alarmFields : AlarmFields :=
  { level := 13, shape := 1, f1 := 500, f2 := 1000, toneLevel := 20000, repeatCount := 2, steps := [⟨0, 1000⟩],
    targets := [⟨8, 0, 0, 0⟩] }

/-- A silent frame with every marker. -/
def silent : FrameInput := ⟨List.replicate 64 0, [true, true, true, true]⟩

theorem test_wellFormed_accepts :
    (Instr.openCall .bridge 7 pageFields).wellFormed = true ∧
    (Instr.defineAlarm .bridge 7 3 0 (some alarmFields)).wellFormed = true ∧
    (Instr.audioFrameBoundary silent).wellFormed = true ∧ (Instr.verifyBlockRead 256).wellFormed = true := by decide

theorem test_wellFormed_tag : ([.status .system 256, .bankSwap .system 256, .clearCalls .bridge 256] : List Instr).all
    (fun c => !c.wellFormed) = true := by decide

theorem test_wellFormed_endpoint_requests : ([.setEndpoint .bridge 0 256 none none none none,
    .setEndpoint .bridge 0 0 (some 256) none none none, .setEndpoint .bridge 0 0 none (some 256) none none,
    .setEndpoint .bridge 0 0 none none (some 256) none, .setEndpoint .bridge 0 0 none none none (some 65536),
    .setLocalTrim .bridge 0 256 0, .setLocalTrim .bridge 0 0 65536, .setDeck .bridge 0 256 0 0, .setDeck .bridge 0 0 256 0,
    .setDeck .bridge 0 0 0 256, .queryEndpoint .bridge 0 256, .setBank .bridge 0 256 [] none none,
    .setBank .bridge 0 0 [⟨256, 0, 0, 0⟩] none none, .setBank .bridge 0 0 [] (some 65536) none,
    .setBank .bridge 0 0 [] none (some 65536), .setMixMode .bridge 0 256, .setHold .bridge 0 256 none,
    .setHold .bridge 0 0 (some 65536)] : List Instr).all (fun c => !c.wellFormed) = true := by decide

theorem test_wellFormed_long_list : (Instr.addTargets .bridge 0 ⟨0, 0⟩ (List.replicate 128 ⟨1, 0, 0, 0⟩)).wellFormed = false ∧
    (Instr.dropTargets .bridge 0 ⟨0, 0⟩ (List.replicate 128 ⟨1, 0, 0, 0⟩)).wellFormed = false := by decide +kernel

theorem test_wellFormed_open : ([{ pageFields with type := 256 }, { pageFields with level := 256 },
    { pageFields with gain := some 65536 }, { pageFields with ramp := some 256 }, { pageFields with lane1 := 256 },
    { pageFields with lane2 := 256 }, { pageFields with holdLine := 256 }, { pageFields with holdLevel := some 256 },
    { pageFields with duplex := 256 }, { pageFields with repeatCount := 256 }, { pageFields with repeatGap := 65536 },
    { pageFields with phraseCount := 256 }, { pageFields with phraseIds := [0] },
    { pageFields with phraseIds := [256, 0, 0, 0, 0, 0, 0, 0] }, { pageFields with targets := [⟨0, 256, 0, 0⟩] },
    { pageFields with targets := [⟨0, 0, 256, 0⟩] }, { pageFields with targets := [⟨0, 0, 0, 256⟩] }] : List OpenFields).all
    (fun f => !f.wellFormed) = true := by decide

theorem test_wellFormed_call_requests : ([.addTargets .bridge 0 ⟨256, 0⟩ [], .dropTargets .bridge 0 ⟨0, 256⟩ [],
    .setCallGain .bridge 0 ⟨256, 0⟩ 0 0 0, .setCallGain .bridge 0 ⟨0, 0⟩ 256 0 0, .setCallGain .bridge 0 ⟨0, 0⟩ 0 65536 0,
    .setCallGain .bridge 0 ⟨0, 0⟩ 0 0 256, .retireCall .bridge 0 ⟨256, 0⟩, .queryCall .bridge 0 ⟨256, 0⟩,
    .collectEnd .bridge 0 ⟨256, 0⟩, .setParticipant .bridge 0 ⟨256, 0⟩ 0 0, .setParticipant .bridge 0 ⟨0, 0⟩ 256 0,
    .setParticipant .bridge 0 ⟨0, 0⟩ 0 256] : List Instr).all (fun c => !c.wellFormed) = true := by decide

theorem test_wellFormed_phrases : ([.definePhrase .bridge 0 256 0 0 0, .definePhrase .bridge 0 0 16777216 0 0,
    .definePhrase .bridge 0 0 0 16777216 0, .definePhrase .bridge 0 0 0 0 16777216, .retirePhrase .bridge 0 256,
    .queryPhrase .bridge 0 256, .verifyPhrase .bridge 0 256] : List Instr).all (fun c => !c.wellFormed) = true := by decide

theorem test_wellFormed_alarms : ([.defineAlarm .bridge 0 256 1 none, .defineAlarm .bridge 0 0 256 none,
    .defineAlarm .bridge 0 0 0 none, .defineAlarm .bridge 0 0 1 (some alarmFields),
    .defineAlarm .bridge 0 0 0 (some { alarmFields with level := 256 }),
    .defineAlarm .bridge 0 0 0 (some { alarmFields with shape := 256 }),
    .defineAlarm .bridge 0 0 0 (some { alarmFields with f1 := 65536 }),
    .defineAlarm .bridge 0 0 0 (some { alarmFields with f2 := 65536 }),
    .defineAlarm .bridge 0 0 0 (some { alarmFields with toneLevel := 65536 }),
    .defineAlarm .bridge 0 0 0 (some { alarmFields with repeatCount := 256 }),
    .defineAlarm .bridge 0 0 0 (some { alarmFields with steps := [⟨256, 0⟩] }),
    .defineAlarm .bridge 0 0 0 (some { alarmFields with steps := [⟨0, 65536⟩] }),
    .defineAlarm .bridge 0 0 0 (some { alarmFields with targets := [⟨256, 0, 0, 0⟩] }), .queryAlarm .bridge 0 256,
    .startAlarm .bridge 0 256, .setTrigger .bridge 0 256 0 0, .setTrigger .bridge 0 0 256 0, .setTrigger .bridge 0 0 0 256] :
    List Instr).all (fun c => !c.wellFormed) = true := by decide

theorem test_wellFormed_supervision : ([.setSupervision .bridge 0 (some 256) none none none,
    .setSupervision .bridge 0 none (some 256) none none, .setSupervision .bridge 0 none none (some 256) none,
    .setSupervision .bridge 0 none none none (some 256), .learnLine .bridge 0 256, .queryChannel .bridge 0 256,
    .setSeverity .bridge 0 256 0, .setSeverity .bridge 0 0 256, .setActions .bridge 0 256 none none,
    .setActions .bridge 0 0 (some 256) none, .setActions .bridge 0 0 none (some 256), .faultNext .bridge 0 256,
    .faultAck .bridge 0 256 0 0, .faultAck .bridge 0 0 256 0, .faultAck .bridge 0 0 0 256, .setPin .bridge 0 256 0 0 0,
    .setPin .bridge 0 0 256 0 0, .setPin .bridge 0 0 0 256 0, .setPin .bridge 0 0 0 0 256, .pinAck .bridge 0 256] :
    List Instr).all (fun c => !c.wellFormed) = true := by decide

theorem test_wellFormed_events : ([.sweepDelivery 64, .dropSweepRemoval 64, .audioFrameBoundary { silent with lanes := [] },
    .audioFrameBoundary { silent with lanes := 8388608 :: List.replicate 63 0 },
    .audioFrameBoundary { silent with lanes := -8388609 :: List.replicate 63 0 }, .audioFrameBoundary { silent with markers := [] },
    .acquireTimeout 4, .messagePhraseEnd 4, .repeatGapEnd 4, .alarmPhraseComplete 4, .alarmStepEnd 59, .alarmStepEnd 64,
    .warbleSwitch 59, .warbleSwitch 64, .endExpiry 64 0, .endExpiry 0 256, .holdReleaseTimeout 4, .triggerPinChange 4 true,
    .debounceExpiry 4, .verifyBlockRead 0, .verifyBlockRead 257, .supervisionReading 256 0 false false,
    .supervisionReading 0 4096 false false, .switchTimerExpiry 144] : List Instr).all (fun c => !c.wellFormed) = true := by decide

/-! ## Frames, byte by byte from 10 R178 and the request table -/

theorem test_frame_setEndpoint : decodeRequest .bridge 16 9 [5, 13, 3, 0, 1, 64, 0] =
    some (.setEndpoint .bridge 9 5 (some 3) none (some 1) (some 16384)) := by decide

theorem test_frame_setBank : decodeRequest .system 20 1 [1, 1, 3, 2, 0, 0, 1, 128, 0, 0, 0] =
    some (.setBank .system 1 1 [⟨3, 2, 0, 0⟩] (some 32768) none) := by decide

theorem test_frame_openCall : decodeRequest .bridge 32 2
    [1, 5, 2, 0, 0, 0, 33, 255, 255, 0, 0, 0, 0, 0, 0, 0, 0, 0, 0, 0, 0, 0, 0, 1, 1, 10, 0, 0] =
    some (.openCall .bridge 2 pageFields) := by decide

theorem test_frame_defineAlarm : decodeRequest .bridge 80 4
    [3, 0, 13, 1, 1, 244, 3, 232, 78, 32, 2, 1, 1, 0, 3, 232, 8, 0, 0, 0] =
    some (.defineAlarm .bridge 4 3 0 (some alarmFields)) := by decide

theorem test_frame_definePhrase : decodeRequest .system 64 0 [7, 1, 0, 0, 0, 1, 0, 0, 2, 255] =
    some (.definePhrase .system 0 7 65536 256 767) := by decide

theorem test_frame_wrong_length : decodeRequest .system 64 0 [7, 1, 0, 0, 0, 1, 0, 0, 2] = none ∧
    decodeRequest .system 2 0 [] = none := by decide

theorem test_frame_bytes : (Instr.retireCall .bridge 5 ⟨12, 3⟩).frame = [36, 5, 0, 2, 12, 3] := by decide

/-- No row of the table gives bits, so no word spells a command (log 26). -/
theorem test_no_word : decodeTableWord 32 305419896 = none ∧
    (State.reset.withFetchWord 32 305419896).pending = [] := by decide

/-! ## The queue, resets, ports -/

theorem witness_StepRunsFrontCommand :
    let s : State := { State.reset with pending := [.bankSwap .bridge 1, .resetInput] }
    s.pending = .bankSwap .bridge 1 :: [.resetInput] ∧ State.reset.pending = [] := by decide

theorem test_step_runs_and_idles :
    (match step { State.reset with pending := [.bankSwap .bridge 1, .resetInput] } with
      | .next t => t.swapPending && t.pending == [.resetInput]
      | .fault _ => false
      | .refused _ => false) = true ∧ step State.reset = .next State.reset := by
  refine ⟨by decide +kernel, rfl⟩

theorem test_powerOn : after .powerOn { State.reset with bank := .b, seq := 5, faults := [], relay := [] } = State.reset := by
  decide +kernel

theorem test_resetInput :
    let t := after .resetInput { scene 0 (page .active none) 10 (heard 0 .page 5) with bank := .b, swapPending := true }
    t.slot 0 = ⟨1, none⟩ ∧ t.bank = .b ∧ t.swapPending = false ∧ t.ep 10 = zone ∧ t.relay = [.returnAll] := by decide +kernel

theorem witness_RequestFramesRoundTrip :
    let c : Instr := .openCall .bridge 2 pageFields
    c.wellFormed = true ∧ c.requestPort = some .bridge ∧ decodeRequest .bridge c.code c.tag c.params = some c := by decide

/-- Both clauses of PortsReceiveRequests have their witness at RETIRE_CALL after power-on. -/
theorem witness_PortsReceiveRequests :
    let c : Instr := .retireCall .bridge 5 ⟨12, 3⟩
    let d : Instr := .retireCall .system 5 ⟨12, 3⟩
    c.wellFormed = true ∧ c.requestPort = some .bridge ∧ State.reset.bridge.assembler = .empty ∧
    State.reset.bridge.inProgress = none ∧ State.reset.bridge.answers.length < 8 ∧ d.wellFormed = true ∧
    d.requestPort = some .system ∧ State.reset.system.inProgress = none ∧ State.reset.system.answers = [] := by decide +kernel

theorem test_bridge_receives_request :
    ([36, 5, 0, 2, 12, 3].foldl (fun s b => after (.bridgeByteReceived b false) s) State.reset).bridge =
      { PortRec.initial with inProgress := some ⟨.retireCall .bridge 5 ⟨12, 3⟩, .waiting⟩ } := by decide +kernel

theorem test_system_receives_request :
    (after (.systemPeriodEnd [36, 5, 0, 2, 12, 3, 99] false) State.reset).system =
      { PortRec.initial with inProgress := some ⟨.retireCall .system 5 ⟨12, 3⟩, .waiting⟩ } := by decide +kernel

/-- The Bridge Port with an assembler. -/
def assembling (a : Assembler) : State := { State.reset with bridge := { PortRec.initial with assembler := a } }

/-- Each clause of BridgeLinkBytes: an empty assembler and a 0; a discarding one; an error; a header going on, one of 513 bytes, a
frame going on, a frame complete; a gap at each. -/
theorem witness_BridgeLinkBytes :
    State.reset.bridge.assembler = .empty ∧ (assembling .discarding).bridge.assembler = .discarding ∧
    (assembling (.collecting [36, 5])).bridge.assembler ≠ .discarding ∧ ([36, 5] : List Byte).length + 1 < 4 ∧
    512 < headerLength [1, 1, 2, 1] ∧ headerLength [36, 5, 0, 2] ≤ 512 ∧ 4 < 4 + headerLength [36, 5, 0, 2] ∧
    4 + headerLength [36, 5, 0, 2, 12, 3] ≤ 6 := by decide +kernel

theorem test_bridge_bytes :
    after (.bridgeByteReceived 0 false) State.reset = State.reset ∧
    (after (.bridgeByteReceived 9 true) State.reset).bridge = { PortRec.initial with assembler := .discarding, discarded := 1 } ∧
    (after (.bridgeByteReceived 1 false) (assembling (.collecting [1, 1, 2]))).bridge =
      { PortRec.initial with assembler := .discarding, discarded := 1 } ∧
    (after (.bridgeByteReceived 2 false) (assembling (.collecting [36, 5, 0]))).bridge.assembler = .collecting [36, 5, 0, 2] := by
  decide +kernel

theorem test_bridge_gap :
    (after .bridgeInterbyteTimeout (assembling .discarding)).bridge = .initial ∧
    (after .bridgeInterbyteTimeout (assembling (.collecting [36]))).bridge = { PortRec.initial with discarded := 1 } := by
  decide +kernel

/-- A port with answers waiting and a request in progress or none. -/
def portWith (n : Nat) (ip : Option InProgress) : PortRec :=
  { PortRec.initial with answers := List.replicate n ⟨1, 0, .ok, [7]⟩, inProgress := ip }

theorem test_bridgeAnswerSent :
    (after .bridgeAnswerSent { State.reset with bridge := portWith 2 none }).bridge = portWith 1 none ∧
    after .bridgeAnswerSent State.reset = State.reset := by decide +kernel

/-- Each clause of SystemPeriodCarriesFrames: no byte, a first byte of 0, a frame of three bytes, a header of 513, a frame broken
off, a whole frame; and an answer of six bytes shown and shifted out in a period of six. -/
theorem witness_SystemPeriodCarriesFrames :
    ([0, 5] : List Byte).head? = some 0 ∧ ([36, 5, 0] : List Byte).length < 4 ∧ 512 < headerLength [1, 1, 2, 1] ∧
    ([36, 5, 0, 2, 12] : List Byte).length < 4 + headerLength [36, 5, 0, 2, 12] ∧
    4 + headerLength [36, 5, 0, 2, 12, 3] ≤ ([36, 5, 0, 2, 12, 3] : List Byte).length ∧
    (portWith 1 none).answers.head?.any (fun a => decide (5 + a.data.length ≤ 6)) = true := by decide +kernel

theorem test_system_period :
    (after (.systemPeriodEnd [0, 0, 0, 0, 0, 0] true) { State.reset with system := portWith 2 none }).system = portWith 1 none ∧
    (after (.systemPeriodEnd [0, 0, 0, 0, 0, 0] false) { State.reset with system := portWith 2 none }).system = portWith 2 none ∧
    (after (.systemPeriodEnd [36, 5, 0, 2, 12] false) State.reset).system.discarded = 1 := by decide +kernel

/-- A LEARN_LINE in progress. -/
def learning : InProgress := ⟨.learnLine .bridge 3 20, .learning 20 (.running 240000)⟩

/-- The clauses of CommandPhaseOfFrame: 8 answers; 7 answers and a request in progress; 6 and one; a wrong length; a request; a
STATUS. -/
theorem witness_CommandPhaseOfFrame :
    8 ≤ (portWith 8 none).answers.length + (portWith 8 none).inProgress.isSome.toNat ∧
    8 ≤ (portWith 7 (some learning)).answers.length + (portWith 7 (some learning)).inProgress.isSome.toNat ∧
    (portWith 6 (some learning)).answers.length < 7 ∧ (portWith 6 (some learning)).inProgress = some learning ∧
    (portWith 7 none).answers.length < 8 ∧ decodeRequest .bridge 36 5 [12] = none ∧
    decodeRequest .bridge 36 5 [12, 3] = some (.retireCall .bridge 5 ⟨12, 3⟩) ∧
    decodeRequest .bridge 1 5 [] = some (.status .bridge 5) := by decide +kernel

theorem test_command_phase :
    (State.frameIn { State.reset with bridge := portWith 8 none } .bridge [36, 5, 0, 2, 12, 3]).bridge =
      { portWith 8 none with discarded := 1 } ∧
    ((State.frameIn { State.reset with bridge := portWith 6 (some learning) } .bridge [36, 5, 0, 2, 12, 3]).bridge.answers.map
      (·.answer)).getLast? = some .busy ∧
    (State.frameIn State.reset .bridge [36, 5, 0, 1, 12]).bridge.answers = [⟨36, 5, .badRequest, []⟩] := by decide +kernel

theorem witness_SecondRequestIsBusy :
    let s : State := { State.reset with bridge := portWith 6 (some learning) }
    let c : Instr := .retireCall .bridge 5 ⟨12, 3⟩
    c.requestPort = some .bridge ∧ (s.port .bridge).inProgress = some learning ∧ learning ≠ ⟨c, .waiting⟩ ∧
    (s.port .bridge).answers.length < 7 := by decide +kernel

/-- The System Port asks for the Call Table's turn. -/
def systemAsks : State := { State.reset with system := portWith 0 (some ⟨.retireCall .system 1 ⟨0, 0⟩, .waiting⟩) }

theorem witness_OwnersServePortsInTurn :
    let c : Instr := .retireCall .bridge 5 ⟨12, 3⟩
    (systemAsks.port Port.bridge.other).asks .callTable = true ∧ (systemAsks.port Port.system.other).asks .callTable = false ∧
    c.requestPort = some .bridge ∧ ownerOfCode c.code = some .callTable ∧ (systemAsks.port .bridge).inProgress = none ∧
    (systemAsks.port .bridge).answers.length < 8 ∧ systemAsks.hasTurn .bridge .callTable = false := by decide +kernel

theorem test_request_waits_its_turn :
    (after (.retireCall .bridge 5 ⟨12, 3⟩) systemAsks).bridge.inProgress = some ⟨.retireCall .bridge 5 ⟨12, 3⟩, .waiting⟩ ∧
    said (after (.retireCall .system 1 ⟨0, 0⟩) systemAsks) .system = [(.unknownCall, [])] := by decide +kernel

theorem witness_StatusAnswersItems : (State.reset.port .system).inProgress = none ∧
    (State.reset.port .system).answers.length < 8 := by decide +kernel

theorem test_status : said (after (.status .system 4) { State.reset with system := { PortRec.initial with discarded := 3 } }) .system =
    [(.ok, [0, 0, 0, 0, 0, 0, 0, 0, 0, 0, 0, 0, 0, 0, 0, 0, 0, 0, 3])] := by decide +kernel

/-- After power-on every owner may take a request of either port: the first hypothesis of the statements on requests. -/
theorem witness_mayTake (p : Port) (o : Owner) : State.reset.mayTake p o = true := by
  cases p <;> cases o <;> decide +kernel

/-! ## The Endpoint Table, decks, banks -/

/-- A page is heard at zone 10; nothing else goes on. -/
def paged : State := scene 0 (page .active none) 10 (heard 0 .page 5)

theorem isScene_paged : IsScene paged 0 (page .active none) [heard 0 .page 5] := isScene_of rfl rfl (by decide)

theorem mayTake_paged (p : Port) (o : Owner) : paged.mayTake p o = true := by cases p <;> cases o <;> decide +kernel

theorem sweepsHeld_paged : paged.sweepsHeld :=
  sweepsHeld_scene isScene_paged (fun _ h => by cases h) (fun p _ _ h => by cases p <;> cases h)

theorem listingsOk_paged : paged.listingsOk :=
  listingsOk_scene isScene_paged (fun cl => by cases cl <;> decide) (fun cl => by cases cl <;> decide) (fun _ h => by cases h)

theorem callsOk_paged : paged.callsOk :=
  callsOk_scene isScene_paged (by unfold Call.recordOk; decide) rfl

theorem playersOk_paged : paged.playersOk :=
  playersOk_scene isScene_paged rfl rfl (fun _ _ h => by cases h) (fun _ h => by cases h) (fun _ h => by cases h)

/-- The clauses of SetEndpointRefuses: no field; endpoint 176; a station with a fire zone; fire zone 8; role 3; the alarm trim from
the System Port. -/
theorem witness_SetEndpointRefuses : State.reset.mayTake .system .endpointTable = true ∧ (175 : Nat) < 176 ∧
    (144 ≤ 144 ∧ (some 0 : Option Nat).isSome = true) ∧ (∃ v, some 8 = some v ∧ 7 < v) ∧ (∃ v, some 3 = some v ∧ 2 < v) ∧
    (some 0 : Option Nat).all (· ≤ 7) = true ∧ (some 20000 : Option Nat).isSome = true := by
  refine ⟨by decide +kernel, by decide, by decide, ⟨8, by decide⟩, ⟨3, by decide⟩, by decide, by decide⟩

theorem test_setEndpoint_refused :
    said (after (.setEndpoint .bridge 1 10 none none none none) State.reset) .bridge = [(.badParam, [])] ∧
    said (after (.setEndpoint .bridge 1 144 (some 0) none none none) State.reset) .bridge = [(.badParam, [])] ∧
    said (after (.setEndpoint .system 1 10 (some 7) none none (some 20000)) State.reset) .system = [(.locked, [])] := by
  decide +kernel

theorem witness_SetEndpointStores : paged.mayTake .bridge .endpointTable = true ∧ paged.sweepsHeld ∧
    optCode Role.ofCode (some 2) = some (some .right) ∧ optCode flagOfCode (some 0) = some (some false) ∧
    (paged.ep 10).enabled = true ∧ (10 : Nat) ≤ 175 :=
  ⟨mayTake_paged _ _, sweepsHeld_paged, by decide, by decide, by decide +kernel, by decide⟩

theorem test_setEndpoint :
    let t := after (.setEndpoint .bridge 1 10 (some 7) (some 2) (some 0) (some 40000)) paged
    (t.ep 10).standing = { zone with fireZone := 7, role := .right, enabled := false, alarmTrim := 32768 } ∧
    (t.ep 10).fg = none ∧ said t .bridge = [(.ok, [])] := by
  decide +kernel

theorem test_setLocalTrim :
    ((after (.setLocalTrim .bridge 1 143 40000) State.reset).ep 143).localTrim = 32768 ∧
    ((after (.setLocalTrim .bridge 1 143 0) State.reset).ep 143).localTrim = 0 ∧
    said (after (.setLocalTrim .bridge 1 144 0) State.reset) .bridge = [(.badParam, [])] := by decide +kernel

/-- Deck 4 covers zones 60 to 79. -/
def decked : State := { State.reset with decks := State.reset.decks.set 4 ⟨60, 20⟩ }

/-- The clauses of SetDeckKeepsRunsApart: deck 16; count 145; count 0; a run to zone 144; a run that meets deck 4; one to zone 143. -/
theorem witness_SetDeckKeepsRunsApart : decked.mayTake .bridge .endpointTable = true ∧ (15 : Nat) < 16 ∧ 144 < 145 ∧
    (decked.deck 4).covers 79 = true ∧ (143 < 142 + 3 - 1) ∧
    (∃ k z, k < 16 ∧ k ≠ 5 ∧ (decked.deck k).covers z = true ∧ 79 ≤ z ∧ z < 79 + 1) ∧
    ¬ (∃ k z, k < 16 ∧ k ≠ 5 ∧ (decked.deck k).covers z = true ∧ 80 ≤ z ∧ z < 80 + 64) ∧ 80 + 64 ≤ 144 := by
  refine ⟨by decide +kernel, by decide, by decide, by decide, by decide, ⟨4, 79, by decide⟩, ?_, by decide⟩
  rintro ⟨k, z, hk, -, hc, h1, -⟩
  have : k = 4 ∨ (decked.deck k).covers z = false := by
    by_cases h : k = 4
    · exact .inl h
    · right
      simp only [State.deck, decked, Table.get_set_ne _ _ _ _ _ (Ne.symm h)]
      rw [show (State.reset.decks.get k .initial) = Deck.initial from Table.get_fill _ _ _ hk]
      simp [Deck.covers, Deck.initial]
  rcases this with rfl | h
  · revert hc; simp [State.deck, decked, Deck.covers]; omega
  · rw [h] at hc; cases hc

theorem test_setDeck :
    said (after (.setDeck .system 1 5 79 2) decked) .system = [(.badParam, [])] ∧
    (after (.setDeck .system 1 5 80 64) decked).deckOf 143 = some 5 ∧
    (after (.setDeck .system 1 4 60 18) decked).deckOf 79 = none ∧ (after (.setDeck .system 1 4 0 0) decked).deckOf 60 = none := by
  decide +kernel

/-- The places of a lane in QueryEndpointClearsClip: a station; a zone in service, switching, out of service. -/
theorem witness_QueryEndpointClearsClip : State.reset.mayTake .system .endpointTable = true ∧
    (144 ≤ 175 ∧ 191 = 175 + 16) ∧ ((State.reset.ep 143).service = .inService ∧ (143 : Nat) = (State.reset.ep 143).channel) ∧
    (let s := scene 0 (page .active none) 10 { zone with service := .switching, movingTo := some 150 }
     (s.ep 10).service = .switching ∧ (s.ep 10).movingTo = some 150) ∧
    (let s := scene 0 (page .active none) 10 { zone with service := .outOfService }
     (s.ep 10).service = .outOfService) := by decide +kernel

theorem test_queryEndpoint :
    let t := after (.queryEndpoint .system 1 175) { State.reset with clip := .fill 192 true }
    t.clip = (Table.fill 192 true).set 191 false ∧ (t.port .system).answers.map (·.answer) = [.ok] ∧
    said (after (.queryEndpoint .system 1 176) State.reset) .system = [(.badParam, [])] := by decide +kernel

/-- The clauses of SetBankWritesStandby: a list that fails, one that passes, the active bank, a pending swap, the standby bank. -/
theorem witness_SetBankWritesStandby : State.reset.checkTargets [] = .error .badParam ∧
    State.reset.checkTargets [⟨1, 175, 0, 0⟩] = .ok [.endpoint 175] ∧ Bank.ofCode 0 = some .a ∧ Bank.ofCode 1 = some .b ∧
    State.reset.bank = .a ∧ { State.reset with swapPending := true }.swapPending = true ∧
    State.reset.checkTargets [⟨3, 0, 0, 0⟩] = .error .notReady := by decide +kernel

theorem test_setBank :
    let t := after (.setBank .bridge 1 1 [⟨1, 10, 0, 0⟩, ⟨1, 10, 0, 0⟩] (some 100) (some 40000)) State.reset
    t.ep 10 = { zone with trimB := 100, duckB := 32768 } ∧ t.ep 11 = State.reset.ep 11 ∧ said t .bridge = [(.ok, [1, 1])] ∧
    said (after (.setBank .bridge 1 0 [⟨1, 10, 0, 0⟩] (some 100) none) State.reset) .bridge = [(.notReady, [])] := by
  decide +kernel

theorem test_bankSwap_setMixMode :
    (after (.bankSwap .bridge 1) State.reset).swapPending = true ∧
    (after (.bankSwap .bridge 1) State.reset).bridge.inProgress = some ⟨.bankSwap .bridge 1, .swapping⟩ ∧
    said (after (.bankSwap .bridge 1) { State.reset with swapPending := true }) .bridge = [(.notReady, [])] ∧
    (after (.setMixMode .bridge 1 1) State.reset).pendingMode = some .truncate ∧
    said (after (.setMixMode .bridge 1 2) State.reset) .bridge = [(.badParam, [])] := by decide +kernel

/-! ## Invariants kept by every step -/

/-- A state with every invariant and a request at the front of its queue. -/
def kept : State := { paged with pending := [.retireCall .bridge 1 ⟨0, 1⟩] }

theorem isScene_kept : IsScene kept 0 (page .active none) [heard 0 .page 5] := isScene_of rfl rfl (by decide)

theorem witness_AnswerPlaceKept : kept.answersOk ∧ ∃ t, step kept = .next t :=
  ⟨fun p => by cases p <;> (unfold PortRec.placesOk; decide), _, rfl⟩

theorem witness_PinsAndCountsFollowRecords : kept.pinsFollow ∧ kept.callsOk ∧ kept.listingsOk ∧ kept.countsFollow ∧
    ∃ t, step kept = .next t :=
  ⟨⟨by decide +kernel, by decide +kernel, fun p => by cases p <;> decide +kernel⟩, callsOk_of (by decide +kernel),
    listingsOk_of (by decide +kernel), countsFollow_of (by decide +kernel), _, rfl⟩

theorem witness_PlacesKeepStructure : kept.placesOk ∧ ∃ t, step kept = .next t := by
  refine ⟨fun ep h => ?_, _, rfl⟩
  rcases isScene_kept.2.1 ep h with h | ⟨k, rfl⟩
  · obtain rfl := List.mem_singleton.mp h
    simp [Endpoint.placesOk, Machine.placesOk, heard, zone, admitted, listing, Endpoint.initial, CallType.listClass]
  · simp [Endpoint.placesOk, Machine.placesOk, Endpoint.initial]

theorem witness_ConfigurationStaysInRange : kept.rangesOk ∧ kept.decksOk ∧ kept.settingsOk ∧ ∃ t, step kept = .next t := by
  refine ⟨fun ep h => ?_, fun j k z hj _ hj' _ => ?_, ⟨by decide, by decide, by decide, by decide, ?_, ?_⟩, _, rfl⟩
  · rcases isScene_kept.2.1 ep h with h | ⟨k, rfl⟩
    · obtain rfl := List.mem_singleton.mp h
      unfold Endpoint.rangesOk; decide
    · show (Endpoint.initial 0).rangesOk
      unfold Endpoint.rangesOk; decide
  · rw [State.deck, show (kept.decks.get j .initial) = Deck.initial from Table.get_fill _ _ _ hj'] at hj
    simp [Deck.covers, Deck.initial] at hj
  · intro h hh
    obtain rfl : h = .initial := by simpa [kept, paged, scene, State.reset, Table.fill] using hh
    decide
  · intro g hg
    rcases Table.mem_set (t := Table.fill 8 none) (i := 0) (x := some AlarmProgram.general) hg with hg | hg
    · obtain rfl := Option.some.inj hg
      unfold AlarmProgram.rangesOk; decide
    · simp [Table.fill] at hg

/-- The bounds of a step's duration and phrase id. -/
theorem test_steps_inRange :
    [AlarmStep.tone 10, .tone 60000, .silence 10, .silence 60000, .phrase 0, .phrase 127].all AlarmStep.inRange = true ∧
    [AlarmStep.tone 9, .tone 60001, .silence 9, .silence 60001, .phrase 128].any AlarmStep.inRange = false := by decide

theorem witness_CallRecordsStayInOrder : kept.callsOk ∧ ∃ t, step kept = .next t :=
  ⟨callsOk_scene isScene_kept (by unfold Call.recordOk; decide) rfl, _, rfl⟩

theorem witness_ListingsNameLiveCalls : kept.callsOk ∧ kept.settingsOk ∧ kept.listingsOk ∧ ∃ t, step kept = .next t :=
  ⟨witness_CallRecordsStayInOrder.1, witness_ConfigurationStaysInRange.2.2.1, listingsOk_paged, _, rfl⟩

theorem witness_SweepsHoldTheirPorts : kept.callsOk ∧ kept.sweepsHeld ∧ ∃ t, step kept = .next t :=
  ⟨witness_CallRecordsStayInOrder.1, sweepsHeld_paged, _, rfl⟩

theorem witness_PlayersServeTheirCalls : kept.callsOk ∧ kept.settingsOk ∧ kept.playersOk ∧ ∃ t, step kept = .next t :=
  ⟨witness_CallRecordsStayInOrder.1, witness_ConfigurationStaysInRange.2.2.1, playersOk_paged, _, rfl⟩

/-- A fault entry of channel 20, active, with its fault. -/
def faulty : State :=
  { State.reset with
    activeFaults := [⟨.channel 20, .lineShort, 2, true, 1⟩, ⟨.phrase 3, .phraseBad, 1, true, 2⟩],
    faults := [⟨.channel 20, .lineShort, 2, true, false, false, false, true, 1⟩,
               ⟨.phrase 3, .phraseBad, 1, true, false, true, false, true, 2⟩],
    seq := 3 }

theorem faultsOk_faulty : faulty.faultsOk := by
  refine ⟨by decide, by decide, by decide, by decide, ?_⟩
  decide

/-- Zone 10 is in FALLBACK on spare 144, zone 11 SWITCHING to its primary from spare 159, zone 143 waits, and a reading comes. -/
def pooled : State :=
  { cast [] [(10, { zone with service := .fallback, channel := 144 }),
      (11, { Endpoint.initial 11 with service := .switching, channel := 159, movingTo := some 11, switchTimer := .running 7 }),
      (143, { Endpoint.initial 143 with service := .outOfService })] with
    spares := (State.reset.spares.set 0 (some 10)).set 15 (some 11), spareWait := [⟨143, 4⟩]
    pending := [.supervisionReading 10 0 false false] }

theorem witness_poolOk : pooled.poolOk ∧ ∃ t, step pooled = .next t := ⟨poolOk_of (by decide +kernel), _, rfl⟩

theorem witness_QueueFaultListAndPoolStayInOrder :
    let s : State := { faulty with pending := [.faultAck .bridge 1 0 20 1], verifyQueue := [3],
                                   phrases := State.reset.phrases.set 3 ⟨.verifying, 0, 4, 0⟩ }
    s.verifyOk ∧ s.faultsOk ∧ ∃ t, step s = .next t :=
  ⟨⟨by decide, by decide, by decide⟩, faultsOk_faulty, _, rfl⟩

/-! ## Calls -/

/-- An alarm of program 0 at level 15. -/
def alarm (st : CallState) (sweep : Option Sweep) : Call :=
  { page st sweep with level := 15, locked := true, lanes := [], part := .alarm ⟨0, false, 0⟩ }

/-- The states that CallRequestsAreChecked tells apart: slot 64, a stale handle, a call OPENING, one with a sweep, one ENDING, an
alarm from the System Port. -/
theorem witness_CallRequestsAreChecked :
    let c : Instr := .retireCall .bridge 1 ⟨0, 1⟩
    let d : Instr := .addTargets .bridge 1 ⟨0, 1⟩ [⟨1, 11, 0, 0⟩]
    c.requestPort = some .bridge ∧ namedCall c = some ⟨0, 1⟩ ∧ paged.mayTake .bridge .callTable = true ∧ (63 : Nat) < 64 ∧
    (paged.slot 0).gen ≠ 0 ∧ (paged.slot 63).record = none ∧
    paged.slot 0 = ⟨1, some (page .active none)⟩ ∧
    stateAnswer c (page .opening (some (sweepOver .opening [11]))) = some .notReady ∧
    stateAnswer d (page .active (some (sweepOver .add [11]))) = some .notReady ∧ stateAnswer c (page .ending none) = some .unknownCall ∧
    stateAnswer c (alarm .active none) = none ∧ changesCall c = true ∧ (alarm .active none).locked = true := by decide +kernel

theorem test_call_checks :
    let locked := scene 60 (alarm .active none) 10 (heard 60 .alarm 15)
    said (after (.retireCall .system 1 ⟨64, 0⟩) paged) .system = [(.badParam, [])] ∧
    said (after (.retireCall .system 1 ⟨0, 0⟩) paged) .system = [(.unknownCall, [])] ∧
    said (after (.retireCall .system 1 ⟨60, 1⟩) locked) .system = [(.locked, [])] ∧
    said (after (.addTargets .bridge 1 ⟨0, 1⟩ [⟨1, 11, 0, 0⟩]) (scene 0 (page .ended none) 10 zone)) .bridge = [(.unknownCall, [])] ∧
    said (after (.collectEnd .bridge 1 ⟨0, 1⟩) paged) .bridge = [(.notReady, [])] := by decide +kernel

/-- A MESSAGE's and a TALK's fields. -/
def messageFields : OpenFields := { pageFields with type := 2, phraseCount := 1, phraseIds := [3, 0, 0, 0, 0, 0, 0, 0] }
def talkFields : OpenFields := { pageFields with type := 3, targets := [⟨1, 144, 0, 0⟩, ⟨1, 145, 0, 0⟩] }
/-- A PROGRAM's fields, in stereo and bound to hold line 0. -/
def programFields : OpenFields :=
  { pageFields with type := 0, lane1 := 0, lane2 := 1, holdLine := 0, holdLevel := some 5, targets := [⟨1, 10, 0, 0⟩] }

/-- All 60 general slots are taken. -/
def full : State := { State.reset with calls := Table.build 64 fun i => ⟨1, if i < 60 then some (page .ended none) else none⟩ }

/-- The later checks of OpenCallRefusals: a list that fails; a phrase that is not VERIFIED; an expansion that is too short; no FREE
slot. -/
theorem witness_OpenCallRefusals :
    State.reset.mayTake .bridge .callTable = true ∧ CallType.ofCode 2 = some .message ∧ CallType.ofCode 3 = some .talk ∧
    openSource pageFields .page = some ([33], .page) ∧ State.reset.checkTargets [⟨1, 176, 0, 0⟩] = .error .badParam ∧
    State.reset.checkTargets talkFields.targets = .ok [.endpoint 144, .endpoint 145] ∧
    (∃ l m, openSource messageFields .message = some (l, .message m) ∧ ∃ i ∈ m.phrases, (State.reset.phrase i).state ≠ .verified) ∧
    (State.reset.expand .talk [] (fun _ => false) [.endpoint 144, .endpoint 10]).1.length < 2 ∧
    (∀ i, i < 60 → (full.slot i).record.isSome = true) := by
  refine ⟨by decide +kernel, by decide, by decide, by decide, by decide, by decide,
    ⟨[], _, rfl, 3, by decide, by decide +kernel⟩, by decide +kernel, by decide +kernel⟩

theorem test_openCall_refused :
    (([{ pageFields with type := 4 }, { pageFields with ramp := some 8 }, { pageFields with lane1 := 64 },
       { programFields with lane2 := 64 }, { programFields with holdLine := 4 }, { messageFields with phraseCount := 9 },
       { messageFields with phraseCount := 0 }, { messageFields with phraseIds := [128, 0, 0, 0, 0, 0, 0, 0] },
       { messageFields with repeatCount := 16 }, { messageFields with repeatGap := 10001 }, { talkFields with duplex := 2 }] :
        List OpenFields).all fun f => said (after (.openCall .bridge 1 f) State.reset) .bridge == [(.badParam, [])]) = true ∧
    said (after (.openCall .bridge 1 messageFields) State.reset) .bridge = [(.notReady, [])] ∧
    said (after (.openCall .bridge 1 { talkFields with targets := [⟨1, 144, 0, 0⟩, ⟨1, 10, 0, 0⟩] }) State.reset) .bridge =
      [(.noTargets, [0, 1])] ∧
    said (after (.openCall .bridge 1 pageFields) full) .bridge = [(.tableFull, [])] := by decide +kernel

theorem witness_OpenCallTakesSlot : paged.mayTake .bridge .callTable = true ∧ CallType.ofCode pageFields.type = some .page ∧
    openSource pageFields .page = some ([33], .page) ∧ pageFields.ramp.getD 0 ≤ 7 ∧
    paged.checkTargets pageFields.targets = .ok [.endpoint 10] ∧ 1 ≤ (paged.expand .page [33] (fun _ => false) [.endpoint 10]).1.length ∧
    (paged.slot 1).record = none ∧ (∀ j, j < 1 → (paged.slot j).record.isSome = true) := by decide +kernel

theorem test_openCall :
    let t := after (.openCall .bridge 1 programFields) paged
    (t.slot 1).record.map (fun r => (r.state, r.gain, r.ramp, r.lanes)) = some (.opening, 32768, 0, [0, 1]) ∧
    (t.slot 1).record.bind (fun r => r.sweep.map (·.rest)) = some [10] ∧ (t.hold 0).bound = [⟨1, 1⟩] ∧
    t.bridge.inProgress = some ⟨.openCall .bridge 1 programFields, .sweeping 1⟩ := by decide +kernel

/-- The targets of ADD_TARGETS and DROP_TARGETS on the page: a list that fails, a station, and lists that expand to nothing to do. -/
theorem witness_TargetRequestsBeginSweeps :
    paged.mayTake .bridge .callTable = true ∧ paged.slot 0 = ⟨1, some (page .active none)⟩ ∧
    paged.checkTargets [] = .error .badParam ∧ paged.checkTargets [⟨1, 10, 0, 0⟩] = .ok [.endpoint 10] ∧
    (paged.expand .page [33] (fun e => (paged.ep e).lists ⟨0, 1⟩) [.endpoint 10]).1 = [] ∧
    (paged.expand .page [33] (fun e => (paged.ep e).lists ⟨0, 1⟩) [.endpoint 175]).1 = [175] ∧
    ({ paged with decks := decked.decks }.checkTargets [⟨3, 0, 0, 0⟩] = .ok [.deck 0]) ∧
    ({ paged with decks := decked.decks }.expandAll [.deck 0]) = [] ∧ paged.expandAll [.endpoint 175] = [175] := by decide +kernel

theorem test_addTargets_dropTargets :
    said (after (.addTargets .bridge 1 ⟨0, 1⟩ [⟨1, 10, 0, 0⟩]) paged) .bridge = [(.noTargets, [0])] ∧
    ((after (.addTargets .bridge 1 ⟨0, 1⟩ [⟨1, 11, 0, 0⟩]) paged).slot 0).record.bind (·.sweep) = some (sweepOver .add [11]) ∧
    ((after (.dropTargets .bridge 1 ⟨0, 1⟩ [⟨1, 10, 0, 0⟩]) paged).slot 0).record.bind (·.sweep) = some (sweepOver .drop [10]) ∧
    said (after (.dropTargets .bridge 1 ⟨0, 1⟩ [⟨3, 0, 0, 0⟩]) { paged with decks := decked.decks }) .bridge = [(.ok, [0, 0, 2])] := by
  decide +kernel

theorem witness_SetCallGainRetargets : paged.mayTake .bridge .callTable = true ∧ paged.slot 0 = ⟨1, some (page .active none)⟩ ∧
    (page .active none).state.live = true ∧ (paged.ep 10).lists ⟨0, 1⟩ = true ∧ (paged.ep 175).lists ⟨0, 1⟩ = false := by
  decide +kernel

theorem test_setCallGain :
    (((after (.setCallGain .bridge 1 ⟨0, 1⟩ 0 1000 0) paged).ep 10).fg.map (·.term.target)) = some 1000 ∧
    (((after (.setCallGain .bridge 1 ⟨0, 1⟩ 1 2000 10) paged).ep 10).fg.map fun a => (a.listing.override, a.term.target)) =
      some (some 2000, 2000) ∧
    said (after (.setCallGain .bridge 1 ⟨0, 1⟩ 1 2000 11) paged) .bridge = [(.badParam, [])] ∧
    said (after (.setCallGain .bridge 1 ⟨0, 1⟩ 3 2000 10) paged) .bridge = [(.badParam, [])] := by decide +kernel

/-- A TALK of stations 144 and 145 in slot 2. -/
def talk : Call :=
  { page .active none with ramp := 3, lanes := [], part := .talk ⟨.full, [⟨144, false⟩, ⟨145, false⟩], [], none⟩ }

/-- Both stations of the TALK hear it. -/
def talking : State :=
  let s := scene 2 talk 144 { State.reset.ep 144 with fg := some (admitted 2 .talk 5) }
  s.setEp 145 { State.reset.ep 145 with fg := some (admitted 2 .talk 5) }

theorem witness_SetParticipantMutes : talking.mayTake .bridge .callTable = true ∧ talking.slot 2 = ⟨1, some talk⟩ ∧
    talk.state.live = true ∧ talk.part = .talk ⟨.full, [⟨144, false⟩, ⟨145, false⟩], [], none⟩ ∧
    ([⟨144, false⟩, ⟨145, false⟩] : List Participant).findIdx? (·.station == 145) = some 1 ∧
    (∀ x ∈ ([⟨144, false⟩, ⟨145, false⟩] : List Participant), x.station ≠ 175) := by decide +kernel

theorem test_setParticipant :
    let t := after (.setParticipant .bridge 1 ⟨2, 1⟩ 145 1) talking
    said t .bridge = [(.ok, [2, 0, 1])] ∧ (t.ep 145).fg.map (·.listing.muted) = some true ∧
    said (after (.setParticipant .bridge 1 ⟨2, 1⟩ 146 1) talking) .bridge = [(.badParam, [])] := by decide +kernel

/-- The page is owned by input 0, HELD and ACTIVE. -/
def owned : State :=
  { paged with triggers := paged.triggers.set 0 ⟨0, .held, true, true, .stopped, some ⟨0, 1⟩, none, some .ok⟩ }

theorem witness_RetireCallEnds : (paged.mayTake .bridge .callTable = true ∧ paged.sweepsHeld ∧ paged.listingsOk ∧
    paged.noPending = true ∧ paged.slot 0 = ⟨1, some (page .active none)⟩ ∧ (∀ i, i < 4 → (paged.trigger i).owned = none)) ∧
    owned.mayTake .bridge .callTable = true ∧ owned.sweepsHeld ∧ owned.listingsOk ∧ owned.noPending = true ∧
    ∃ i, i < 4 ∧ (owned.trigger i).owned = some ⟨0, 1⟩ ∧ (owned.trigger i).mode = .held ∧ (owned.trigger i).debounced = true := by
  refine ⟨⟨mayTake_paged _ _, sweepsHeld_paged, listingsOk_paged, by decide, by decide +kernel, by decide⟩, by decide +kernel,
    sweepsHeld_paged, listingsOk_paged, by decide, 0, by decide⟩

theorem test_retireCall :
    let t := after (.retireCall .bridge 1 ⟨0, 1⟩) paged
    (t.slot 0).record.map (fun r => (r.state, r.reason)) = some (.ending, some .retired) ∧ (t.ep 10).fg = none ∧
    said t .bridge = [(.ok, [])] ∧ said (after (.retireCall .bridge 1 ⟨0, 1⟩) owned) .bridge = [(.inUse, [])] := by decide +kernel

theorem witness_ClearCallsEndsUnlocked :
    (paged.mayTake .system .callTable = true ∧ paged.sweepsHeld ∧ paged.listingsOk ∧ paged.noPending = true) ∧
    (paged.slot 0).record = some (page .active none) ∧ (page .active none).state.live = true ∧ (page .active none).locked = false ∧
    (let s := scene 60 (alarm .active none) 10 zone
     s.listingsOk ∧ (s.slot 60).record = some (alarm .active none) ∧ (alarm .active none).locked = true) := by
  refine ⟨⟨mayTake_paged _ _, sweepsHeld_paged, listingsOk_paged, by decide⟩, by decide +kernel, by decide, by decide, ?_,
    by decide +kernel, by decide⟩
  exact listingsOk_scene (isScene_of rfl rfl (by decide)) (fun cl => by cases cl <;> decide) (fun cl => by cases cl <;> decide)
    (fun _ h => by cases h)

theorem test_clearCalls :
    said (after (.clearCalls .system 1) paged) .system = [(.ok, [1])] ∧
    said (after (.clearCalls .system 1) (scene 60 (alarm .active none) 10 (heard 60 .alarm 15))) .system = [(.ok, [0])] := by
  decide +kernel

/-- The page has ENDED; its timer runs. -/
def ended : State := { scene 0 (page .ended none) 10 zone with expiries := [⟨0, 1, .running 5⟩], bridge := { PortRec.initial with endsToCollect := 1, attention := true } }

theorem witness_EndedRecordsAreFreed :
    ended.mayTake .bridge .callTable = true ∧ ended.mayTake .system .callTable = true ∧ ended.noPending = true ∧
    ended.slot 0 = ⟨1, some (page .ended none)⟩ ∧ (page .ended none).opener = .bridge ∧
    (∃ x ∈ ended.expiries, x.slot = 0 ∧ x.gen = 1) ∧ (¬ ∃ x ∈ ended.expiries, x.slot = 63 ∧ x.gen = 1) ∧
    ended.handles.all (fun h => (ended.call h).all (·.state != .ending)) = true ∧
    (let s := { ended with expiries := [⟨0, 0, .running 5⟩] }
     (∃ x ∈ s.expiries, x.slot = 0 ∧ x.gen = 0) ∧ (s.slot 0).gen ≠ 0) := by decide +kernel

theorem test_collect_and_expiry :
    (after (.collectEnd .bridge 1 ⟨0, 1⟩) ended).slot 0 = ⟨1, none⟩ ∧
    said (after (.collectEnd .bridge 1 ⟨0, 1⟩) ended) .bridge = [(.ok, [0, 1, 5])] ∧
    said (after (.collectEnd .system 1 ⟨0, 1⟩) ended) .system = [(.ok, [0, 1, 5, 1])] ∧
    (after (.endExpiry 0 1) ended).slot 0 = ⟨1, none⟩ ∧ after (.endExpiry 0 0) ended = ended := by decide +kernel

/-- The page of slot 0 has ENDED, and the page of slot 1 is ENDING with a term of this coefficient; two timers run. -/
def twoEnds (applied : Nat) : State :=
  { cast [(0, page .ended none), (1, page .ending none)]
      [(10, { zone with dep0 := some ⟨⟨⟨1, 1⟩, .page, 32768, 32768, 7, 0, applied⟩, 5, none⟩ })] with
    expiries := [⟨0, 1, .running 5⟩, ⟨9, 4, .running 7⟩] }

/-- The clauses of TimersAre: the expired timer is stopped and the other runs on, while the collection stops none; a call whose term
has faded becomes ENDED in the event, and one that sounds does not. -/
theorem test_expiry_timers :
    (twoEnds 1).sounds ⟨1, 1⟩ = true ∧ (twoEnds 1).noPending = true ∧
    (after (.endExpiry 0 1) (twoEnds 1)).expiries = [⟨9, 4, .running 7⟩] ∧
    (after (.endExpiry 0 1) (twoEnds 0)).expiries = [⟨9, 4, .running 7⟩, ⟨1, 1, .running 240000⟩] ∧
    (after (.collectEnd .bridge 1 ⟨0, 1⟩) (twoEnds 1)).expiries = (twoEnds 1).expiries := by decide +kernel

theorem witness_QueriesChangeNothing : paged.mayTake .bridge .callTable = true ∧ paged.slot 0 = ⟨1, some (page .active none)⟩ ∧
    paged.mayTake .bridge .phraseDirectory = true ∧ paged.mayTake .bridge .alarmSequencer = true ∧
    paged.mayTake .bridge .lineSupervisor = true := by decide +kernel

theorem test_queries :
    said (after (.queryPhrase .bridge 1 128) State.reset) .bridge = [(.badParam, [])] ∧
    said (after (.queryPhrase .bridge 1 127) State.reset) .bridge = [(.ok, List.replicate 21 0)] ∧
    said (after (.queryAlarm .bridge 1 8) State.reset) .bridge = [(.badParam, [])] ∧
    said (after (.queryChannel .bridge 1 160) State.reset) .bridge = [(.badParam, [])] ∧
    (said (after (.queryCall .bridge 1 ⟨0, 1⟩) paged) .bridge).map Prod.fst = [.ok] := by decide +kernel

/-! ## Admission and sweeps -/

/-- A page on lane 33 in slot 0 and an alarm in slot 60, for the endpoint operations. -/
def ctx : EpCtx :=
  { mode := .nearest, bank := .a,
    calls := (State.reset.calls.set 0 ⟨1, some (page .active none)⟩).set 60 ⟨1, some (alarm .active none)⟩ }

/-- A zone with a page of level 5 admitted and one of level 3 waiting, and a program behind. -/
def crowded : Endpoint :=
  { heard 0 .page 5 with fgWait := [listing 1 .page 3], bg := some (admitted 2 .program 4), bgWait := [listing 3 .program 2] }

/-- The clauses of ArrivalTakesPlace at their boundaries: an empty slot; the admitted listing's own level; one above it; an ALARM
over it; and both classes. -/
theorem witness_ArrivalTakesPlace :
    zone.slot .foreground = none ∧ crowded.slot .foreground = some (admitted 0 .page 5) ∧
    (listing 4 .page 5).level ≤ (admitted 0 .page 5).listing.level ∧ (admitted 0 .page 5).listing.level < (listing 4 .page 6).level ∧
    (listing 60 .alarm 15).type = .alarm ∧ crowded.fgWait.length ≤ 6 ∧
    (∀ a, crowded.fg = some a → a.listing.level < (listing 60 .alarm 15).level) ∧
    crowded.slot .background = some (admitted 2 .program 4) ∧ (listing 4 .program 5).type.listClass = .background := by
  refine ⟨rfl, rfl, by decide, by decide, rfl, by decide, ?_, rfl, rfl⟩
  intro a h
  obtain rfl : admitted 0 .page 5 = a := Option.some.inj h
  decide

theorem test_arrival :
    ((crowded.arrive ctx .foreground (listing 4 .page 5)).1.fgWait.map (·.call.slot)) = [4, 1] ∧
    ((crowded.arrive ctx .foreground (listing 4 .page 6)).1.fgWait.map fun l => (l.call.slot, l.fading)) =
      [(0, some .zero), (1, none)] ∧
    ((crowded.arrive ctx .foreground (listing 60 .alarm 15)).1.dep0 = none) ∧
    ((crowded.arrive ctx .foreground (listing 60 .alarm 15)).1.bg.map (·.term.applied)) = some 0 := by decide +kernel

/-- The clauses of DeparturePromotesHead: an admitted call leaves, with a list behind or none; a waiting one leaves. -/
theorem witness_DeparturePromotesHead :
    crowded.slot .foreground = some (admitted 0 .page 5) ∧ (∀ l ∈ crowded.wait .foreground, l.type.listClass = .foreground) ∧
    (admitted 0 .page 5).listing.type.listClass = .foreground ∧ (admitted 0 .page 5).listing.call = ⟨0, 1⟩ ∧
    (leaveSlot (admitted 0 .page 5) crowded).1.wait .foreground = [listing 1 .page 3] ∧ (heard 0 .page 5).wait .foreground = [] ∧
    (admitted 0 .page 5).listing.call ≠ ⟨1, 1⟩ := by decide +kernel

theorem test_departure :
    let r := crowded.remove ctx .foreground ⟨0, 1⟩ .drop
    r.1.fg.map (·.listing.call.slot) = some 1 ∧ r.1.fgWait = [] ∧ r.1.dep0.map (·.term.target) = some 0 := by decide +kernel

/-- A call with a sweep whose request is in progress at the Bridge Port. -/
def sweeping (c : Call) (e : Nat) (ep : Endpoint) : State :=
  { scene 0 c e ep with bridge := { PortRec.initial with inProgress := some ⟨.openCall .bridge 1 pageFields, .sweeping 0⟩ } }

theorem sweepsHeld_sweeping (c : Call) (e : Nat) (ep : Endpoint) (sw : Sweep) (h : c.sweep = some sw) (ha : sw.answers = true)
    (hp : sw.port = .bridge) : (sweeping c e ep).sweepsHeld := by
  refine sweepsHeld_scene (i := 0) (c := c) (eps := [ep]) (isScene_of (e := e) rfl rfl (by decide)) (fun sw' h' _ => ?_) (fun p r k hk => ?_)
  · rw [h] at h'
    obtain rfl := Option.some.inj h'
    rw [hp]
    exact ⟨_, rfl⟩
  · cases p
    · cases hk
    · simp [sweeping, State.port] at hk
      exact ⟨hk.2.symm, sw, h, ha, hp⟩

theorem listingsOk_sweeping_none (c : Call) (e : Nat) (ep : Endpoint) (hn : ∀ cl, ep.listings cl = [])
    (h3 : ∀ sw, c.sweep = some sw → sw.kind ≠ .drop →
      sw.rest.Nodup ∧ ∀ x ∈ sw.rest, x < 176 ∧ ((sweeping c e ep).ep x).lists ((sweeping c e ep).handleOf 0) = false) :
    (sweeping c e ep).listingsOk :=
  listingsOk_scene (i := 0) (c := c) (eps := [ep]) (isScene_of (e := e) rfl rfl (by decide))
    (fun cl x hx l hl => by rw [List.mem_singleton.mp hx, hn] at hl; cases hl)
    (fun cl x hx => by rw [List.mem_singleton.mp hx, hn]; exact .nil) h3

/-- A sweep with two endpoints left, at zone 10. -/
def opening2 : State := sweeping (page .opening (some (sweepOver .opening [10, 11]))) 10 zone
/-- The same at a disabled zone. -/
def skipping2 : State := sweeping (page .opening (some (sweepOver .opening [10, 11]))) 10 { zone with enabled := false }
/-- A sweep of a second page of the call's own level meets a full wait list at zone 10: it is bumped itself. -/
def bumping2 : State :=
  sweeping (page .opening (some (sweepOver .opening [10, 11]))) 10
    { heard 1 .page 5 with fgWait := [listing 2 .page 5, listing 3 .page 5, listing 4 .page 5, listing 5 .page 5,
                                      listing 6 .page 5, listing 7 .page 5] }

theorem witness_SweepDelivers :
    SweepAt opening2 0 (page .opening (some (sweepOver .opening [10, 11]))) (sweepOver .opening [10, 11]) 10 [11] ∧
    SweepAt skipping2 0 (page .opening (some (sweepOver .opening [10, 11]))) (sweepOver .opening [10, 11]) 10 [11] ∧
    SweepAt bumping2 0 (page .opening (some (sweepOver .opening [10, 11]))) (sweepOver .opening [10, 11]) 10 [11] ∧
    (sweepOver .opening [10, 11]).kind ≠ .drop ∧ ([11] : List Nat) ≠ [] ∧ Skips skipping2 (page .opening none) 10 ∧
    (opening2.ep 10).enabled = true ∧
    .lost (opening2.handleOf 0) .bump ∉ ((opening2.ep 10).arrive opening2.ctx .foreground (listing 0 .page 5)).2 ∧
    .lost (bumping2.handleOf 0) .bump ∈ ((bumping2.ep 10).arrive bumping2.ctx .foreground (listing 0 .page 5)).2 := by
  refine ⟨?_, ?_, ?_, by decide, by decide, .inl (by decide +kernel), by decide +kernel, by decide +kernel, by decide +kernel⟩ <;>
    (unfold SweepAt; decide +kernel)

theorem test_sweepDelivery :
    let t := after (.sweepDelivery 0) opening2
    (t.ep 10).fg.map (·.listing.call) = some ⟨0, 1⟩ ∧
    (t.slot 0).record.bind (·.sweep) = some { sweepOver .opening [11] with taken := 1 } ∧
    ((after (.sweepDelivery 0) skipping2).slot 0).record.bind (·.sweep) = some { sweepOver .opening [11] with skipped := 1 } ∧
    ((after (.sweepDelivery 0) bumping2).slot 0).record.bind (fun r => r.sweep.map fun w => (w.taken, w.bumped)) = some (1, 1) := by
  decide +kernel

/-- A sweep at its last endpoint, zone 10. -/
def lastOf (kind : SweepKind) (taken : Nat) (loss : Option EndReason) : Sweep :=
  { sweepOver kind [10] with taken, lastLoss := loss }

/-- The clauses of SweepEnds: a listing made at the last endpoint; a skip there with none taken, with all lost, and in an ADD sweep of
a call listed at zone 11. -/
theorem witness_SweepEnds :
    (let sw := lastOf .opening 0 none
     let s := sweeping (page .opening (some sw)) 10 zone
     SweepAt s 0 (page .opening (some sw)) sw 10 [] ∧ s.sweepsHeld ∧ s.listingsOk ∧ (s.ep 10).slot .foreground = none ∧
       (s.ep 10).enabled = true) ∧
    (let sw := lastOf .opening 0 none
     let s := sweeping (page .opening (some sw)) 10 { zone with enabled := false }
     SweepAt s 0 (page .opening (some sw)) sw 10 [] ∧ s.sweepsHeld ∧ s.listingsOk ∧ Skips s (page .opening (some sw)) 10 ∧
       (∀ ep ∈ s.endpoints.cells, ep.lists ⟨0, 1⟩ = false) ∧ sw.taken = 0) ∧
    (let sw := lastOf .opening 1 (some .displaced)
     let s := sweeping (page .opening (some sw)) 10 { zone with enabled := false }
     SweepAt s 0 (page .opening (some sw)) sw 10 [] ∧ s.sweepsHeld ∧ s.listingsOk ∧ Skips s (page .opening (some sw)) 10 ∧
       (∀ ep ∈ s.endpoints.cells, ep.lists ⟨0, 1⟩ = false) ∧ sw.taken ≠ 0) ∧
    (let sw := { lastOf .add 0 none with rest := [175] }
     let s := (sweeping (page .active (some sw)) 10 (heard 0 .page 5))
     SweepAt s 0 (page .active (some sw)) sw 175 [] ∧ s.sweepsHeld ∧ s.listingsOk ∧ sw.kind = .add ∧
       (∃ ep ∈ s.endpoints.cells, ep.lists ⟨0, 1⟩ = true)) := by
  refine ⟨⟨?_, sweepsHeld_sweeping _ _ _ _ rfl rfl rfl, ?_, by decide +kernel, by decide +kernel⟩,
    ⟨?_, sweepsHeld_sweeping _ _ _ _ rfl rfl rfl, ?_, .inl (by decide +kernel), by decide +kernel, rfl⟩,
    ⟨?_, sweepsHeld_sweeping _ _ _ _ rfl rfl rfl, ?_, .inl (by decide +kernel), by decide +kernel, by decide⟩,
    ⟨?_, sweepsHeld_sweeping _ _ _ _ rfl rfl rfl, ?_, rfl, by decide +kernel⟩⟩
  · unfold SweepAt; decide +kernel
  · refine listingsOk_sweeping_none _ _ _ (fun cl => by cases cl <;> rfl) (fun sw h _ => ?_)
    cases h; decide +kernel
  · unfold SweepAt; decide +kernel
  · refine listingsOk_sweeping_none _ _ _ (fun cl => by cases cl <;> rfl) (fun sw h _ => ?_)
    cases h; decide +kernel
  · unfold SweepAt; decide +kernel
  · refine listingsOk_sweeping_none _ _ _ (fun cl => by cases cl <;> rfl) (fun sw h _ => ?_)
    cases h; decide +kernel
  · unfold SweepAt; decide +kernel
  · refine listingsOk_scene (isScene_of rfl rfl (by decide)) (fun cl => by cases cl <;> decide) (fun cl => by cases cl <;> decide)
      (fun sw h _ => ?_)
    cases h; decide +kernel

theorem test_sweep_end :
    let t := after (.sweepDelivery 0) (sweeping (page .opening (some (lastOf .opening 0 none))) 10 zone)
    (t.slot 0).record.map (·.state) = some .active ∧ said t .bridge = [(.ok, [0, 1, 1, 0, 0, 1])] ∧
    (let u := after (.sweepDelivery 0) (sweeping (page .opening (some (lastOf .opening 0 none))) 10 { zone with enabled := false })
     u.slot 0 = ⟨1, none⟩ ∧ said u .bridge = [(.noTargets, [0, 1, 0, 1, 0, 0])]) := by decide +kernel

theorem witness_SweepsWaitTheirTurn :
    let sw := sweepOver .drop [10]
    let s : State := { sweeping (page .active (some sw)) 10 zone with system := systemAsks.system }
    (s.slot 0).record = some (page .active (some sw)) ∧ s.sweepHasTurn sw = false ∧ after (.dropSweepRemoval 0) s = s := by
  decide +kernel

/-- The clauses of DropSweepRemovesListings: an endpoint that does not list the call; one that does, of two; and the call's last. -/
theorem witness_DropSweepRemovesListings :
    (let sw := sweepOver .drop [11]
     let s := sweeping (page .active (some sw)) 10 (heard 0 .page 5)
     SweepAt s 0 (page .active (some sw)) sw 11 [] ∧ s.sweepsHeld ∧ s.listingsOk ∧ (s.ep 11).lists ⟨0, 1⟩ = false) ∧
    (let sw := sweepOver .drop [10, 11]
     let s := sweeping (page .active (some sw)) 10 (heard 0 .page 5)
     SweepAt s 0 (page .active (some sw)) sw 10 [11] ∧ s.sweepsHeld ∧ s.listingsOk ∧ (s.ep 10).lists ⟨0, 1⟩ = true ∧
       (s.endpoints.set 10 ((s.ep 10).remove s.ctx .foreground ⟨0, 1⟩ .drop).1).cells.countP (·.lists ⟨0, 1⟩) < 1) ∧
    (let sw := sweepOver .drop [10]
     let s := (sweeping (page .active (some sw)) 10 (heard 0 .page 5)).setEp 11 (heard 0 .page 5)
     SweepAt s 0 (page .active (some sw)) sw 10 [] ∧ s.sweepsHeld ∧ s.listingsOk ∧ (s.ep 10).lists ⟨0, 1⟩ = true ∧
       ¬ (s.endpoints.set 10 ((s.ep 10).remove s.ctx .foreground ⟨0, 1⟩ .drop).1).cells.countP (·.lists ⟨0, 1⟩) < 1) := by
  refine ⟨⟨?_, sweepsHeld_sweeping _ _ _ _ rfl rfl rfl, ?_, by decide +kernel⟩,
    ⟨?_, sweepsHeld_sweeping _ _ _ _ rfl rfl rfl, ?_, by decide +kernel, by decide +kernel⟩,
    ⟨?_, sweepsHeld_sweeping _ 10 (heard 0 .page 5) _ rfl rfl rfl, ?_, by decide +kernel, by decide +kernel⟩⟩
  · unfold SweepAt; decide +kernel
  · exact listingsOk_scene (isScene_of rfl rfl (by decide)) (fun cl => by cases cl <;> decide) (fun cl => by cases cl <;> decide)
      (fun sw h hk => by cases h; exact absurd rfl hk)
  · unfold SweepAt; decide +kernel
  · exact listingsOk_scene (isScene_of rfl rfl (by decide)) (fun cl => by cases cl <;> decide) (fun cl => by cases cl <;> decide)
      (fun sw h hk => by cases h; exact absurd rfl hk)
  · unfold SweepAt; decide +kernel
  · exact listingsOk_scene (isScene_of_two rfl rfl (by decide)) (fun cl => by cases cl <;> decide)
      (fun cl => by cases cl <;> decide) (fun sw h hk => by cases h; exact absurd rfl hk)

theorem test_dropSweepRemoval :
    let t := after (.dropSweepRemoval 0) (sweeping (page .active (some (sweepOver .drop [10]))) 10 (heard 0 .page 5))
    (t.slot 0).record.map (fun r => (r.state, r.reason)) = some (.ending, some .noTargets) ∧ said t .bridge = [(.ok, [1, 0, 3])] ∧
    said (after (.dropSweepRemoval 0) (sweeping (page .active (some (sweepOver .drop [11]))) 10 (heard 0 .page 5))) .bridge =
      [(.ok, [0, 1, 2])] := by decide +kernel

/-! ## The mix and the frame boundary -/

theorem test_arithmetic :
    targetOf .nearest 65535 32768 32768 = 65535 ∧ targetOf .nearest 32768 8192 32768 = 8192 ∧
    scale .nearest (-16384) = 0 ∧ scale .nearest (-16385) = -1 ∧ scale .truncate (-32767) = 0 ∧ scale .nearest 16384 = 1 ∧
    ((⟨⟨0, 1⟩, .page, 32768, 32768, 1, 1000, 0⟩ : Term).step).applied = 1000 ∧
    ((⟨⟨0, 1⟩, .page, 32768, 32768, 7, 1000, 5⟩ : Term).step).applied = 6 ∧
    ((⟨⟨0, 1⟩, .page, 32768, 32768, 2, 0, 300⟩ : Term).step).applied = 44 := by decide +kernel

/-- The hypotheses of TargetCoefficientRounds and RampsStepTowardTarget on a term and a state. -/
theorem witness_Ramps :
    crowded.slot .background = some (admitted 2 .program 4) ∧ 1 ≤ (admitted 2 .program 4).term.ramp ∧
    (admitted 2 .program 4).term.ramp ≤ 7 ∧ paged.takeDue = paged ∧ paged.noPending = true ∧ paged.pendingMode = none ∧
    paged.swapPending = false := by decide +kernel

/-- A sample of `x` on lane 33, with every marker. -/
def lane33 (x : Int) : FrameInput := ⟨(List.replicate 64 0).set 33 x, [true, true, true, true]⟩

/-- The page of `paged` with the input ports FRAMED. -/
def playing : State := { paged with inputs := .fill 4 ⟨.framed, true, .stopped⟩ }

theorem test_frame :
    let t := after (.audioFrameBoundary (lane33 1000)) playing
    t.mixed.get 10 0 = 1000 ∧ t.mixed.get 11 0 = 0 ∧ t.outputs = playing.mixed ∧ t.peak.get 10 0 = 1000 := by decide +kernel

/-- The states of BoundarySwitches, BoundaryMixes and BoundaryCounts: a pending swap with its request, a port FRAMED without its
marker, one LOST with its second, one page alone on its lane, and no event due. -/
theorem witness_FrameBoundaryMixes :
    (let s : State := { paged with swapPending := true, bridge := portWith 0 (some ⟨.bankSwap .bridge 1, .swapping⟩) }
     s.sweepsHeld ∧ s.swapPending = true ∧ (s.port .bridge).inProgress = some ⟨.bankSwap .bridge 1, .swapping⟩) ∧
    ((playing.input 3).framing = .framed ∧ ([true, true, true, false] : List Bool).getD 3 false = false) ∧
    (let s : State := { paged with inputs := .fill 4 ⟨.lost, true, .stopped⟩ }
     (s.input 0).framing = .lost ∧ (s.input 0).lastMarker = true) ∧
    (paged.takeDue = paged ∧ paged.noPending = true ∧ paged.playersOk) ∧ (paged.ep 10).service = .inService ∧
    (paged.ep 10).channel = 10 := by
  refine ⟨⟨?_, rfl, rfl⟩, by decide +kernel, by decide +kernel, ⟨by decide +kernel, by decide, playersOk_paged⟩, by decide +kernel⟩
  refine sweepsHeld_scene (i := 0) (c := page .active none) (eps := [heard 0 .page 5]) (isScene_of (e := 10) rfl rfl (by decide))
    (fun _ h => by cases h) (fun p r k h => ?_)
  cases p
  · cases h
  · simp [State.port, portWith] at h

theorem test_boundary_swap :
    let t := after (.audioFrameBoundary silent) { paged with swapPending := true, bridge := portWith 0 (some ⟨.bankSwap .bridge 1, .swapping⟩) }
    t.bank = .b ∧ said t .bridge = [(.ok, [1])] ∧
    ((after (.audioFrameBoundary { silent with markers := [true, true, true, false] }) playing).input 3).framing = .lost := by
  decide +kernel

/-- A message of phrase 3 in slot 1, on player 0, and the phrase of two samples 256 and -256. -/
def message : MessagePart := ⟨[3, 4], 1, 0, 0, 0, 1, some 0, .playing⟩
def messageCall (m : MessagePart) : Call := { page .active none with lanes := [], part := .message m }
def sounding (m : MessagePart) (pl : Player) : State :=
  { scene 1 (messageCall m) 10 (heard 1 .message 5) with
    players := State.reset.players.set 0 pl, phrases := (State.reset.phrases.set 3 ⟨.verified, 0, 2, 0⟩).set 4 ⟨.verified, 0, 2, 0⟩,
    memory := [(0, 1), (1, 0), (3, 0)] }
/-- The player in phrase 3. -/
def inPhrase (offset : Nat) (second : Bool) : Player := ⟨some ⟨1, 1⟩, some 3, offset, second, 0⟩

theorem listingsOk_sounding (m : MessagePart) (pl : Player) : (sounding m pl).listingsOk :=
  listingsOk_scene (i := 1) (c := messageCall m) (eps := [heard 1 .message 5]) (isScene_of (e := 10) rfl rfl (by decide))
    (fun cl ep h l hl => by
      obtain rfl := List.mem_singleton.mp h
      cases cl
      · obtain rfl : l = listing 1 .message 5 := by
          simpa [Endpoint.listings, Endpoint.slot, Endpoint.wait, heard, zone, Endpoint.initial, admitted] using hl
        exact ⟨rfl, rfl, rfl, rfl, rfl⟩
      · cases hl)
    (fun cl => by cases cl <;> decide) (fun _ h => by cases h)

theorem playersOk_sounding (m : MessagePart) (ph : Option Nat) (n : Nat) (b : Bool) (g : Nat) (h0 : m.player = some 0)
    (h1 : m.playback = .playing) : (sounding m ⟨some ⟨1, 1⟩, ph, n, b, g⟩).playersOk := by
  have hs : IsScene (sounding m ⟨some ⟨1, 1⟩, ph, n, b, g⟩) 1 (messageCall m) [heard 1 .message 5] :=
    isScene_of (e := 10) rfl rfl (by decide)
  have hp : ∀ i, i < 4 → (sounding m ⟨some ⟨1, 1⟩, ph, n, b, g⟩).player i = if 0 = i then ⟨some ⟨1, 1⟩, ph, n, b, g⟩ else .idle := by
    intro i hi
    simp only [State.player, sounding]
    rw [Table.get_set _ _ _ _ _ (by decide)]
    split
    · rfl
    · exact Table.get_fill _ _ _ hi
  refine ⟨fun i hi h => ?_, fun i h hi hc => ?_, fun h c m' i hc hm hi => ?_, fun k c sw _ hc hw => ?_, fun k c a _ hc ha _ => ?_,
    fun k x h60 h64 hx => ?_⟩
  · rw [hp i hi] at h ⊢
    split at h
    · cases h
    · rename_i hne; rw [if_neg hne]
  · rw [hp i hi] at hc
    split at hc
    · rename_i h0i
      subst h0i
      obtain rfl : ⟨1, 1⟩ = h := Option.some.inj hc
      exact ⟨messageCall m, call_scene hs, rfl, .inl ⟨m, rfl, rfl, h0, h1⟩⟩
    · cases hc
  · obtain ⟨rfl, rfl⟩ := call_of_scene hs hc
    obtain rfl : m = m' := by injection hm
    obtain rfl : 0 = i := Option.some.inj (h0.symm.trans hi)
    exact ⟨by decide, by rw [hp 0 (by decide)]; rfl⟩
  · obtain ⟨rfl, rfl⟩ := record_scene hs hc
    cases hw
  · obtain ⟨rfl, rfl⟩ := record_scene hs hc
    cases ha
  · have : (sounding m ⟨some ⟨1, 1⟩, ph, n, b, g⟩).alarmSeq k = .initial := by
      simp only [State.alarmSeq, sounding]; exact Table.get_fill _ _ _ (by omega)
    rw [this] at hx; cases hx

/-- The player outputs of 07 R132: the first half, the second half between two samples, the second half of the last sample. -/
theorem witness_PlayerOutputs :
    ((sounding message (inPhrase 0 false)).player 0).call = some ⟨1, 1⟩ ∧ ((sounding message (inPhrase 0 false)).player 0).phrase = some 3 ∧
    (sounding message (inPhrase 0 false)).playerOutput 0 = 65536 ∧ (sounding message (inPhrase 0 true)).playerOutput 0 = 0 ∧
    (sounding message (inPhrase 1 true)).playerOutput 0 = -65536 ∧ State.reset.playerOutput 3 = 0 := by decide +kernel

theorem witness_PlaysMessage (m : MessagePart) (ph : Option Nat) (n : Nat) (b : Bool) (g : Nat) (h0 : m.player = some 0)
    (h1 : m.playback = .playing) : PlaysMessage (sounding m ⟨some ⟨1, 1⟩, ph, n, b, g⟩) 0 ⟨1, 1⟩ (messageCall m) m :=
  ⟨by decide, slot_scene (i := 1) (c := messageCall m) (eps := [heard 1 .message 5]) (isScene_of (e := 10) rfl rfl (by decide)) 1, rfl, rfl, rfl, h0,
    by show 0 < State.heardCount (scene 1 (messageCall message) 10 (heard 1 .message 5)) ⟨1, 1⟩; decide +kernel, rfl,
    playersOk_sounding m ph n b g h0 h1, listingsOk_sounding m _⟩

/-- The clauses of MessagePlaybackMovesOn: a phrase before the last; the last with a repeat to come, without and with a gap; the
last of the last repeat; and a gap that is over, and one that is not. -/
theorem witness_MessagePlaybackMovesOn :
    (∃ m, PlaysMessage (sounding m (inPhrase 2 false)) 0 ⟨1, 1⟩ (messageCall m) m ∧ m.index + 1 < m.phrases.length) ∧
    (∃ m, PlaysMessage (sounding m (inPhrase 2 false)) 0 ⟨1, 1⟩ (messageCall m) m ∧ m.phrases.length ≤ m.index + 1 ∧
      m.repeatNo < m.repeatCount ∧ m.repeatGap = 0) ∧
    (∃ m, PlaysMessage (sounding m (inPhrase 2 false)) 0 ⟨1, 1⟩ (messageCall m) m ∧ m.phrases.length ≤ m.index + 1 ∧
      m.repeatCount = 0 ∧ 0 < m.repeatGap) ∧
    (∃ m, PlaysMessage (sounding m (inPhrase 2 false)) 0 ⟨1, 1⟩ (messageCall m) m ∧ m.phrases.length ≤ m.index + 1 ∧
      ¬ (m.repeatCount = 0 ∨ m.repeatNo < m.repeatCount)) ∧
    (∀ g, PlaysMessage (sounding message ⟨some ⟨1, 1⟩, none, 0, false, g⟩) 0 ⟨1, 1⟩ (messageCall message) message) ∧
    ((sounding message (inPhrase 2 false)).phrase 3).length ≤ 2 := by
  refine ⟨⟨message, witness_PlaysMessage _ _ _ _ _ rfl rfl, by decide⟩,
    ⟨{ message with index := 1, repeatCount := 2 }, witness_PlaysMessage _ _ _ _ _ rfl rfl, by decide⟩,
    ⟨{ message with index := 1, repeatCount := 0, repeatGap := 10000 }, witness_PlaysMessage _ _ _ _ _ rfl rfl, by decide⟩,
    ⟨{ message with index := 1 }, witness_PlaysMessage _ _ _ _ _ rfl rfl, by decide⟩,
    fun g => witness_PlaysMessage _ _ _ _ _ rfl rfl, by decide +kernel⟩

theorem test_messagePhraseEnd_repeatGapEnd :
    (after (.messagePhraseEnd 0) (sounding message (inPhrase 2 false))).player 0 = ⟨some ⟨1, 1⟩, some 4, 0, false, 0⟩ ∧
    after (.messagePhraseEnd 0) (sounding message (inPhrase 1 true)) = sounding message (inPhrase 1 true) ∧
    (let t := after (.messagePhraseEnd 0) (sounding { message with index := 1 } (inPhrase 2 false))
     (t.slot 1).record.map (·.reason) = some (some .complete) ∧ t.player 0 = .idle) ∧
    (after (.repeatGapEnd 0) (sounding message ⟨some ⟨1, 1⟩, none, 0, false, 0⟩)).player 0 = inPhrase 0 false := by decide +kernel

/-- Source values: a lane of a FRAMED port, a stereo PROGRAM at a zone of each role, a TALK, a MESSAGE, an ALARM's tone. -/
theorem witness_SourceValues :
    (let x := playing.sources (lane33 7)
     x.lane 33 = 7 ∧ playing.callSource x 10 ⟨0, 1⟩ (page .active none) = 7) ∧
    (let c := { page .active none with lanes := [0, 33], part := .program none 0 }
     playing.callSource (playing.sources (lane33 7)) 10 ⟨0, 1⟩ c = 3) ∧
    ((page .active none).part = .page ∧ talk.part = .talk ⟨.full, [⟨144, false⟩, ⟨145, false⟩], [], none⟩ ∧
      (messageCall message).part = .message message) ∧
    (let s := { scene 60 (alarm .active none) 10 (heard 60 .alarm 15) with
                alarms := State.reset.alarms.set 0 ⟨some ⟨1, 0, .tone, 48, none, false, 0⟩, 0, toneIncrement 800⟩ }
     s.call ⟨60, 1⟩ = some (alarm .active none) ∧ s.program 0 = some .general ∧
     s.callSource (s.sources silent) 10 ⟨60, 1⟩ (alarm .active none) = -8388608) := by decide +kernel

/-! ## Hold outputs and phrases -/

/-- Hold output 0 ASSERTED by the program of slot 2 at zone 10, and one RELEASING. -/
def asserted : State := { State.reset with holds := (State.reset.holds.set 0 ⟨0, [⟨2, 1⟩], [(⟨2, 1⟩, 10)], .asserted, .stopped⟩).set 1 ⟨10, [], [], .releasing, .running 480⟩ }

theorem witness_HoldOutputsFollowReports :
    (⟨2, 1⟩ : Handle) ∈ (asserted.hold 0).bound ∧ (⟨3, 1⟩ : Handle) ∉ (asserted.hold 0).bound ∧
    ((⟨2, 1⟩ : Handle), 10) ∈ (asserted.hold 0).pairs ∧ ((⟨2, 1⟩ : Handle), 11) ∉ (asserted.hold 0).pairs ∧
    { page .active none with part := .program (some 0) 5 }.holdLine = some 0 ∧ asserted.mayTake .bridge .holdLineUnit = true ∧
    (asserted.hold 0).timer = .stopped ∧ (asserted.hold 1).timer = .running 480 ∧
    (some 10000 : Option Nat).all (· ≤ 10000) = true := by decide +kernel

theorem test_hold :
    (asserted.takeInterruption 10 (.interruption ⟨2, 1⟩ 0 false)).hold 0 = ⟨0, [⟨2, 1⟩], [], .released, .stopped⟩ ∧
    (asserted.takeInterruption 11 (.interruption ⟨2, 1⟩ 0 true)).hold 0 =
      ⟨0, [⟨2, 1⟩], [(⟨2, 1⟩, 10), (⟨2, 1⟩, 11)], .asserted, .stopped⟩ ∧
    (after (.holdReleaseTimeout 1) asserted).hold 1 = ⟨10, [], [], .released, .stopped⟩ ∧
    ((after (.setHold .bridge 1 0 (some 10000)) asserted).hold 0).delay = 10000 ∧
    said (after (.setHold .bridge 1 0 (some 10001)) asserted) .bridge = [(.badParam, [])] := by decide +kernel

/-- Eight phrases wait for the Verify Unit. -/
def queued8 : State :=
  { State.reset with phrases := .fill 128 ⟨.defined, 0, 1, 65535⟩, verifyQueue := [0, 1, 2, 3, 4, 5, 6, 7] }

/-- The states of PhraseDefinitions and PhraseVerification: a phrase in use, one under check, one in the queue, a full queue, one
with room, an empty one, an EMPTY entry; and fields at their bounds. -/
theorem witness_PhraseRequestsAreDecided :
    InUse (sounding message (inPhrase 0 false)) 3 ∧ (queued8.verifyQueue.head? = some 0) ∧ 0 ∈ queued8.verifyQueue ∧
    8 ∉ queued8.verifyQueue ∧ 8 ≤ queued8.verifyQueue.length ∧ (queued8.phrase 8).state ≠ .empty ∧
    (State.reset.phrase 127).state = .empty ∧ queued8.mayTake .bridge .phraseDirectory = true ∧
    (16777214 % 2 = 0 ∧ 16777214 ≤ 16777214 ∧ 1 ≤ 1 ∧ 16777214 + 2 * 1 ≤ 16777216) ∧ ¬ InUse queued8 8 ∧ ¬ InUse queued8 127 := by
  have hu : ∀ id, ¬ InUse queued8 id := by
    rintro id (⟨h, c, m, hc, -⟩ | ⟨i, hi, hp⟩)
    · simp only [State.call, findCall] at hc
      have : queued8.calls.get h.slot .initial = .initial := by
        by_cases hs : h.slot < 64
        · exact Table.get_fill _ _ _ hs
        · exact Table.get_of_le _ _ _ (by omega)
      rw [this] at hc
      split at hc <;> cases hc
    · rw [State.player, show queued8.players.get i .idle = .idle from Table.get_fill _ _ _ hi] at hp
      cases hp
  exact ⟨.inr ⟨0, by decide, by decide +kernel⟩, by decide +kernel, by decide +kernel, by decide +kernel, by decide +kernel,
    by decide +kernel, by decide +kernel, by decide +kernel, by decide, hu 8, hu 127⟩

theorem test_phrases :
    (after (.definePhrase .bridge 1 5 16777214 1 7) State.reset).phrase 5 = ⟨.defined, 16777214, 1, 7⟩ ∧
    said (after (.definePhrase .bridge 1 5 16777214 2 7) State.reset) .bridge = [(.badParam, [])] ∧
    said (after (.definePhrase .bridge 1 0 0 1 7) queued8) .bridge = [(.inUse, [])] ∧
    ((after (.retirePhrase .bridge 1 0) queued8).phrase 1).state = .verifying ∧
    (after (.retirePhrase .bridge 1 0) queued8).verifyQueue = [1, 2, 3, 4, 5, 6, 7] := by decide +kernel

theorem test_verifyPhrase :
    said (after (.verifyPhrase .bridge 1 8) queued8) .bridge = [(.busy, [])] ∧
    said (after (.verifyPhrase .bridge 1 127) State.reset) .bridge = [(.notReady, [])] ∧
    ((after (.verifyPhrase .bridge 1 8) { queued8 with verifyQueue := [] }).phrase 8).state = .verifying := by decide +kernel

/-- A check of phrase 3 that a message names. -/
def checking (check : Nat) : State :=
  { sounding message (inPhrase 0 false) with
    phrases := State.reset.phrases.set 3 ⟨.verified, 0, 2, check⟩, verifyQueue := [3] }

/-- An alarm whose player plays phrase 3, under check: the last clause of VerifyUnitChecksHead. -/
def checkingAlarm (n : Nat) : State :=
  { scene 60 (alarm .active none) 10 (heard 60 .alarm 15) with
    players := State.reset.players.set 1 ⟨some ⟨60, 1⟩, some 3, n, false, 0⟩,
    alarms := State.reset.alarms.set 0 ⟨some ⟨1, 0, .phrase, 0, some 1, false, 0⟩, 0, toneIncrement 800⟩,
    phrases := State.reset.phrases.set 3 ⟨.verified, 0, 2, 5⟩, verifyQueue := [3] }

theorem playersOk_checkingAlarm (n : Nat) : (checkingAlarm n).playersOk := by
  have hs : IsScene (checkingAlarm n) 60 (alarm .active none) [heard 60 .alarm 15] := isScene_of (e := 10) rfl rfl (by decide)
  have hp : ∀ i, i < 4 → (checkingAlarm n).player i = if 1 = i then ⟨some ⟨60, 1⟩, some 3, n, false, 0⟩ else .idle := by
    intro i hi
    simp only [State.player, checkingAlarm]
    rw [Table.get_set _ _ _ _ _ (by decide)]
    split
    · rfl
    · exact Table.get_fill _ _ _ hi
  refine ⟨fun i hi h => ?_, fun i h hi hc => ?_, fun h c m' i hc hm hi => ?_, fun k c sw _ hc hw => ?_, fun k c a _ hc ha _ => ?_,
    fun k x h60 h64 hx => ?_⟩
  · rw [hp i hi] at h ⊢
    split at h
    · cases h
    · rename_i hne; rw [if_neg hne]
  · rw [hp i hi] at hc
    split at hc
    · rename_i h0i
      subst h0i
      obtain rfl : ⟨60, 1⟩ = h := Option.some.inj hc
      exact ⟨alarm .active none, call_scene hs, rfl, .inr ⟨_, ⟨1, 0, .phrase, 0, some 1, false, 0⟩, rfl, rfl, rfl⟩⟩
    · cases hc
  · obtain ⟨rfl, rfl⟩ := call_of_scene hs hc
    cases hm
  · obtain ⟨rfl, rfl⟩ := record_scene hs hc
    cases hw
  · obtain ⟨rfl, rfl⟩ := record_scene hs hc
    obtain rfl := CallPart.alarm.inj ha
    rfl
  · have hk : (checkingAlarm n).alarmSeq k = if 60 = k then ⟨some ⟨1, 0, .phrase, 0, some 1, false, 0⟩, 0, toneIncrement 800⟩ else .initial := by
      simp only [State.alarmSeq, checkingAlarm]
      rw [Table.get_set _ _ _ _ _ (by decide)]
      by_cases h : 60 = k
      · subst h; rfl
      · rw [if_neg h, if_neg (by omega)]; exact Table.get_fill _ _ _ (by omega)
    rw [hk] at hx
    split at hx
    · rename_i h; subst h
      obtain rfl := Option.some.inj hx
      refine ⟨⟨alarm .active none, _, by rw [slot_scene hs]; rfl, rfl, rfl⟩, fun i hi => ?_⟩
      obtain rfl : 1 = i := Option.some.inj hi
      refine ⟨rfl, by decide, ?_⟩
      rw [hp 1 (by decide), State.handleOf, slot_scene hs]; rfl
    · cases hx

theorem witness_VerifyUnitChecksHead :
    ((checking 0).verifyQueue = 3 :: [] ∧ (checking 0).noPending = true ∧ (checking 0).verifySum < 16777216 ∧
      (checking 0).listingsOk ∧ (checking 0).call ⟨1, 1⟩ = some (messageCall message) ∧ 3 ∈ message.phrases) ∧
    (0 + min (min 1 256) (2 - 0) < ((checking 0).phrase 3).length) ∧ storedSum (checking 0).memory 0 2 = 65536 ∧
    ((checkingAlarm 0).verifyQueue = 3 :: [] ∧ (checkingAlarm 0).noPending = true ∧ (checkingAlarm 0).playersOk ∧ (checkingAlarm 0).callsOk ∧
      ((checkingAlarm 0).player 1).call = some ⟨60, 1⟩ ∧ ((checkingAlarm 0).player 1).phrase = some 3 ∧
      (checkingAlarm 0).call ⟨60, 1⟩ = some (alarm .active none) ∧ (checkingAlarm 0).program 0 = some .general ∧
      ((checkingAlarm 0).alarmSeq 60).position = some ⟨1, 0, .phrase, 0, some 1, false, 0⟩) := by
  refine ⟨⟨rfl, rfl, by decide, listingsOk_sounding message (inPhrase 0 false), by decide +kernel, by decide⟩, by decide +kernel, by decide +kernel,
    rfl, rfl, playersOk_checkingAlarm 0, ?_, by decide +kernel, by decide +kernel, by decide +kernel, by decide +kernel,
    by decide +kernel⟩
  exact callsOk_scene (eps := [heard 60 .alarm 15]) (isScene_of (e := 10) rfl rfl (by decide)) (by unfold Call.recordOk; decide) rfl

theorem test_verifyBlockRead :
    ((after (.verifyBlockRead 256) (checking 65536)).phrase 3).state = .verified ∧
    (let t := after (.verifyBlockRead 2) (checking 1)
     (t.phrase 3).state = .bad ∧ (t.slot 1).record.map (·.reason) = some (some .phraseFailed) ∧ t.faults.map (·.kind) = [.phraseBad]) ∧
    ((after (.verifyBlockRead 256) (checkingAlarm 0)).alarmSeq 60).position = some ⟨1, 0, .substituted, 480, none, false, 0⟩ := by
  decide +kernel

/-! ## Alarms -/

/-- The alarm of slot 60, heard at zone 10, at a step position. -/
def alarmed (x : StepPosition) : State :=
  { scene 60 (alarm .active none) 10 (heard 60 .alarm 15) with
    alarms := State.reset.alarms.set 0 ⟨some x, 5, toneIncrement 800⟩ }

/-- A position with no player. -/
def position (kind : StepKind) (index left toSwitch : Nat) : StepPosition := ⟨1, index, kind, left, none, false, toSwitch⟩

theorem isScene_alarmed (x : StepPosition) : IsScene (alarmed x) 60 (alarm .active none) [heard 60 .alarm 15] :=
  isScene_of (e := 10) rfl rfl (by decide)

theorem callsOk_alarmed (x : StepPosition) : (alarmed x).callsOk :=
  callsOk_scene (isScene_alarmed x) (by unfold Call.recordOk; decide) rfl

theorem listingsOk_alarmed (x : StepPosition) : (alarmed x).listingsOk :=
  listingsOk_scene (isScene_alarmed x) (fun cl => by cases cl <;> decide) (fun cl => by cases cl <;> decide) (fun _ h => by cases h)

theorem sweepsHeld_alarmed (x : StepPosition) : (alarmed x).sweepsHeld :=
  sweepsHeld_scene (isScene_alarmed x) (fun _ h => by cases h) (fun p _ _ h => by cases p <;> cases h)

theorem playersOk_alarmed (x : StepPosition) (hx : x.player = none) : (alarmed x).playersOk := by
  have hs := isScene_alarmed x
  have hidle : ∀ j, j < 4 → (alarmed x).player j = .idle := fun j hj => by
    simp only [State.player, alarmed]; exact Table.get_fill _ _ _ hj
  refine ⟨fun j hj _ => hidle j hj, fun j k hj hk => ?_, fun k d m j hd hpart hj => ?_, fun k d sw _ hd hs' hk => ?_,
    fun k d a _ hd ha _ => ?_, fun k y h60 h64 hy => ?_⟩
  · rw [hidle j hj] at hk; cases hk
  · obtain ⟨rfl, rfl⟩ := call_of_scene hs hd; cases hpart
  · obtain ⟨rfl, rfl⟩ := record_scene hs hd; cases hs'
  · obtain ⟨rfl, rfl⟩ := record_scene hs hd
    obtain rfl := CallPart.alarm.inj ha
    rfl
  · have hk : (alarmed x).alarmSeq k = if 60 = k then ⟨some x, 5, toneIncrement 800⟩ else .initial := by
      simp only [State.alarmSeq, alarmed]
      rw [Table.get_set _ _ _ _ _ (by decide)]
      by_cases h : 60 = k
      · subst h; rfl
      · rw [if_neg h, if_neg (by omega)]; exact Table.get_fill _ _ _ (by omega)
    rw [hk] at hy
    split at hy
    · rename_i h; subst h
      obtain rfl := Option.some.inj hy
      exact ⟨⟨alarm .active none, _, by rw [slot_scene hs]; rfl, rfl, rfl⟩, fun i hi => by rw [hx] at hi; cases hi⟩
    · cases hy

/-- Program 1 has one tone to deck 0. -/
def deckAlarm : AlarmProgram := { AlarmProgram.general with level := 12, targets := [.deck 0], steps := [.tone 10] }
/-- The part with `deckAlarm` as program 1, with a deck in use or none. -/
def withDeckAlarm (s : State) : State := { s with programs := s.programs.set 1 (some deckAlarm) }

/-- The states and fields of ProgramsAreDefined: a program in use, one that is not, and fields at their bounds. -/
theorem witness_ProgramsAreDefined :
    (let s := alarmed (position .tone 0 48 0)
     s.mayTake .bridge .alarmSequencer = true ∧ s.mayTake .system .alarmSequencer = true ∧
     (∃ r a, (s.slot 60).record = some r ∧ r.state ≠ .ended ∧ r.part = .alarm a ∧ a.program = 0)) ∧
    (alarmFields.shape ≤ 1 ∧ alarmFields.targets.map descriptorTarget = [Target.everywhere].map some ∧
      alarmFields.steps.map storedStep = [AlarmStep.tone 1000].map some ∧ alarmFields.repeatCount ≤ 255) ∧
    storedStep ⟨2, 128⟩ = none ∧ storedStep ⟨0, 1⟩ = some (.tone 10) ∧ descriptorTarget ⟨0, 0, 0, 0⟩ = none := by
  refine ⟨⟨by decide +kernel, by decide +kernel, alarm .active none, _, ?_, by decide, rfl, rfl⟩, by decide, by decide, by decide,
    by decide⟩
  rw [slot_scene (isScene_alarmed _)]; rfl

theorem test_defineAlarm :
    said (after (.defineAlarm .system 1 3 1 none) State.reset) .system = [(.locked, [])] ∧
    said (after (.defineAlarm .bridge 1 8 1 none) State.reset) .bridge = [(.badParam, [])] ∧
    said (after (.defineAlarm .bridge 1 0 1 none) (alarmed (position .tone 0 48 0))) .bridge = [(.inUse, [])] ∧
    (after (.defineAlarm .bridge 1 3 0 (some { alarmFields with f1 := 1, toneLevel := 40000, steps := [⟨0, 1⟩, ⟨1, 65535⟩, ⟨2, 127⟩] }))
      State.reset).program 3 =
      some ⟨13, [.everywhere], .warble, 200, 1000, 32768, [.tone 10, .silence 60000, .phrase 127], 2⟩ := by decide +kernel

/-- Trigger input 0 with a mode, a pin level, a debounced level, its timer and the call it owns. -/
def input0 (mode : TriggerMode) (pin deb : Bool) (timer : Timer) (owned : Option Handle) (s : State) : State :=
  { s with triggers := s.triggers.set 0 ⟨0, mode, pin, deb, timer, owned, none, none⟩ }

theorem witness_TriggersAreSet_PinsAreDebounced :
    State.reset.mayTake .system .alarmSequencer = true ∧ State.reset.mayTake .bridge .alarmSequencer = true ∧
    ((State.reset.trigger 3).pin = false ∧ (State.reset.trigger 3).timer = .stopped) ∧
    (let s := input0 .held false true .stopped none State.reset
     (s.trigger 0).pin ≠ true ∧ (s.trigger 0).debounced = true) := by decide +kernel

theorem test_triggers :
    (after (.setTrigger .bridge 1 3 7 2) State.reset).trigger 3 = ⟨7, .held, false, false, .stopped, none, none, none⟩ ∧
    said (after (.setTrigger .bridge 1 3 8 2) State.reset) .bridge = [(.badParam, [])] ∧
    said (after (.setTrigger .system 1 3 7 2) State.reset) .system = [(.locked, [])] ∧
    ((after (.triggerPinChange 0 true) State.reset).trigger 0).timer = .running 960 ∧
    ((after (.triggerPinChange 0 true) (input0 .held false true (.running 5) none State.reset)).trigger 0).timer = .stopped := by
  decide +kernel

/-- Alarms in all four alarm slots, of programs 1 to 4, which are all defined. -/
def fourCall (st : CallState) (level i : Nat) : Call :=
  { alarm st none with level, openSeq := i, endSeq := i, part := .alarm ⟨i - 59, false, 0⟩ }
def four (st : CallState) (level : Nat) : State :=
  { State.reset with calls := Table.build 64 fun i => if 60 ≤ i then ⟨1, some (fourCall st level i)⟩ else ⟨0, none⟩, seq := 100,
                     programs := .fill 8 (some .general) }

theorem slot_four (st : CallState) (level i : Nat) (hi : i < 64) :
    (four st level).slot i = if 60 ≤ i then ⟨1, some (fourCall st level i)⟩ else ⟨0, none⟩ := Table.get_build _ _ _ hi

theorem record_four {st : CallState} {level i : Nat} {c : Call} (h : ((four st level).slot i).record = some c) :
    60 ≤ i ∧ i < 64 ∧ c = fourCall st level i := by
  by_cases hi : i < 64
  · rw [slot_four _ _ _ hi] at h
    split at h
    · exact ⟨by assumption, hi, (Option.some.inj h).symm⟩
    · cases h
  · rw [State.slot, Table.get_of_le _ _ _ (by omega)] at h; cases h

theorem four_inv (st : CallState) (level : Nat) (h : ∀ i, 60 ≤ i → i < 64 → (fourCall st level i).recordOk i) :
    (four st level).callsOk ∧ (four st level).playersOk ∧ (four st level).sweepsHeld ∧ (four st level).listingsOk ∧
      (four st level).noPending = true := by
  have hidle : ∀ j, j < 4 → (four st level).player j = .idle := fun j hj => Table.get_fill _ _ _ hj
  refine ⟨⟨fun i => ⟨?_, fun c hc => ?_⟩, ?_⟩, ⟨fun j hj _ => hidle j hj, fun j k hj hk => ?_, fun k c m i hc hm _ => ?_,
    fun k c sw _ hc hw => ?_, fun k c a _ hc ha _ => ?_, fun k x h60 h64 hx => ?_⟩, ⟨fun i c sw hc hw => ?_, fun p r i hp => ?_⟩,
    ⟨fun ep hep cl l hl => ?_, fun ep hep cl => ?_, fun i c sw hc hw => ?_⟩, rfl⟩
  · by_cases hi : i < 64
    · rw [slot_four _ _ _ hi]; split <;> simp
    · rw [State.slot, Table.get_of_le _ _ _ (by omega)]; simp [CallSlot.initial]
  · obtain ⟨a, b, rfl⟩ := record_four hc
    exact h i a b
  · intro g hg
    obtain rfl : g = .general := by simpa [four, Table.fill] using hg
    decide
  · rw [hidle j hj] at hk; cases hk
  · simp only [State.call, findCall] at hc
    split at hc
    · obtain ⟨-, -, rfl⟩ := record_four (i := k.slot) hc; cases hm
    · cases hc
  · obtain ⟨-, -, rfl⟩ := record_four hc; cases hw
  · obtain ⟨-, h64, rfl⟩ := record_four hc
    obtain rfl := CallPart.alarm.inj ha
    rw [State.program, show (four st level).programs.get (k - 59) none = some .general from Table.get_fill _ _ _ (by omega)]; rfl
  · rw [State.alarmSeq, show (four st level).alarms.get (k - 60) .initial = .initial from Table.get_fill _ _ _ (by omega)] at hx
    cases hx
  · obtain ⟨-, -, rfl⟩ := record_four hc; cases hw
  · cases p <;> cases hp
  · obtain ⟨k, rfl⟩ := mem_reset hep
    cases cl <;> simp [Endpoint.listings, Endpoint.slot, Endpoint.wait, Endpoint.initial] at hl
  · obtain ⟨k, rfl⟩ := mem_reset hep
    cases cl <;> simp [Endpoint.listings, Endpoint.slot, Endpoint.wait, Endpoint.initial]
  · obtain ⟨-, -, rfl⟩ := record_four hc; cases hw

theorem fourCall_ok (st : CallState) (level i : Nat) (hs : st = .ended ∨ st = .active) (h12 : 12 ≤ level) (h15 : level ≤ 15)
    (hi : 60 ≤ i) : (fourCall st level i).recordOk i := by
  have ht : (fourCall st level i).type = .alarm := rfl
  refine ⟨by simp [ht, hi], by rw [ht]; exact h12, by rw [ht]; exact h15, by simp [fourCall, alarm, page], ⟨fun _ => ht, fun _ => rfl⟩,
    ?_, ?_, ?_⟩ <;> rcases hs with rfl | rfl <;> simp [fourCall, alarm, page, CallState.live]

/-- The outcomes of StartsByRequest: an empty program; a live one; geometry that is not in use; no endpoint; no slot; a FREE slot; an
ENDED record displaced; a live one of a lower level displaced. -/
theorem witness_StartsByRequest :
    (State.reset.mayTake .system .alarmSequencer = true ∧ State.reset.program 7 = none ∧ State.reset.program 8 = none) ∧
    LiveAt (alarmed (position .tone 0 48 0)) 0 60 ∧
    ((withDeckAlarm State.reset).program 1 = some deckAlarm ∧ (withDeckAlarm State.reset).geometryReady deckAlarm.targets = false) ∧
    ((withDeckAlarm decked).geometryReady deckAlarm.targets = true ∧
      ((withDeckAlarm decked).expand .alarm [] (fun _ => false) deckAlarm.targets).1 = []) ∧
    NoSlot (four .active 15) 15 ∧
    (LowestFree (alarmed (position .tone 0 48 0)) 61 ∧ (alarmed (position .tone 0 48 0)).geometryReady [.everywhere] = true ∧
      ((alarmed (position .tone 0 48 0)).expand .alarm [] (fun _ => false) [.everywhere]).1 ≠ []) ∧
    Displaces (four .ended 15) 15 60 (fourCall .ended 15 60) ∧ Displaces (four .active 12) 15 63 (fourCall .active 12 63) ∧
    (∀ k, ¬ LiveAt (four .active 12) 0 k) := by
  refine ⟨by decide +kernel, ⟨by decide, by decide, ⟨alarm .active none, _, ?_, rfl, rfl, rfl⟩, fun j h1 h2 => by omega⟩,
    by decide +kernel, by decide +kernel, fun j h1 h2 => ⟨fourCall .active 15 j, ?_, by simp [fourCall, alarm, page], fun _ => by simp [fourCall]⟩,
    ⟨⟨by decide, by decide, ?_, fun j h1 h2 => ?_⟩, by decide +kernel, by decide +kernel⟩, ?_, ?_, ?_⟩
  · rw [slot_scene (isScene_alarmed _)]; rfl
  · rw [slot_four _ _ _ h2, if_pos h1]
  · rw [slot_scene (isScene_alarmed _)]; rfl
  · obtain rfl : j = 60 := by omega
    rw [slot_scene (isScene_alarmed _)]; rfl
  · refine ⟨fun j h1 h2 => by rw [slot_four _ _ _ h2, if_pos h1]; rfl, by decide, by decide,
      by rw [slot_four _ _ _ (by decide)]; rfl, .inl ⟨rfl, fun j x h1 h2 h3 hx _ => ?_⟩⟩
    obtain ⟨-, -, rfl⟩ := record_four hx
    simp [fourCall]; omega
  · refine ⟨fun j h1 h2 => by rw [slot_four _ _ _ h2, if_pos h1]; rfl, by decide, by decide,
      by rw [slot_four _ _ _ (by decide)]; rfl, .inr ⟨rfl, by decide, fun j x h1 h2 h3 hx => ?_⟩⟩
    obtain ⟨-, -, rfl⟩ := record_four hx
    exact ⟨by simp [fourCall, alarm, page], fun _ => .inr ⟨rfl, by simp [fourCall]; omega⟩⟩
  · rintro k ⟨h1, h2, ⟨r, a, hr, -, hp, ha⟩, -⟩
    obtain ⟨-, -, rfl⟩ := record_four hr
    obtain rfl : ⟨k - 59, false, 0⟩ = a := by injection hp
    simp at ha; omega

/-- The invariants that StartsByRequest and StartsByInput assume hold in its states. -/
theorem witness_AlarmsStart_invariants :
    ((alarmed (position .tone 0 48 0)).callsOk ∧ (alarmed (position .tone 0 48 0)).playersOk ∧
      (alarmed (position .tone 0 48 0)).sweepsHeld ∧ (alarmed (position .tone 0 48 0)).listingsOk) ∧
    ((four .ended 15).callsOk ∧ (four .ended 15).playersOk ∧ (four .ended 15).sweepsHeld ∧ (four .ended 15).listingsOk ∧
      (four .ended 15).noPending = true) ∧
    ((four .active 12).callsOk ∧ (four .active 12).playersOk ∧ (four .active 12).sweepsHeld ∧ (four .active 12).listingsOk ∧
      (four .active 12).noPending = true) :=
  ⟨⟨callsOk_alarmed _, playersOk_alarmed _ rfl, sweepsHeld_alarmed _, listingsOk_alarmed _⟩,
   four_inv _ _ fun i h _ => fourCall_ok _ _ _ (.inl rfl) (by decide) (by decide) h,
   four_inv _ _ fun i h _ => fourCall_ok _ _ _ (.inr rfl) (by decide) (by decide) h⟩

theorem test_startAlarm :
    said (after (.startAlarm .system 1 7) State.reset) .system = [(.badParam, [])] ∧
    said (after (.startAlarm .system 1 0) (alarmed (position .tone 0 48 0))) .system = [(.alreadyActive, [60, 1])] ∧
    said (after (.startAlarm .system 1 1) (withDeckAlarm State.reset)) .system = [(.notReady, [])] ∧
    said (after (.startAlarm .system 1 1) (withDeckAlarm decked)) .system = [(.noTargets, [0, 0])] ∧
    said (after (.startAlarm .system 1 0) (four .active 15)) .system = [(.alarmLimit, [])] ∧
    ((after (.startAlarm .system 1 0) (four .active 12)).slot 63).gen = 2 := by decide +kernel

/-- The states of StartsByInput: a level that came back; an OFF input; a release, LATCHED and HELD with the call it owns; an
activation. -/
theorem witness_StartsByInput :
    (let s := input0 .off true false (.running 0) none State.reset
     (s.trigger 0).timer = .running 0 ∧ s.noPending = true ∧ (s.trigger 0).mode = .off) ∧
    (let s := input0 .held false true (.running 0) (some ⟨60, 1⟩) (alarmed (position .tone 0 48 0))
     (s.trigger 0).owned = some ⟨60, 1⟩ ∧ s.call ⟨60, 1⟩ = some (alarm .active none) ∧ s.callsOk ∧ s.playersOk ∧ s.sweepsHeld ∧
       s.listingsOk ∧ s.noPending = true) ∧
    (let s := input0 .latched true false (.running 0) none (four .active 15)
     (s.trigger 0).pin = true ∧ (s.trigger 0).debounced = false ∧ s.program 0 = some .general ∧ NoSlot s 15 ∧
       s.callsOk ∧ s.playersOk ∧ s.sweepsHeld ∧ s.listingsOk) := by
  let x := position .tone 0 48 0
  have hf := four_inv .active 15 fun i h _ => fourCall_ok _ _ _ (.inr rfl) (by decide) (by decide) h
  refine ⟨by decide +kernel, ⟨by decide +kernel, by decide +kernel, callsOk_alarmed x, playersOk_alarmed x rfl,
    sweepsHeld_alarmed x, listingsOk_alarmed x, by decide +kernel⟩, by decide +kernel, by decide +kernel, by decide +kernel, ?_,
    hf.1, hf.2.1, hf.2.2.1, hf.2.2.2.1⟩
  exact witness_StartsByRequest.2.2.2.2.1

/-- An input's start displaces an ENDED alarm, or a live one of a lower level. -/
theorem witness_StartsByInput_displaced :
    (let s := input0 .held true false (.running 0) none (four .ended 15)
     s.callsOk ∧ s.playersOk ∧ s.sweepsHeld ∧ s.listingsOk ∧ s.noPending = true ∧ s.program 0 = some .general ∧
       Displaces s 15 60 (fourCall .ended 15 60)) ∧
    (let s := input0 .latched true false (.running 0) none (four .active 12)
     s.callsOk ∧ s.playersOk ∧ s.sweepsHeld ∧ s.listingsOk ∧ s.noPending = true ∧ s.program 0 = some .general ∧
       Displaces s 15 63 (fourCall .active 12 63) ∧ (∀ k, ¬ LiveAt s 0 k)) := by
  have he := four_inv .ended 15 fun i h _ => fourCall_ok _ _ _ (.inl rfl) (by decide) (by decide) h
  have ha := four_inv .active 12 fun i h _ => fourCall_ok _ _ _ (.inr rfl) (by decide) (by decide) h
  have hw := witness_StartsByRequest.2.2.2.2.2.2
  exact ⟨⟨he.1, he.2.1, he.2.2.1, he.2.2.2.1, by decide +kernel, by decide +kernel, hw.1⟩,
    ha.1, ha.2.1, ha.2.2.1, ha.2.2.2.1, by decide +kernel, by decide +kernel, hw.2.1, hw.2.2⟩

theorem test_input_displaces :
    (let t := after (.debounceExpiry 0) (input0 .held true false (.running 0) none (four .ended 15))
     (t.slot 60).gen = 2 ∧ (t.trigger 0).owned = some ⟨60, 2⟩ ∧ (t.trigger 0).lastResult = some .ok) ∧
    (let t := after (.debounceExpiry 0) (input0 .latched true false (.running 0) none (four .active 12))
     (t.slot 63).record.map (·.level) = some 15 ∧ (t.trigger 0).owned = none) := by decide +kernel

theorem test_debounceExpiry :
    (let t := after (.debounceExpiry 0) (input0 .held true false (.running 0) none State.reset)
     (t.slot 60).record.map (fun r => (r.state, r.level)) = some (.opening, 15) ∧ (t.trigger 0).owned = some ⟨60, 1⟩ ∧
     (t.trigger 0).lastResult = some .ok) ∧
    (let t := after (.debounceExpiry 0) (input0 .held false true (.running 0) (some ⟨60, 1⟩) (alarmed (position .tone 0 48 0)))
     (t.slot 60).record.map (·.reason) = some (some .inputReleased) ∧ (t.trigger 0).owned = none) ∧
    ((after (.debounceExpiry 0) (input0 .latched true false (.running 0) none (four .active 15))).trigger 0).pending = some 100 := by
  decide +kernel

/-- The states of AlarmStepsFollow: a tone that is over, before the last step; the last step of an endless program; a warble tone at
its switch, and one before it. Program 0 has 16 steps. -/
theorem witness_AlarmStepsFollow :
    RunsStep (alarmed (position .tone 0 0 0)) 60 .general (position .tone 0 0 0) ∧
    RunsStep (alarmed (position .silence 15 0 0)) 60 .general (position .silence 15 0 0) ∧
    (AlarmProgram.general.steps.length = 16 ∧ AlarmProgram.general.repeatCount = 0 ∧ AlarmProgram.general.shape = .steady) ∧
    (let s := { alarmed (position .tone 0 48 0) with
                programs := State.reset.programs.set 0 (some { AlarmProgram.general with shape := .warble, repeatCount := 1 }) }
     RunsStep s 60 { AlarmProgram.general with shape := .warble, repeatCount := 1 } (position .tone 0 48 0)) ∧
    (((checkingAlarm 2).player 1).call = some ((checkingAlarm 2).handleOf 60) ∧ ((checkingAlarm 2).player 1).phrase = some 3 ∧
      ((checkingAlarm 2).phrase 3).length ≤ ((checkingAlarm 2).player 1).offset ∧
      RunsStep (checkingAlarm 2) 60 .general ⟨1, 0, .phrase, 0, some 1, false, 0⟩) := by
  have hrun : ∀ x : StepPosition, x.player = none → RunsStep (alarmed x) 60 .general x := fun x hx =>
    ⟨by decide, by decide, rfl, rfl, callsOk_alarmed x, playersOk_alarmed x hx, listingsOk_alarmed x, alarm .active none, _,
      by rw [slot_scene (isScene_alarmed x)]; rfl, rfl, rfl⟩
  have hc : IsScene (checkingAlarm 2) 60 (alarm .active none) [heard 60 .alarm 15] := isScene_of (e := 10) rfl rfl (by decide)
  have hw : IsScene { alarmed (position .tone 0 48 0) with
      programs := State.reset.programs.set 0 (some { AlarmProgram.general with shape := .warble, repeatCount := 1 }) } 60
      (alarm .active none) [heard 60 .alarm 15] := isScene_of (e := 10) rfl rfl (by decide)
  refine ⟨hrun _ rfl, hrun _ rfl, by decide, ⟨by decide, by decide, rfl, rfl, ?_, playersOk_of (by decide +kernel),
    listingsOk_alarmed (position .tone 0 48 0), alarm .active none, _, by rw [slot_scene hw]; rfl, rfl, rfl⟩,
    by decide +kernel, by decide +kernel, by decide +kernel, by decide, by decide, rfl, rfl,
    callsOk_scene hc (by unfold Call.recordOk; decide) rfl, playersOk_checkingAlarm 2,
    listingsOk_scene hc (fun cl => by cases cl <;> decide) (fun cl => by cases cl <;> decide) (fun _ h => by cases h),
    alarm .active none, _, by rw [slot_scene hc]; rfl, rfl, rfl⟩
  refine ⟨(callsOk_alarmed (position .tone 0 48 0)).1, fun g hg => ?_⟩
  rcases Table.mem_set (t := State.reset.programs) hg with hg | hg
  · obtain rfl := Option.some.inj hg; decide
  · exact (callsOk_alarmed (position .tone 0 48 0)).2 g hg

theorem test_alarm_steps :
    ((after (.alarmStepEnd 60) (alarmed (position .tone 0 0 0))).alarmSeq 60).position = some ⟨1, 1, .silence, 48000, none, false, 0⟩ ∧
    ((after (.alarmStepEnd 60) (alarmed (position .silence 15 0 0))).alarmSeq 60).position = some ⟨2, 0, .tone, 48000, none, false, 0⟩ ∧
    after (.alarmStepEnd 60) (alarmed (position .tone 0 1 0)) = alarmed (position .tone 0 1 0) ∧
    ((after (.alarmPhraseComplete 1) (checkingAlarm 2)).player 1) = .idle ∧
    after (.warbleSwitch 60) (alarmed (position .tone 0 48 0)) = alarmed (position .tone 0 48 0) ∧
    (let s := { alarmed (position .tone 0 48 0) with
                programs := State.reset.programs.set 0 (some { AlarmProgram.general with shape := .warble, f2 := 1000 }) }
     (after (.warbleSwitch 60) s).alarmSeq 60 = ⟨some ⟨1, 0, .tone, 48, none, true, 12000⟩, 5, 89478485⟩) := by decide +kernel

/-- The hypotheses of ToneGeneratorIsTriangle: a tone's position and a silence's, and a step that begins a tone. -/
theorem witness_ToneGeneratorIsTriangle : (4000 : Nat) ≤ 4000 ∧
    ((alarmed (position .tone 0 48 0)).alarmSeq 60).position = some (position .tone 0 48 0) ∧
    ((alarmed (position .silence 1 48 0)).alarmSeq 60).position = some (position .silence 1 48 0) ∧
    AlarmProgram.general.steps[0]? = some (.tone 1000) ∧
    ({ AlarmProgram.general with steps := [.phrase 3] }.steps[0]? = some (.phrase 3) ∧ (State.reset.phrase 3).state ≠ .verified) := by
  decide +kernel

/-! ## Supervision -/

/-- Channel 10, nominal 800, in a state. -/
def line (st : ChannelState) : State := { State.reset with channels := State.reset.channels.set 10 ⟨some 800, st, ⟨0, false, false⟩⟩ }
/-- The active fault of a channel, of severity 2 or one without fallback. -/
def fault (c : Nat) (fallback : Bool) : ActiveFault := ⟨.channel c, .lineShort, 2, fallback, 1⟩

theorem test_classify :
    classify (some 800) 16 599 false true 0 = some .lineShort ∧ classify (some 800) 16 600 false true 0 = none ∧
    classify (some 800) 16 1000 false true 0 = none ∧ classify (some 800) 16 1001 false true 0 = some .lineOpen ∧
    classify none 16 0 true true 0 = some .ampProtect ∧ classify none 16 0 false false 65536 = some .ampSilent ∧
    classify none 16 0 false false 65535 = none := by decide

/-- Ports that learn channel 20. -/
def learner : State := { State.reset with bridge := portWith 0 (some learning) }

theorem witness_ReadingsCount : State.reset.noPending = true ∧ (160 ≤ 255) ∧ learner.learns .bridge 20 = true ∧
    (learner.port .bridge).inProgress = some ⟨.learnLine .bridge 3 20, .learning 20 (.running 240000)⟩ ∧
    ((State.reset.channelRec 159).state = .normal) := by decide +kernel

/-- The states of ReadingsConfirm: the third short of a zone IN_SERVICE, with a free spare and with none; of a severity without
FALLBACK; and of the spare of a zone in FALLBACK and of one SWITCHING. -/
theorem witness_ReadingsConfirm :
    (let s := line (.suspect .lineShort 2)
     s.noPending = true ∧ s.channelFault 10 = none ∧ s.learns .system 10 = false ∧ s.learns .bridge 10 = false ∧
     tableNext 3 5 (s.channelRec 10).state (classify (some 800) 16 599 false true 0) = .faulted .lineShort ∧
     (s.actionsOf (s.severityOf .lineShort)).fallback = true ∧ (s.ep 10).service = .inService) ∧
    GivesSpare (line (.suspect .lineShort 2)) 144 ∧
    (∀ c, ¬ GivesSpare { line (.suspect .lineShort 2) with spares := .fill 16 (some 20) } c) ∧
    ((line .normal).actionsOf 0).fallback = false ∧
    (let s := { scene 0 (page .active none) 20 { State.reset.ep 20 with service := .fallback, channel := 144 } with
                spares := State.reset.spares.set 0 (some 20) }
     s.spareOf 144 = some 20 ∧ (s.ep 20).service = .fallback ∧ (s.actionsOf (s.severityOf .ampProtect)).fallback = true) := by
  refine ⟨by decide +kernel, ?_, ?_, by decide +kernel, by decide +kernel⟩
  · exact ⟨by decide, by decide, by decide +kernel, by decide +kernel, fun d h1 h2 => by omega⟩
  · rintro c ⟨h1, h2, h3, -⟩
    rw [State.spareOf, show ({ line (.suspect .lineShort 2) with spares := .fill 16 (some 20) } : State).spares.get (c - 144) none =
      some 20 from Table.get_fill _ _ _ (by omega)] at h3
    cases h3

theorem test_supervisionReading :
    (let t := after (.supervisionReading 10 599 false true) (line (.suspect .lineShort 2))
     (t.channelRec 10).state = .faulted .lineShort ∧ (t.ep 10).service = .switching ∧ (t.ep 10).movingTo = some 144 ∧
     t.relay = [.returnAll, .move 10 144] ∧ t.faults.map (·.severity) = [2] ∧ t.bridge.attention = true) ∧
    ((after (.supervisionReading 10 600 false true) (line (.suspect .lineShort 2))).channelRec 10).state = .normal ∧
    said (after (.supervisionReading 20 800 false true) learner) .bridge =
      said { State.reset with bridge := portWith 0 none } .bridge ++ [(.ok, [3, 32])] := by decide +kernel

/-- The states of ReadingsClear: the fifth normal reading of a zone in FALLBACK, of one OUT_OF_SERVICE, of a spare with a zone waiting
for it; and a reading of another kind. -/
theorem witness_ReadingsClear :
    (let s := { line (.recovering .lineShort 4) with activeFaults := [fault 10 true] }
     s.noPending = true ∧ s.learns .system 10 = false ∧ s.learns .bridge 10 = false ∧
     (∀ f ∈ s.activeFaults, f.source = .channel 10 → f.kind = .lineShort) ∧
     tableNext 3 5 (s.channelRec 10).state (classify (some 800) 16 800 false true 0) = .normal ∧
     classify (some 800) 16 1001 false true 0 = some .lineOpen) ∧
    ((scene 0 (page .active none) 10 { zone with service := .fallback, channel := 144 }).ep 10).service = .fallback ∧
    ((scene 0 (page .active none) 10 { zone with service := .outOfService }).ep 10).service = .outOfService ∧
    (let s := { State.reset with spareWait := [⟨12, 4⟩, ⟨11, 5⟩] }
     s.spareOf 144 = none ∧ HeadsWait s ⟨12, 4⟩ ∧ State.reset.spareWait = []) := by
  refine ⟨by decide +kernel, by decide +kernel, by decide +kernel, by decide +kernel, ?_, rfl⟩
  unfold HeadsWait; decide +kernel

/-- A zone 10 SWITCHING toward a channel, its timer at 0. -/
def switching (c : Nat) (fs : List ActiveFault) (wait : List SpareWait) : State :=
  { scene 0 (page .active none) 10 { zone with service := .switching, channel := 144, movingTo := some c, switchTimer := .running 0 } with
    spares := State.reset.spares.set 0 (some 10), activeFaults := fs, spareWait := wait }

/-- The cases of SwitchesEnd at home with a fault of fallback yes on the primary: a spare held while zone 12 waits, the spare well or
faulted; and no spare held. -/
theorem witness_SwitchesEnd_home :
    (let s := switching 10 [fault 10 true] [⟨12, 4⟩]
     s.channelFault 10 = some (fault 10 true) ∧ (∀ w ∈ s.spareWait, w.zone ≠ 10) ∧ s.channelFault 144 = none ∧ HeadsWait s ⟨12, 4⟩) ∧
    (let s := switching 10 [fault 10 true, fault 144 false] [⟨12, 4⟩]
     s.channelFault 10 = some (fault 10 true) ∧ s.channelFault 144 ≠ none ∧ s.spareOf 144 = some 10) ∧
    (let s := { switching 10 [fault 10 true] [] with spares := State.reset.spares }
     (s.ep 10).movingTo = some 10 ∧ spareChannels.all (fun d => s.spareOf d != some 10) = true) := by
  refine ⟨⟨by decide +kernel, by decide, by decide +kernel, ?_⟩, by decide +kernel, by decide +kernel⟩
  unfold HeadsWait; decide +kernel

/-- The spare goes to the zone that waits before the zone itself asks (09 R174, R176). -/
theorem test_home_with_fault :
    (let t := after (.switchTimerExpiry 10) (switching 10 [fault 10 true] [⟨12, 4⟩])
     t.spareOf 144 = some 12 ∧ t.spareOf 145 = some 10 ∧ (t.ep 12).movingTo = some 144 ∧ (t.ep 10).movingTo = some 145 ∧
       t.spareWait = [] ∧ t.relay = State.reset.relay ++ [.move 12 144, .move 10 145]) ∧
    (let t := after (.switchTimerExpiry 10) (switching 10 [fault 10 true, fault 144 false] [⟨12, 4⟩])
     t.spareOf 144 = none ∧ t.spareOf 145 = some 10 ∧ t.spareWait = [⟨12, 4⟩]) ∧
    (after (.switchTimerExpiry 10) { switching 10 [fault 10 true] [] with spares := State.reset.spares }).spareOf 144 = some 10 := by
  decide +kernel

/-- The clauses of SwitchesEnd: a timer that does not run; arrived on the primary, which is well or has failed again, with a zone
waiting or none; arrived on the spare, with the primary's fault cleared, or still there, the spare well or failed. -/
theorem witness_SwitchesEnd :
    (State.reset.ep 10).switchTimer = .stopped ∧
    (let s := switching 10 [] [⟨12, 4⟩]
     (s.ep 10).switchTimer = .running 0 ∧ (s.ep 10).movingTo = some 10 ∧ s.noPending = true ∧ (∀ w ∈ s.spareWait, w.zone ≠ 10) ∧
     (∀ f, s.channelFault 10 = some f → f.fallback = false) ∧ s.spareOf 144 = some 10 ∧ s.channelFault 144 = none ∧
     HeadsWait s ⟨12, 4⟩) ∧
    (∀ d, 144 ≤ d → d < 160 → (switching 10 [] []).spareOf d = some 10 → d = 144) ∧
    ((switching 10 [fault 10 true] []).channelFault 10 = some (fault 10 true) ∧ (fault 10 true).fallback = true) ∧
    ((switching 144 [] []).channelFault 10 = none ∧ ((switching 144 [] []).ep 10).movingTo = some 144) ∧
    ((switching 144 [fault 10 true] []).channelFault 10 ≠ none ∧ (switching 144 [fault 10 true] []).channelFault 144 = none) ∧
    (switching 144 [fault 10 true, fault 144 true] []).channelFault 144 = some (fault 144 true) := by
  refine ⟨by decide +kernel, ?_, fun d h1 h2 h3 => ?_, by decide +kernel, by decide +kernel, by decide +kernel, by decide +kernel⟩
  · refine ⟨by decide +kernel, by decide +kernel, by decide, by decide, ?_, by decide +kernel, by decide +kernel, ?_⟩
    · intro f h; cases h
    · unfold HeadsWait; decide +kernel
  · by_contra h
    simp only [State.spareOf, switching, Table.get_set_ne _ 0 (d - 144) _ _ (by omega)] at h3
    rw [show State.reset.spares.get (d - 144) none = none from Table.get_fill _ _ _ (by omega)] at h3
    cases h3

theorem test_switchTimerExpiry :
    ((after (.switchTimerExpiry 10) (switching 10 [] [])).ep 10).service = .inService ∧
    (after (.switchTimerExpiry 10) (switching 10 [] [])).spareOf 144 = none ∧
    ((after (.switchTimerExpiry 10) (switching 144 [fault 10 true] [])).ep 10).service = .fallback ∧
    ((after (.switchTimerExpiry 10) (switching 144 [] [])).ep 10).movingTo = some 10 := by decide +kernel

theorem witness_OtherTimersEnd :
    ({ State.reset with linkTimer := .stopped }.linkTimer = .stopped ∧ State.reset.linkTimer = .running 144000) ∧
    ((playing.input 0).framing ≠ .acquiring ∧ (State.reset.input 3).framing = .acquiring ∧
      (State.reset.input 3).acquire = .running 4800) ∧
    (State.reset.port .bridge).inProgress = none ∧
    (learner.port .bridge).inProgress = some ⟨.learnLine .bridge 3 20, .learning 20 (.running 240000)⟩ := by decide +kernel

theorem test_timers :
    (let t := after .scanTimeoutExpiry State.reset
     t.linkTimer = .stopped ∧ t.activeFaults.map (·.kind) = [.scanTimeout]) ∧
    (let t := after (.acquireTimeout 3) State.reset
     (t.input 3).framing = .lost ∧ t.activeFaults.map (·.source) = [.inputPort 3]) ∧
    said (after (.learnTimeout .bridge) learner) .bridge = [(.timeout, [])] := by decide +kernel

theorem witness_SupervisorRequests :
    (State.reset.activeFault .link .scanTimeout = none ∧
      (after .scanTimeoutExpiry State.reset).activeFault .link .scanTimeout ≠ none) ∧
    (faulty.mayTake .bridge .lineSupervisor = true ∧ (∀ x ∈ State.reset.faults, x.reported .bridge = true) ∧
      (∀ y ∈ faulty.faults.take 0, y.reported .bridge = true) ∧ faulty.faults.map (·.reported .bridge) = [false, false] ∧
      faulty.faults.map (·.reported .system) = [false, true]) ∧
    (FaultSource.ofCode 0 20 = some (.channel 20) ∧ FaultKind.ofCode 1 = some .lineShort ∧
      faulty.faults.any (fun x => x.key == (.channel 20, .lineShort)) = true ∧ faulty.faultsOk) ∧
    (∀ so k, FaultSource.ofCode 3 5 = some so → FaultKind.ofCode 6 = some k → ∀ x ∈ faulty.faults, x.key ≠ (so, k)) := by
  refine ⟨by decide +kernel, by decide +kernel, ⟨by decide, by decide, by decide, faultsOk_faulty⟩, ?_⟩
  intro so k h1 h2
  obtain rfl : FaultSource.phrase 5 = so := Option.some.inj h1
  obtain rfl : FaultKind.phraseBad = k := Option.some.inj h2
  decide

theorem test_settings :
    (after (.setSupervision .bridge 1 (some 0) (some 255) (some 3) (some 159)) State.reset).supervision = ⟨1, 15, 3⟩ ∧
    said (after (.setSupervision .bridge 1 none none none none) State.reset) .bridge = [(.badParam, [])] ∧
    (after (.learnLine .bridge 1 159) State.reset).bridge.inProgress = some ⟨.learnLine .bridge 1 159, .learning 159 (.running 240000)⟩ ∧
    (after (.setSeverity .bridge 1 6 2) State.reset).severities.cells = [1, 2, 2, 1, 2, 1, 2] ∧
    said (after (.setSeverity .bridge 1 7 2) State.reset) .bridge = [(.badParam, [])] ∧
    (after (.setActions .bridge 1 0 (some 1) none) State.reset).actions.cells = [⟨true, false⟩, ⟨true, true⟩, ⟨true, true⟩] := by
  decide +kernel

theorem test_faultList :
    said (after (.faultNext .bridge 1 0) faulty) .bridge = [(.ok, [1, 0, 20, 1, 2, 0, 0, 1, 0])] ∧
    said (after (.faultNext .bridge 1 0) State.reset) .bridge = [(.ok, [0, 0, 0, 0, 0, 0, 0, 0, 0])] ∧
    said (after (.faultAck .bridge 1 0 20 1) faulty) .bridge = [(.ok, [0])] ∧
    (after (.faultAck .bridge 1 0 20 1) faulty).faults.map (·.acked) = [true, false] ∧
    said (after (.faultAck .bridge 1 0 21 1) faulty) .bridge = [(.badParam, [])] := by decide +kernel

theorem test_outputs :
    (after (.setPin .bridge 1 2 2 0 1) State.reset).faultOut 2 = ⟨.manual, true, true, true⟩ ∧
    (after (.setPin .bridge 1 2 1 2 0) faulty).faultOut 2 = ⟨.severity 2, false, true, true⟩ ∧
    said (after (.setPin .bridge 1 3 0 0 0) State.reset) .bridge = [(.badParam, [])] ∧
    (after (.pinAck .bridge 1 2) { State.reset with faultOuts := .fill 3 ⟨.manual, true, true, true⟩ }).faultOut 2 =
      ⟨.manual, true, true, false⟩ := by decide +kernel

/-! ## Descriptor lists, and the sources of a call -/

theorem witness_PassesCheck :
    ([⟨1, 175, 0, 0⟩, ⟨2, 175, 1, 0⟩, ⟨2, 0, 176, 0⟩, ⟨3, 15, 0, 0⟩, ⟨4, 7, 0, 0⟩, ⟨5, 15, 7, 0⟩, ⟨6, 9, 9, 9⟩, ⟨7, 0, 0, 0⟩,
      ⟨8, 0, 0, 0⟩] : List Descriptor).all (fun d => @decide (PassesCheck d) (by unfold PassesCheck; infer_instance)) = true ∧
    ([⟨0, 0, 0, 0⟩, ⟨9, 0, 0, 0⟩, ⟨1, 176, 0, 0⟩, ⟨2, 176, 1, 0⟩, ⟨2, 175, 0, 0⟩, ⟨2, 0, 177, 0⟩, ⟨3, 16, 0, 0⟩, ⟨4, 8, 0, 0⟩,
      ⟨5, 16, 7, 0⟩, ⟨5, 15, 8, 0⟩] : List Descriptor).all
        (fun d => !@decide (PassesCheck d) (by unfold PassesCheck; infer_instance)) = true := by decide

/-- The clauses of ListsAreChecked: lists of 0, 1, 16 and 17 descriptors; targets that need the geometry, at the boundary of RANGE,
with no deck in use and with one. -/
theorem witness_ListsAreChecked :
    NeedsDecks (namedTarget ⟨2, 143, 1, 0⟩) ∧ ¬ NeedsDecks (namedTarget ⟨2, 144, 1, 0⟩) ∧ NeedsDecks (namedTarget ⟨5, 15, 7, 0⟩) ∧
    (¬ ∃ k, k < 16 ∧ 0 < (State.reset.deck k).count) ∧ (∃ k, k < 16 ∧ 0 < (decked.deck k).count) ∧
    (List.replicate 16 (⟨1, 0, 0, 0⟩ : Descriptor)).length ≤ 16 ∧ ¬ (List.replicate 17 (⟨1, 0, 0, 0⟩ : Descriptor)).length ≤ 16 := by
  refine ⟨(by decide : 143 < 144), (by decide : ¬ 144 < 144), trivial, ?_, ⟨4, by decide, by decide +kernel⟩, by decide, by decide⟩
  rintro ⟨k, hk, h⟩
  exact absurd (show (List.range 16).all (fun k => decide ((State.reset.deck k).count = 0)) = true by decide +kernel)
    (fun h' => by have := List.all_eq_true.mp h' k (List.mem_range.mpr hk); simp at this; omega)

theorem test_checkTargets :
    State.reset.checkTargets [] = .error .badParam ∧ State.reset.checkTargets (List.replicate 17 ⟨1, 0, 0, 0⟩) = .error .badParam ∧
    State.reset.checkTargets [⟨4, 7, 0, 0⟩, ⟨1, 176, 0, 0⟩] = .error .badParam ∧
    State.reset.checkTargets [⟨1, 0, 0, 0⟩, ⟨4, 7, 0, 0⟩] = .error .notReady ∧
    State.reset.checkTargets [⟨2, 143, 1, 0⟩] = .error .notReady ∧ State.reset.checkTargets [⟨2, 144, 176, 0⟩] = .ok [.range 144 176] ∧
    decked.checkTargets [⟨4, 7, 0, 0⟩, ⟨8, 0, 0, 0⟩] = .ok [.fireZone 7, .everywhere] := by decide +kernel

/-- Each descriptor adds in its order what the ones before it have not; skipped endpoints are counted, listed ones are not. -/
theorem test_expansion :
    decked.expandAll [.range 78 4, .deck 4] = [78, 79, 144, 145] ++ (List.range 18).map (· + 60) ∧
    decked.expand .page [3] (fun e => e == 61) [.endpoint 147, .endpoint 61, .endpoint 60, .endpoint 60] = ([60], 1) ∧
    decked.expand .program [0] (fun _ => false) [.everywhere] = (List.range 144, 32) ∧
    (decked.expand .talk [] (fun _ => false) [.everywhere]).2 = 144 ∧
    (decked.expand .message [] (fun _ => false) [.everywhere]).2 = 0 := by decide +kernel

/-- The ranges of SourcesAreRead at their ends, and what is read there. -/
theorem test_openSource :
    openSource { pageFields with lane1 := 63 } .page = some ([63], .page) ∧
    openSource { programFields with lane1 := 63, lane2 := 63, holdLine := 3, holdLevel := some 16 } .program =
      some ([63, 63], .program (some 3) 15) ∧
    openSource { programFields with lane2 := 255, holdLine := 255, holdLevel := none } .program = some ([0], .program none 8) ∧
    openSource { programFields with holdLevel := some 7 } .program = some ([0, 1], .program (some 0) 8) ∧
    openSource { messageFields with phraseCount := 8, phraseIds := [127, 1, 2, 3, 4, 5, 6, 7], repeatCount := 15,
                                    repeatGap := 10000 } .message =
      some ([], .message ⟨[127, 1, 2, 3, 4, 5, 6, 7], 15, 10000, 0, 0, 1, none, .cueing⟩) ∧
    openSource { talkFields with duplex := 1 } .talk = some ([], .talk ⟨.lead, [], [], none⟩) := by decide +kernel

/-! ## Sweeps stopped by the end of their call -/

/-- A page's sweep of the Bridge Port, with the counts 2, 1, 3 so far. -/
def begun (kind : SweepKind) : Sweep := { sweepOver kind [11, 12] with taken := 2, skipped := 1, bumped := 3, removed := 4, notListed := 5 }
/-- The page is ACTIVE and heard at zone 10, with that sweep. -/
def swept (kind : SweepKind) : State := sweeping (page .active (some (begun kind))) 10 (heard 0 .page 5)
/-- The general alarm in slot 60, with an opening sweep that a request of the Bridge Port waits for. -/
def sweptAlarm (answers : Bool) : State :=
  { scene 60 (alarm .opening (some { begun .opening with answers })) 10 zone with
    bridge := portWith 0 (if answers then some ⟨.startAlarm .bridge 1 0, .sweeping 60⟩ else none) }

/-- The clauses of EndingsStopSweeps: sweeps of each kind, an alarm's, and one with no answer. -/
theorem witness_EndingsStopSweeps :
    ([SweepKind.add, .drop].all fun k => decide ((swept k).slot 0 = ⟨1, some (page .active (some (begun k)))⟩)) = true ∧
    (sweeping (page .opening (some (begun .opening))) 10 zone).slot 0 = ⟨1, some (page .opening (some (begun .opening)))⟩ ∧
    ((swept .add).port .bridge).inProgress = some ⟨.openCall .bridge 1 pageFields, .sweeping 0⟩ ∧
    ((sweptAlarm true).slot 60).record.map (·.type) = some .alarm ∧
    ((sweptAlarm true).port .bridge).inProgress = some ⟨.startAlarm .bridge 1 0, .sweeping 60⟩ ∧
    ((sweptAlarm false).slot 60).record.map (·.sweep) = some (some { begun .opening with answers := false }) := by decide +kernel

theorem test_endings_stop_sweeps :
    said (State.endCall (swept .add) ⟨0, 1⟩ .cleared) .bridge = [(.cleared, [0, 1, 2, 1, 3, 0])] ∧
    said (State.endCall (swept .drop) ⟨0, 1⟩ .phraseFailed) .bridge = [(.unknownCall, [4, 5, 3])] ∧
    said (State.endCall (sweeping (page .opening (some (begun .opening))) 10 zone) ⟨0, 1⟩ .phraseFailed) .bridge =
      [(.notReady, [0, 1, 2, 1, 3, 0])] ∧
    said (State.endCall (sweptAlarm true) ⟨60, 1⟩ .displaced) .bridge = [(.unknownCall, [60, 1, 2, 1, 3, 0])] ∧
    said (State.endCall (sweptAlarm false) ⟨60, 1⟩ .displaced) .bridge = [] := by decide +kernel

/-- RETIRE_CALL and CLEAR_CALLS of the System Port meet a sweep of the Bridge Port. -/
theorem witness_stopped_sweeps :
    (swept .add).mayTake .system .callTable = true ∧ (swept .add).sweepsHeld ∧ (swept .add).listingsOk ∧
    (swept .add).noPending = true ∧ (begun .add).kind ≠ .opening ∧
    ((swept .add).port .bridge).inProgress = some ⟨.openCall .bridge 1 pageFields, .sweeping 0⟩ :=
  ⟨by decide +kernel, sweepsHeld_of (by decide +kernel), listingsOk_of (by decide +kernel), by decide, by decide, rfl⟩

theorem test_stopped_sweeps :
    (let t := after (.retireCall .system 1 ⟨0, 1⟩) (swept .drop)
     said t .system = [(.ok, [])] ∧ said t .bridge = [(.unknownCall, [4, 5, 3])]) ∧
    (let t := after (.clearCalls .system 1) (swept .add)
     said t .system = [(.ok, [1])] ∧ said t .bridge = [(.cleared, [0, 1, 2, 1, 3, 0])]) := by decide +kernel

/-- A page that is ENDING and listed nowhere, with a departing term that has still this coefficient to fall. -/
def lastTerm : Call := { page .ending none with listingCount := 0, heardCount := 0 }
def fading (applied : Nat) : State :=
  scene 0 lastTerm 10 { zone with dep0 := some ⟨⟨⟨0, 1⟩, .page, 32768, 32768, 7, 0, applied⟩, 5, none⟩ }

theorem witness_FadedCallsEnd :
    ((fading 65535).takeDue = fading 65535 ∧ (fading 65535).noPending = true ∧
      (fading 65535).slot 0 = ⟨1, some lastTerm⟩) ∧
    ((fading 1).takeDue = fading 1 ∧ (fading 1).slot 0 = ⟨1, some lastTerm⟩) := by decide +kernel

theorem test_fading :
    ((after (.audioFrameBoundary silent) (fading 65535)).slot 0).record.map (·.state) = some .ending ∧
    ((after (.audioFrameBoundary silent) (fading 1)).slot 0).record.map (fun r => (r.state, r.reason)) =
      some (.ended, some .retired) ∧
    (after (.audioFrameBoundary silent) (fading 1)).expiries = [⟨0, 1, .running 240000⟩] := by decide +kernel

/-! ## The last endpoint of a sweep, at a full wait list and for an ADD sweep -/

/-- Zone 10 with a page of slot 1 heard and those of slots 2 to 7 waiting: a listing of level 5 that comes is bumped at once. -/
def crowd : Endpoint :=
  { heard 1 .page 5 with fgWait := (List.range 6).map fun i => listing (i + 2) .page 5 }
/-- The page of slot 0 at the last endpoint of a sweep, zone 10, with the crowd's pages; its own listings elsewhere are given. -/
def lastSweep (kind : SweepKind) (sw : Sweep) (ep : Endpoint) (es : List (Nat × Endpoint)) : State :=
  { cast ((0, page (if kind = .opening then .opening else .active) (some sw)) :: (List.range 7).map fun i => (i + 1, page .active none))
      ((10, ep) :: es) with
    bridge := { PortRec.initial with inProgress := some ⟨.openCall .bridge 1 pageFields, .sweeping 0⟩ } }

/-- A state meets the hypotheses of SweepEnds with a call's sweep at zone 10. -/
def EndsAt (s : State) (c : Call) (sw : Sweep) : Prop :=
  SweepAt s 0 c sw 10 [] ∧ s.sweepsHeld ∧ s.listingsOk ∧ sw.kind ≠ .drop ∧ c.state.live = true

theorem endsAt_of {s : State} {c : Call} {sw : Sweep} (h1 : (s.slot 0).record = some c) (h2 : c.sweep = some sw)
    (h3 : sw.rest = [10]) (h4 : s.sweepHasTurn sw = true) (h5 : s.noPending = true) (h6 : sweepsCheck s = true)
    (h7 : listingsCheck s = true) (h8 : sw.kind ≠ .drop) (h9 : c.state.live = true) : EndsAt s c sw :=
  ⟨⟨by decide, h1, h2, h3, by decide, h4, h5⟩, sweepsHeld_of h6, listingsOk_of h7, h8, h9⟩

/-- The clauses of SweepEnds beside those of witness_SweepEnds: an arrival that waits; one that is bumped, of an opening and of an ADD
sweep, with a listing at zone 11 and with none; and an ADD sweep that skips its last endpoint and has no listing. -/
theorem witness_SweepEnds_more :
    (let sw := lastOf .opening 0 none
     EndsAt (lastSweep .opening sw (heard 1 .page 5) []) (page .opening (some sw)) sw) ∧
    (∀ kind, kind = .opening ∨ kind = .add → ∀ es, es = [] ∨ es = [(11, heard 0 .page 5)] →
      let sw := lastOf kind 1 none
      let s := lastSweep kind sw crowd es
      EndsAt s (page (if kind = .opening then .opening else .active) (some sw)) sw ∧
      .lost ⟨0, 1⟩ .bump ∈ ((s.ep 10).arrive s.ctx .foreground (listing 0 .page 5)).2) ∧
    (let sw := lastOf .add 0 (some .displaced)
     let s := lastSweep .add sw { zone with enabled := false } []
     EndsAt s (page .active (some sw)) sw ∧ Skips s (page .active (some sw)) 10 ∧
     ∀ ep ∈ s.endpoints.cells, ep.lists ⟨0, 1⟩ = false) := by
  refine ⟨endsAt_of ?_ rfl rfl ?_ rfl ?_ ?_ (by decide) rfl, ?_, endsAt_of ?_ rfl rfl ?_ rfl ?_ ?_ (by decide) rfl, .inl ?_, ?_⟩
  case refine_5 =>
    rintro kind (rfl | rfl) es (rfl | rfl) <;>
      exact ⟨endsAt_of (by decide +kernel) rfl rfl (by decide +kernel) rfl (by decide +kernel) (by decide +kernel) (by decide) rfl,
        by decide +kernel⟩
  all_goals decide +kernel

theorem test_sweep_end_bumped :
    (let t := after (.sweepDelivery 0) (lastSweep .opening (lastOf .opening 0 none) (heard 1 .page 5) [])
     (t.slot 0).record.map (·.state) = some .active ∧ said t .bridge = [(.ok, [0, 1, 1, 0, 0, 0])]) ∧
    (let t := after (.sweepDelivery 0) (lastSweep .opening (lastOf .opening 1 none) crowd [(11, heard 0 .page 5)])
     (t.slot 0).record.map (·.state) = some .active ∧ said t .bridge = [(.ok, [0, 1, 2, 0, 1, 1])]) ∧
    (let t := after (.sweepDelivery 0) (lastSweep .opening (lastOf .opening 1 none) crowd [])
     (t.slot 0).record.map (fun r => (r.state, r.reason)) = some (.ended, some .displaced) ∧
       said t .bridge = [(.noTargets, [0, 1, 2, 0, 1, 0])]) ∧
    (let t := after (.sweepDelivery 0) (lastSweep .add (lastOf .add 1 none) crowd [])
     (t.slot 0).record.map (fun r => (r.state, r.reason)) = some (.ended, some .displaced) ∧
       said t .bridge = [(.ok, [0, 1, 2, 0, 1, 0])]) ∧
    (let t := after (.sweepDelivery 0) (lastSweep .add (lastOf .add 0 (some .displaced)) { zone with enabled := false } [])
     (t.slot 0).record.map (·.reason) = some (some .displaced) ∧ said t .bridge = [(.ok, [0, 1, 0, 1, 0, 0])]) := by decide +kernel

/-! ## The arbiter -/

/-- A message of phrase 3 at level 5 that waits for a player, PAUSED in repeat 2; and one that holds player `i`. -/
def waiting : MessagePart := ⟨[3], 0, 0, 0, 0, 2, none, .paused⟩
def holding (i : Nat) : MessagePart := ⟨[3], 0, 0, 0, 0, 1, some i, .playing⟩
/-- A message call with a level and a stamp of its opening. -/
def messageAt (level seq : Nat) (m : MessagePart) : Call := { messageCall m with level, openSeq := seq }

/-- Every message that waits comes after the call of a handle. -/
def firstCheck (s : State) (h : Handle) (c : Call) : Bool :=
  (List.range 64).all fun i => (s.slot i).record.all fun d =>
    match d.part with
    | .message n => !(d.state == .active && decide (0 < s.heardCount (s.handleOf i)) && n.player.isNone) || s.handleOf i == h ||
        decide (d.level < c.level ∨ (d.level = c.level ∧ c.openSeq < d.openSeq))
    | _ => true

theorem firstWaiting_of {s : State} {h : Handle} {c : Call} {m : MessagePart} (hw : WaitsForPlayer s h c m)
    (hf : firstCheck s h c = true) : FirstWaiting s h c m := by
  refine ⟨hw, fun k d n ⟨hs, hp, ha, hh, hn, _⟩ hk => ?_⟩
  have hr : (s.slot k.slot).record = some d := by rw [hs]
  have hk' : s.handleOf k.slot = k := by rw [State.handleOf, hs]
  have := List.all_eq_true.mp hf k.slot (List.mem_range.mpr (lt_of_record hr))
  simpa [hr, hp, ha, hh, hn, hk, hk'] using this

/-- Two messages of one level wait, the earlier in slot 2; no player is taken. -/
def twoWait : State :=
  cast [(1, messageAt 5 9 waiting), (2, messageAt 5 8 waiting), (3, messageAt 4 1 waiting)]
    [(10, heard 1 .message 5), (11, heard 2 .message 5), (12, heard 3 .message 4)]

/-- The messages of slots 1 to 4 hold the players. -/
def allHold (level : Nat → Nat) : State :=
  { cast ((List.range 4).map fun i => (i + 1, messageAt (level (i + 1)) (i + 1) (holding i)))
      ((List.range 4).map fun i => (i + 10, heard (i + 1) .message (level (i + 1)))) with
    players := .build 4 fun i => ⟨some ⟨i + 1, 1⟩, some 3, 5, false, 0⟩ }

/-- Among equals the message opened last holds the player that an ALARM takes. -/
theorem witness_AlarmsTakePlayers :
    (∀ i, i < 4 → ((allHold fun _ => 5).player i).call ≠ none) ∧
    HoldsPlayer (allHold fun _ => 5) ⟨4, 1⟩ (messageAt 5 4 (holding 3)) (holding 3) 3 ∧
    (∀ k d n l, HoldsPlayer (allHold fun _ => 5) k d n l → k ≠ ⟨4, 1⟩ →
      5 < d.level ∨ (5 = d.level ∧ d.openSeq < 4)) ∧ (messageAt 5 4 (holding 3)).openSeq = 4 := by
  refine ⟨by decide +kernel, by unfold HoldsPlayer; decide +kernel, fun k d n l ⟨hs, _, _⟩ hk => ?_, rfl⟩
  have hr : ((allHold fun _ => 5).slot k.slot).record = some d := by rw [hs]
  have hg : (allHold fun _ => 5).handleOf k.slot = k := by rw [State.handleOf, hs]
  have hall : (List.range 64).all (fun i => ((allHold fun _ => 5).slot i).record.all fun d =>
      (allHold fun _ => 5).handleOf i == ⟨4, 1⟩ || decide (5 < d.level ∨ (5 = d.level ∧ d.openSeq < 4))) = true := by decide +kernel
  have := List.all_eq_true.mp hall k.slot (List.mem_range.mpr (lt_of_record hr))
  simpa [hr, hg, hk] using this

theorem witness_MessagesTakePlayers :
    LowestIdle twoWait 0 ∧ FirstWaiting twoWait ⟨2, 1⟩ (messageAt 5 8 waiting) waiting ∧
    LowestIdle { allHold (fun _ => 5) with players := (allHold fun _ => 5).players.set 3 .idle } 3 ∧
    (∀ i, i < 4 → ((allHold fun _ => 5).player i).call ≠ none) := by
  refine ⟨⟨by decide, by decide +kernel, fun j hj => by omega⟩,
    firstWaiting_of ⟨?_, rfl, rfl, ?_, rfl, .inr rfl⟩ ?_, ⟨by decide, ?_, ?_⟩, ?_⟩ <;> decide +kernel

theorem test_arbiter :
    (List.range 4).map (fun i => (twoWait.servePlayers.player i).call) = [some ⟨2, 1⟩, some ⟨1, 1⟩, some ⟨3, 1⟩, none] ∧
    (allHold fun _ => 5).playerForAlarm.2 = some 3 ∧ (allHold fun i => if i = 2 then 4 else 5).playerForAlarm.2 = some 1 ∧
    ((allHold fun _ => 5).playerForAlarm.1.slot 4).record.map (·.part) =
      some (.message { holding 3 with player := none, playback := .paused }) := by decide +kernel

/-- A message that is heard nowhere, and one that is. -/
theorem witness_UnheardMessagesPause :
    (let s := sounding message (inPhrase 1 true)
     s.noPending = true ∧ HoldsPlayer s ⟨1, 1⟩ (messageCall message) message 0 ∧ 0 < s.heardCount ⟨1, 1⟩ ∧ s.playersOk) ∧
    (let s := { sounding message (inPhrase 1 true) with endpoints := State.reset.endpoints }
     s.noPending = true ∧ HoldsPlayer s ⟨1, 1⟩ (messageCall message) message 0 ∧ s.heardCount ⟨1, 1⟩ = 0 ∧
       (s.player 0).call = some ⟨1, 1⟩) := by
  refine ⟨⟨rfl, ?_, ?_, playersOk_sounding _ _ _ _ _ rfl rfl⟩, rfl, ?_, ?_, ?_⟩ <;> (try unfold HoldsPlayer) <;> decide +kernel

theorem test_unheard_message :
    let s := { sounding message (inPhrase 1 true) with endpoints := State.reset.endpoints }
    ((settle s s).slot 1).record.map (·.part) = some (.message { message with player := none, playback := .paused }) ∧
    (settle s s).player 0 = .idle := by decide +kernel

/-- An alarm at a PHRASE step has played its phrase on player 1, the other players are taken, and the message of slot 4 waits. -/
def contested (steps : List AlarmStep) : State :=
  { cast ((60, alarm .active none) :: (4, messageAt 7 9 waiting) ::
        [0, 2, 3].map fun i => (i + 5, messageAt (i + 4) i (holding i)))
      ((9, heard 4 .message 7) :: (20, heard 60 .alarm 15) :: [0, 2, 3].map fun i => (i + 10, heard (i + 5) .message (i + 4))) with
    players := .build 4 fun i => if i = 1 then ⟨some ⟨60, 1⟩, some 3, 2, false, 0⟩ else ⟨some ⟨i + 5, 1⟩, some 3, 1, false, 0⟩
    alarms := State.reset.alarms.set 0 ⟨some ⟨1, 0, .phrase, 0, some 1, false, 0⟩, 0, toneIncrement 800⟩
    programs := State.reset.programs.set 0 (some { AlarmProgram.general with steps })
    phrases := State.reset.phrases.set 3 ⟨.verified, 0, 2, 0⟩ }

/-- The freed player's clause of AlarmStepsFollow: the next step asks for no player, or for one that a lower message holds. -/
theorem witness_AlarmStepsFollow_freed (steps : List AlarmStep) (hs : steps = [.phrase 3, .tone 10] ∨ steps = [.phrase 3, .phrase 3]) :
    RunsStep (contested steps) 60 { AlarmProgram.general with steps } ⟨1, 0, .phrase, 0, some 1, false, 0⟩ ∧
    ((contested steps).player 1).call = some ((contested steps).handleOf 60) ∧ ((contested steps).player 1).phrase = some 3 ∧
    ((contested steps).phrase 3).length ≤ ((contested steps).player 1).offset ∧
    (∀ j, j < 4 → ((contested steps).player j).call ≠ none) ∧
    FirstWaiting (contested steps) ⟨4, 1⟩ (messageAt 7 9 waiting) waiting ∧
    NextIndex { AlarmProgram.general with steps } ⟨1, 0, .phrase, 0, some 1, false, 0⟩ 1 ∧
    HoldsPlayer (contested steps) ⟨5, 1⟩ (messageAt 4 0 (holding 0)) (holding 0) 0 ∧
    (messageAt 4 0 (holding 0)).level < (messageAt 7 9 waiting).level := by
  rcases hs with rfl | rfl <;>
    refine ⟨⟨by decide, by decide, ?_, ?_, callsOk_of ?_, playersOk_of ?_, listingsOk_of ?_, alarm .active none, _, ?_, rfl, ?_⟩,
      ?_, ?_, ?_, ?_, firstWaiting_of ⟨?_, rfl, rfl, ?_, rfl, .inr rfl⟩ ?_, .inl ⟨by decide, rfl⟩, ⟨?_, rfl, rfl⟩, by decide⟩ <;>
    decide +kernel

/-- The waiting message takes the freed player, and the alarm's next phrase the lowest message's (07 R137, R138). -/
theorem test_freed_player :
    (let t := after (.alarmPhraseComplete 1) (contested [.phrase 3, .phrase 3])
     (List.range 4).map (fun i => (t.player i).call) = [some ⟨60, 1⟩, some ⟨4, 1⟩, some ⟨7, 1⟩, some ⟨8, 1⟩] ∧
       (t.slot 5).record.map (·.part) = some (.message { holding 0 with player := none, playback := .paused })) ∧
    (let t := after (.alarmPhraseComplete 1) (contested [.phrase 3, .tone 10])
     (t.player 1).call = some ⟨4, 1⟩ ∧ (t.player 0).call = some ⟨5, 1⟩) := by decide +kernel

/-- A player that plays an alarm's phrase goes on though the alarm is heard nowhere: the last clause of BoundaryCounts. -/
theorem witness_BoundaryCounts_alarm :
    let s := { checkingAlarm 0 with
               calls := State.reset.calls.set 60 ⟨1, some { alarm .active none with listingCount := 0, heardCount := 0 }⟩
               endpoints := State.reset.endpoints, verifyQueue := [] }
    s.takeDue = s ∧ s.noPending = true ∧ s.playersOk ∧ (s.player 1).call = some ⟨60, 1⟩ ∧ s.heardCount ⟨60, 1⟩ = 0 ∧
    (s.call ⟨60, 1⟩).map (·.type) = some .alarm ∧
    (after (.audioFrameBoundary silent) s).player 1 = (s.player 1).advance := by
  refine ⟨?_, ?_, playersOk_of ?_, ?_⟩ <;> decide +kernel

/-- A call whose opening sweep still goes on is displaced for an alarm, or ended by the check of its phrase: the sweep's answer. -/
def displacedSweep : State :=
  { cast ((60, { fourCall .opening 12 60 with sweep := some { begun .opening with rest := [11, 12] } }) ::
      [61, 62, 63].map fun i => (i, fourCall .active 13 i)) [] with
    programs := .fill 8 (some .general)
    bridge := { PortRec.initial with inProgress := some ⟨.startAlarm .bridge 1 1, .sweeping 60⟩ } }

theorem witness_StartsByRequest_displaced_sweep :
    displacedSweep.mayTake .system .alarmSequencer = true ∧ displacedSweep.noPending = true ∧ displacedSweep.callsOk ∧
    displacedSweep.playersOk ∧ displacedSweep.sweepsHeld ∧ displacedSweep.listingsOk ∧
    (displacedSweep.slot 60).record = some { fourCall .opening 12 60 with sweep := some { begun .opening with rest := [11, 12] } } ∧
    ((fourCall .opening 12 60).level = 12 ∧ ∀ i, 61 ≤ i → i < 64 → (displacedSweep.slot i).record = some (fourCall .active 13 i)) :=
  ⟨by decide +kernel, by decide +kernel, callsOk_of (by decide +kernel), playersOk_of (by decide +kernel),
    sweepsHeld_of (by decide +kernel), listingsOk_of (by decide +kernel), by decide +kernel, by decide +kernel⟩

theorem test_displaced_sweep :
    let t := after (.startAlarm .system 2 0) displacedSweep
    said t .bridge = [(.unknownCall, [60, 1, 2, 1, 3, 0])] ∧ t.system.inProgress = some ⟨.startAlarm .system 2 0, .sweeping 60⟩ ∧
    (t.slot 60).gen = 2 := by decide +kernel

/-- The check of phrase 3 fails while the message that names it has an ADD sweep. -/
def checkingSweep : State :=
  { cast [(1, { messageCall message with sweep := some (begun .add) })] [(10, heard 1 .message 5)] with
    players := State.reset.players.set 0 (inPhrase 0 false)
    phrases := State.reset.phrases.set 3 ⟨.verified, 0, 2, 1⟩, verifyQueue := [3]
    bridge := { PortRec.initial with inProgress := some ⟨.addTargets .bridge 1 ⟨1, 1⟩ [], .sweeping 1⟩ } }

theorem witness_VerifyUnit_sweep : checkingSweep.listingsOk ∧ checkingSweep.sweepsHeld ∧
    checkingSweep.call ⟨1, 1⟩ = some { messageCall message with sweep := some (begun .add) } :=
  ⟨listingsOk_of (by decide +kernel), sweepsHeld_of (by decide +kernel), by decide +kernel⟩

theorem test_verify_sweep : said (after (.verifyBlockRead 2) checkingSweep) .bridge = [(.unknownCall, [1, 1, 2, 1, 3, 0])] := by
  decide +kernel

/-- A turn that the other port does not ask for leaves the mark; one that it asks for sets it (10 R185). -/
theorem test_marks :
    (after (.retireCall .system 1 ⟨0, 0⟩) State.reset).marks.callTable = .bridge ∧
    (after (.retireCall .system 1 ⟨0, 0⟩)
      { State.reset with bridge := portWith 0 (some ⟨.retireCall .bridge 1 ⟨0, 0⟩, .waiting⟩) }).marks.callTable = .system := by
  decide +kernel

/-- The time left of a debounce timer, a duration in ms, takes two bytes (10 R178; layout log 18). -/
theorem test_trigger_data : (Trigger.data ⟨3, .held, true, false, .running 960, none, none, none⟩).map BitVec.toNat =
    [3, 2, 1, 0, 1, 0, 20, 0, 0, 0, 0, 0, 0] := by decide

/-! ## Disabling, bumps of other calls' listings, interruptions, pending starts -/

/-- `placesOk` as a check. -/
def placesCheck (s : State) : Bool :=
  s.endpoints.cells.all fun ep => [ListClass.foreground, .background].all fun cl =>
    ((ep.slot cl).isSome || (ep.wait cl).isEmpty) && decide ((ep.wait cl).length ≤ waitCap cl) &&
    decide ((ep.wait cl).Pairwise fun a b => b.level ≤ a.level) && (ep.wait cl).all (·.type.listClass == cl) &&
    (ep.slot cl).all fun a => a.listing.type.listClass == cl && (ep.wait cl).all fun l => decide (l.level ≤ a.listing.level)

theorem placesOk_of {s : State} (h : placesCheck s = true) : s.placesOk := by
  intro ep hep
  have hcl : ∀ cl, Machine.placesOk cl (ep.slot cl) (ep.wait cl) := by
    intro cl
    have := List.all_eq_true.mp (List.all_eq_true.mp h ep hep) cl (by cases cl <;> simp)
    simp only [Bool.and_eq_true] at this
    obtain ⟨⟨⟨⟨h1, h2⟩, h3⟩, h4⟩, h5⟩ := this
    refine ⟨fun hn => by simpa [hn] using h1, fun a ha l hl => ?_, by simpa using h2, by simpa using h3, fun a ha => ?_,
      by simpa using h4⟩
    · simp only [ha, Option.all_some, Bool.and_eq_true, List.all_eq_true] at h5
      simpa using h5.2 l hl
    · simp only [ha, Option.all_some, Bool.and_eq_true] at h5
      simpa using h5.1
  exact ⟨hcl .foreground, hcl .background⟩

/-- Zone 10 and station 175 hear the page of slot 0, which has a sweep or none. -/
def listedTwice (sweep : Option Sweep) (also : Bool) : State :=
  { cast [(0, page .active sweep)] ((10, heard 0 .page 5) :: if also then [(175, heard 0 .page 5)] else []) with
    bridge := { PortRec.initial with inProgress := sweep.map fun _ => ⟨.openCall .bridge 1 pageFields, .sweeping 0⟩ } }

/-- The clauses of DisablingDelists: a call's only listing, with no sweep, a DROP sweep and an ADD sweep; one of two listings; at zone
10 and at endpoint 175. -/
theorem witness_DisablingDelists :
    (∀ sweep, sweep = none ∨ sweep = some (begun .drop) ∨ sweep = some (begun .add) → ∀ also, also = true ∨ also = false →
      let s := listedTwice sweep also
      s.mayTake .system .endpointTable = true ∧ s.callsOk ∧ s.sweepsHeld ∧ s.listingsOk ∧ s.placesOk ∧
      (s.ep 10).enabled = true ∧ (s.ep 10).lists ⟨0, 1⟩ = true ∧ s.call ⟨0, 1⟩ = some (page .active sweep) ∧
      (s.ep 175).lists ⟨0, 1⟩ = also ∧ (s.ep 175).enabled = true) ∧
    (page .active (some (begun .add))).delivering = true ∧ (page .active (some (begun .drop))).delivering = false := by
  refine ⟨?_, by decide, by decide⟩
  rintro sweep (rfl | rfl | rfl) also (rfl | rfl) <;>
    exact ⟨by decide +kernel, callsOk_of (by decide +kernel), sweepsHeld_of (by decide +kernel), listingsOk_of (by decide +kernel),
      placesOk_of (by decide +kernel), by decide +kernel, by decide +kernel, by decide +kernel, by decide +kernel, by decide +kernel⟩

theorem test_disabling :
    let off := fun s => after (.setEndpoint .system 1 10 none none (some 0) none) s
    ((off (listedTwice none false)).slot 0).record.map (fun r => (r.state, r.reason)) = some (.ending, some .noTargets) ∧
    said (off (listedTwice (some (begun .drop)) false)) .bridge = [(.unknownCall, [4, 5, 3])] ∧
    ((off (listedTwice (some (begun .add)) false)).slot 0).record.bind (·.sweep) =
      some { begun .add with lastLoss := some .noTargets } ∧
    ((off (listedTwice none true)).slot 0).record.map (·.state) = some .active ∧
    said (after (.setEndpoint .system 1 10 none none (some 2) none) (listedTwice none true)) .system = [(.badParam, [])] := by
  decide +kernel

/-- The last endpoint that a TALK of three loses, and the one that ends it. -/
def talkDropping (three : Bool) : State :=
  let ps : List Participant := ⟨145, true⟩ :: ⟨144, false⟩ :: if three then [⟨175, false⟩] else []
  { cast [(2, { talk with sweep := some (sweepOver .drop [145]), part := .talk ⟨.lead, ps, [], none⟩ })]
      (ps.map fun x => (x.station, { State.reset.ep x.station with fg := some (admitted 2 .talk 5) })) with
    bridge := { PortRec.initial with inProgress := some ⟨.dropTargets .bridge 1 ⟨2, 1⟩ [], .sweeping 2⟩ } }

theorem witness_DropSweep_talk :
    ([true, false].all fun three => listingsCheck (talkDropping three) && sweepsCheck (talkDropping three) &&
      ((talkDropping three).ep 145).lists ⟨2, 1⟩ && (talkDropping three).noPending &&
      ((talkDropping three).slot 2).record.any fun c => c.state == .active && c.sweep == some (sweepOver .drop [145])) = true := by
  decide +kernel

theorem test_drop_talk :
    ((after (.dropSweepRemoval 2) (talkDropping true)).slot 2).record.map (fun r => (r.state, r.part)) =
      some (.active, .talk ⟨.lead, [⟨144, false⟩, ⟨175, false⟩], [], none⟩) ∧
    (match ((after (.dropSweepRemoval 2) (talkDropping false)).slot 2).record.map (·.part) with
      | some (.talk k) => decide (k.participants = [] ∧ k.keptLeader = some 144)
      | _ => false) = true := by decide +kernel

/-- The page of slot 0, now at level 6, comes to an endpoint crowded with pages of level 5: slot 7's listing is the last. -/
def pushing (e : Nat) (rest : List Nat) (sweep7 : Option Sweep) (es : List (Nat × Endpoint)) : State :=
  { cast ((0, { page .opening (some (sweepOver .opening (e :: rest))) with level := 6 }) ::
        (7, page .active sweep7) :: (List.range 6).map fun i => (i + 1, page .active none)) ((e, crowd) :: es) with
    bridge := { PortRec.initial with inProgress := some ⟨.openCall .bridge 1 pageFields, .sweeping 0⟩ }
    system := { PortRec.initial with inProgress := sweep7.map fun _ => ⟨.addTargets .system 1 ⟨7, 1⟩ [], .sweeping 7⟩ }
    marks := { State.reset.marks with callTable := .system } }

/-- A sweep of slot 7's call by the System Port. -/
def sweep7 (kind : SweepKind) : Sweep := { begun kind with port := .system }

/-- The clauses of BumpsAreCounted: the bumped listing's call has an ADD sweep, a DROP sweep or none; it is listed elsewhere or
nowhere; at zone 10 with an endpoint to come, and at endpoint 175 as the sweep's last. -/
theorem witness_BumpsAreCounted :
    ∀ e rest, e = 10 ∧ rest = [20] ∨ e = 175 ∧ rest = [] → ∀ w, w = none ∨ w = some (sweep7 .add) ∨ w = some (sweep7 .drop) →
    ∀ es, es = [] ∨ es = [(30, heard 7 .page 5)] →
      let s := pushing e rest w es
      let c := { page .opening (some (sweepOver .opening (e :: rest))) with level := 6 }
      SweepAt s 0 c (sweepOver .opening (e :: rest)) e rest ∧ s.sweepsHeld ∧ s.listingsOk ∧ (s.ep e).enabled = true ∧
      .lost ⟨7, 1⟩ .bump ∈ ((s.ep e).arrive s.ctx .foreground { listing 0 .page 6 with level := 6 }).2 ∧
      s.call ⟨7, 1⟩ = some (page .active w) ∧
      decide (∀ ep ∈ (after (.sweepDelivery 0) s).endpoints.cells, ep.lists ⟨7, 1⟩ = false) = es.isEmpty := by
  rintro e rest (⟨rfl, rfl⟩ | ⟨rfl, rfl⟩) w (rfl | rfl | rfl) es (rfl | rfl) <;>
    exact ⟨by unfold SweepAt; decide +kernel, sweepsHeld_of (by decide +kernel), listingsOk_of (by decide +kernel),
      by decide +kernel, by decide +kernel, by decide +kernel, by decide +kernel⟩

theorem test_bumps :
    let u := fun (w : Option Sweep) (es : List (Nat × Endpoint)) => ((after (.sweepDelivery 0) (pushing 175 [] w es)).slot 7).record
    (u (some (sweep7 .add)) []).bind (·.sweep) = some { sweep7 .add with bumped := 4, lastLoss := some .displaced } ∧
    (u (some (sweep7 .add)) [(30, heard 7 .page 5)]).bind (·.sweep) = some { sweep7 .add with bumped := 4 } ∧
    (u none []).map (·.reason) = some (some .displaced) ∧ (u none [(30, heard 7 .page 5)]).map (·.state) = some .active ∧
    said (after (.sweepDelivery 0) (pushing 10 [20] (some (sweep7 .drop)) [])) .system = [(.unknownCall, [4, 5, 3])] := by
  decide +kernel

/-- A sweep's own listing is bumped at endpoint 175, with an endpoint to come and as the last one. -/
theorem witness_own_bump_at_175 :
    ∀ rest, rest = [10] ∨ rest = [] →
      let sw := sweepOver .opening (175 :: rest)
      let s := { lastSweep .opening sw zone [(175, crowd)] with seq := 100 }
      SweepAt s 0 (page .opening (some sw)) sw 175 rest ∧ s.sweepsHeld ∧ s.listingsOk ∧ (s.ep 175).enabled = true ∧
      .lost ⟨0, 1⟩ .bump ∈ ((s.ep 175).arrive s.ctx .foreground (listing 0 .page 5)).2 := by
  rintro rest (rfl | rfl) <;>
    exact ⟨by unfold SweepAt; decide +kernel, sweepsHeld_of (by decide +kernel), listingsOk_of (by decide +kernel),
      by decide +kernel, by decide +kernel⟩

/-- A program of slot 3 bound to output 1 with a hold level. -/
def boundCtx (holdLevel : Nat) : EpCtx :=
  { ctx with calls := ctx.calls.set 3 ⟨1, some { page .active none with part := .program (some 1) holdLevel }⟩ }
/-- A zone with that program, its mark clear or set, under a page of a level, or of none. -/
def programmed (level : Option Nat) (mark : Bool) : Endpoint :=
  { zone with
    fg := level.map (admitted 0 .page)
    bg := some { admitted 3 .program 2 with listing := { listing 3 .program 2 with interrupted := mark } } }

/-- The states of ReportsMarks: one listing to a call, a bound program among them, its mark clear and set. -/
theorem witness_ReportsMarks :
    [false, true].all (fun mark =>
      let ep := programmed (some 9) mark
      decide ((ep.listings .foreground ++ ep.listings .background ++ [listing 4 .page 8]).map (·.call)).Nodup) = true ∧
    (boundCtx 8).holdOf ⟨3, 1⟩ = some (1, 8) ∧ listing 3 .program 2 ∈ (programmed none false).listings .background := by
  decide +kernel

theorem test_reports :
    let begins := Report.interruption ⟨3, 1⟩ 1 true
    let ends := Report.interruption ⟨3, 1⟩ 1 false
    ((programmed none false).arrive (boundCtx 8) .foreground (listing 4 .page 8)).2 = [begins] ∧
    ((programmed none false).arrive (boundCtx 8) .foreground (listing 4 .page 7)).2 = [] ∧
    ((programmed none false).arrive (boundCtx 15) .foreground (listing 60 .alarm 12)).2 = [begins] ∧
    ((programmed (some 9) true).arrive (boundCtx 8) .foreground (listing 4 .page 10)).2 = [] ∧
    ((programmed (some 9) true).remove (boundCtx 8) .foreground ⟨0, 1⟩ .drop).2 = [.lost ⟨0, 1⟩ .drop, ends] ∧
    ((programmed (some 9) true).remove (boundCtx 8) .background ⟨3, 1⟩ .drop).2 = [.lost ⟨3, 1⟩ .drop, ends] ∧
    ((programmed (some 9) false).remove (boundCtx 8) .background ⟨3, 1⟩ .drop).2 = [.lost ⟨3, 1⟩ .drop] := by decide +kernel

/-- A page that interrupts the bound program of slot 3 comes to zone 10, and its DROP sweep takes it away again. -/
def overProgram (c : Call) (ep : Endpoint) (pairs : List (Handle × Nat)) : State :=
  { cast [(0, c), (3, { page .active none with level := 2, part := .program (some 1) 5 })] [(10, ep)] with
    holds := State.reset.holds.set 1 ⟨0, [⟨3, 1⟩], pairs, if pairs = [] then .released else .asserted, .stopped⟩
    bridge := { PortRec.initial with inProgress := some ⟨.openCall .bridge 1 pageFields, .sweeping 0⟩ } }

theorem test_holds_hear :
    (let t := after (.sweepDelivery 0) (overProgram (page .opening (some (sweepOver .opening [10, 11]))) (programmed none false) [])
     t.hold 1 = ⟨0, [⟨3, 1⟩], [(⟨3, 1⟩, 10)], .asserted, .stopped⟩) ∧
    (let s := overProgram (page .active (some (sweepOver .drop [10, 11]))) (programmed (some 5) true) [(⟨3, 1⟩, 10)]
     let t := after (.dropSweepRemoval 0) (s.setEp 20 (heard 0 .page 5))
     t.hold 1 = ⟨0, [⟨3, 1⟩], [], .released, .stopped⟩) := by decide +kernel

/-- The four alarms of `four`, with a start pending at input 0, or at inputs 1 and 0 in this order; the expiry timer of slot 60 runs. -/
def pendingAt (second : Bool) (s : State) : State :=
  let t : Trigger := ⟨0, .latched, true, true, .stopped, none, some 7, some .alarmLimit⟩
  { s with
    triggers := (s.triggers.set 0 t).set 1
      { t with program := 5, mode := .held, pending := if second then some 3 else none }
    programs := s.programs.set 5 (some { AlarmProgram.general with level := 14 })
    expiries := [⟨60, 1, .running 5⟩] }
/-- Slot 60 ENDED, and ACTIVE alarms of level 15 in the other slots. -/
def oneEnded : State :=
  { four .active 15 with calls := (four .active 15).calls.set 60 ⟨1, some (fourCall .ended 15 60)⟩ }

/-- The states of ReleasesRetry: one start pending; the expiry and the collection of an ENDED record release its slot, as does the
retirement of an ACTIVE alarm; the end of a step that is not over releases none. -/
theorem witness_ReleasesRetry :
    (∀ s, s = pendingAt false oneEnded ∨ s = pendingAt false (four .active 15) →
      (s.trigger 0).pending = some 7 ∧ (∀ j, j < 4 → j ≠ 0 → (s.trigger j).pending = none) ∧
      s.callsOk ∧ s.playersOk ∧ s.sweepsHeld ∧ s.listingsOk) ∧
    ([Instr.endExpiry 60 1, .collectEnd .bridge 1 ⟨60, 1⟩, .retireCall .bridge 1 ⟨61, 1⟩, .alarmStepEnd 63].all freesAlarms) = true ∧
    alarmReleased (pendingAt false oneEnded) (after (.endExpiry 60 1) (withMark (pendingAt false oneEnded) 0 none)) = true ∧
    alarmReleased (pendingAt false (four .active 15))
      (after (.retireCall .bridge 1 ⟨61, 1⟩) (withMark (pendingAt false (four .active 15)) 0 none)) = true ∧
    alarmReleased (pendingAt false oneEnded) (after (.alarmStepEnd 63) (withMark (pendingAt false oneEnded) 0 none)) = false := by
  refine ⟨?_, by decide +kernel, by decide +kernel, by decide +kernel, by decide +kernel⟩
  rintro s (rfl | rfl) <;>
    exact ⟨by decide +kernel, by decide +kernel, callsOk_of (by decide +kernel), playersOk_of (by decide +kernel),
      sweepsHeld_of (by decide +kernel), listingsOk_of (by decide +kernel)⟩

/-- A try finds a FREE slot, an ENDED record to displace, or none. -/
theorem witness_TriedStart :
    (let s := pendingAt false (four .active 15)
     s.program (s.trigger 0).program = some .general ∧ s.geometryReady [.everywhere] = true ∧
       (s.expand .alarm [] (fun _ => false) [.everywhere]).1 ≠ []) ∧
    NoSlot (pendingAt false (four .active 15)) 15 ∧ Displaces (pendingAt false (four .ended 15)) 15 60 (fourCall .ended 15 60) ∧
    LowestFree (pendingAt false State.reset) 60 :=
  ⟨by decide +kernel, witness_StartsByRequest.2.2.2.2.1, witness_StartsByRequest.2.2.2.2.2.2.1,
    by decide, by decide, by decide +kernel, fun j h1 h2 => by omega⟩

theorem test_retry :
    (let t := after (.endExpiry 60 1) (pendingAt false oneEnded)
     (t.slot 60).gen = 2 ∧ (t.trigger 0).pending = none ∧ (t.trigger 0).lastResult = some .ok) ∧
    (let t := after (.retireCall .bridge 1 ⟨61, 1⟩) (pendingAt false (four .active 15))
     (t.slot 61).gen = 2 ∧ (t.trigger 0).pending = none) ∧
    ((after (.alarmStepEnd 63) (pendingAt false oneEnded)).trigger 0).pending = some 7 ∧
    (let t := after (.collectEnd .bridge 1 ⟨60, 1⟩) (pendingAt true oneEnded)
     (t.slot 60).record.map (·.level) = some 15 ∧ (t.trigger 1).owned = none ∧ (t.trigger 1).lastResult = some .ok ∧
     (t.trigger 0).pending = none) := by decide +kernel

/-- A release of a LATCHED and of a HELD input with its start pending. -/
theorem witness_ReleasesKeepOrClear :
    [TriggerMode.latched, .held].all (fun m =>
      let s := input0 m false true (.running 0) none (four .active 15)
      let u := withMark s 0 (some 7)
      (u.trigger 0).timer == .running 0 && !(u.trigger 0).pin && (u.trigger 0).debounced &&
      ((after (.debounceExpiry 0) u).trigger 0).pending == (if m = .latched then some 7 else none)) = true := by decide +kernel

/-! ## What the end of a call keeps, and what a bump takes from a TALK -/

/-- The alarm of slot 60 in a tone, owned by trigger input 0. -/
def ownedAlarm : State := input0 .held true true .stopped (some ⟨60, 1⟩) (alarmed (position .tone 0 48 0))

/-- The clauses of EndingsWriteParts, and those of ClearCalls on parts: a MESSAGE with a player, a TALK, an ALARM that an input owns,
and a PAGE. -/
theorem witness_EndingsWriteParts :
    (let s := sounding message (inPhrase 1 true)
     s.slot 1 = ⟨1, some (messageCall message)⟩ ∧ (messageCall message).state.live = true ∧ s.playersOk ∧ s.listingsOk ∧
       s.sweepsHeld ∧ s.mayTake .system .callTable = true) ∧
    (let s := talkDropping true
     (∃ c k, s.slot 2 = ⟨1, some c⟩ ∧ c.state.live = true ∧ c.locked = false ∧ c.part = .talk k) ∧ s.listingsOk ∧ s.sweepsHeld ∧
       s.mayTake .system .callTable = true) ∧
    (ownedAlarm.slot 60 = ⟨1, some (alarm .active none)⟩ ∧ (alarm .active none).type = .alarm ∧ ownedAlarm.playersOk ∧
      (ownedAlarm.trigger 0).owned = some ⟨60, 1⟩) ∧
    (paged.slot 0 = ⟨1, some (page .active none)⟩ ∧ (page .active none).type ≠ .alarm ∧ paged.playersOk) := by
  refine ⟨⟨?_, rfl, playersOk_sounding _ _ _ _ _ rfl rfl, listingsOk_sounding _ _, sweepsHeld_of ?_, ?_⟩,
    ⟨⟨_, _, rfl, rfl, rfl, rfl⟩, listingsOk_of ?_, sweepsHeld_of ?_, ?_⟩, ⟨?_, rfl, playersOk_of ?_, ?_⟩, ?_, by decide,
    playersOk_paged⟩ <;> decide +kernel

theorem test_endings_write_parts :
    let part := fun (t : State) (i : Nat) => (t.slot i).record.map (·.part)
    (let t := State.endCall (sounding message (inPhrase 1 true)) ⟨1, 1⟩ .cleared
     part t 1 = some (.message { message with offset := 1, player := none, playback := .finished }) ∧ t.player 0 = .idle) ∧
    part (State.endCall (talkDropping true) ⟨2, 1⟩ .retired) 2 = some (.talk ⟨.lead, [], [145, 144, 175], some 145⟩) ∧
    part (after (.clearCalls .system 1) (talkDropping true)) 2 = some (.talk ⟨.lead, [], [145, 144, 175], some 145⟩) ∧
    (let t := State.endCall ownedAlarm ⟨60, 1⟩ .retired
     (t.alarmSeq 60).position = none ∧ (t.alarmSeq 60).phase = 0 ∧ (t.trigger 0).owned = none) := by decide +kernel

/-- The alarm that a start displaces is owned by input 1; input 0 is about to start one, or is not. -/
def ownedLowest (starts : Bool) : State :=
  let s := input0 .latched starts false (if starts then .running 0 else .stopped) none (four .active 12)
  { s with triggers := s.triggers.set 1 ⟨4, .held, true, true, .stopped, some ⟨63, 1⟩, none, some .ok⟩ }

theorem witness_displaced_owner : ∀ starts, starts = true ∨ starts = false →
    let s := ownedLowest starts
    s.callsOk ∧ s.playersOk ∧ s.sweepsHeld ∧ s.listingsOk ∧ s.noPending = true ∧ Displaces s 15 63 (fourCall .active 12 63) ∧
    (s.trigger 1).owned = some (s.handleOf 63) ∧ (fourCall .active 12 63).state.live = true := by
  rintro starts (rfl | rfl) <;>
    exact ⟨callsOk_of (by decide +kernel), playersOk_of (by decide +kernel), sweepsHeld_of (by decide +kernel),
      listingsOk_of (by decide +kernel), by decide, witness_StartsByRequest.2.2.2.2.2.2.2.1, by decide +kernel, rfl⟩

theorem test_displaced_owner :
    ((after (.startAlarm .system 1 0) (ownedLowest false)).trigger 1).owned = none ∧
    ((after (.debounceExpiry 0) (ownedLowest true)).trigger 1).owned = none ∧
    ((after (.debounceExpiry 0) (ownedLowest true)).slot 63).gen = 2 := by decide +kernel

/-- Station `e` with a page of slot 1 heard, those of slots 2 to 6 waiting, and behind them the TALK of slot 7. -/
def talkCrowd : Endpoint :=
  { heard 1 .page 5 with fgWait := (List.range 5).map (fun i => listing (i + 2) .page 5) ++ [listing 7 .talk 5] }
/-- A station that hears the TALK of a slot. -/
def hears (e i : Nat) : Endpoint := { State.reset.ep e with fg := some (admitted i .talk 5) }
/-- The page of slot 0, at level 6, comes to station 175, where it bumps the TALK of slot 7, which stations 174 and 173 may hear. -/
def pushingTalk (rest : List Nat) (w : Option Sweep) (also : Bool) : State :=
  let ps : List Participant := ⟨175, false⟩ :: if also then [⟨174, false⟩, ⟨173, true⟩] else []
  { cast ((0, { page .opening (some (sweepOver .opening (175 :: rest))) with level := 6 }) ::
        (7, { talk with sweep := w, part := .talk ⟨.full, ps, [], none⟩ }) :: (List.range 6).map fun i => (i + 1, page .active none))
      ((175, talkCrowd) :: if also then [(174, hears 174 7), (173, hears 173 7)] else []) with
    bridge := { PortRec.initial with inProgress := some ⟨.openCall .bridge 1 pageFields, .sweeping 0⟩ }
    system := { PortRec.initial with inProgress := w.map fun _ => ⟨.addTargets .system 1 ⟨7, 1⟩ [], .sweeping 7⟩ }
    marks := { State.reset.marks with callTable := .system } }

/-- The TALK clauses of BumpsAreCounted: with an ADD sweep and with none, listed elsewhere and nowhere, as the last endpoint and not. -/
theorem witness_BumpsAreCounted_talk :
    ∀ rest, rest = [20] ∨ rest = [] → ∀ w, w = none ∨ w = some (sweep7 .add) → ∀ also, also = true ∨ also = false →
      let s := pushingTalk rest w also
      let c := { page .opening (some (sweepOver .opening (175 :: rest))) with level := 6 }
      SweepAt s 0 c (sweepOver .opening (175 :: rest)) 175 rest ∧ s.sweepsHeld ∧ s.listingsOk ∧ s.playersOk ∧
      (s.ep 175).enabled = true ∧ .lost ⟨7, 1⟩ .bump ∈ ((s.ep 175).arrive s.ctx .foreground (listing 0 .page 6)).2 ∧
      ((s.call ⟨7, 1⟩).any fun c => c.state.live && c.type == .talk && c.delivering == w.isSome) = true := by
  rintro rest (rfl | rfl) w (rfl | rfl) also (rfl | rfl) <;>
    exact ⟨by unfold SweepAt; decide +kernel, sweepsHeld_of (by decide +kernel), listingsOk_of (by decide +kernel),
      playersOk_of (by decide +kernel), by decide +kernel, by decide +kernel, by decide +kernel⟩

theorem test_talk_bumped :
    let left := fun w also => ((after (.sweepDelivery 0) (pushingTalk [] w also)).slot 7).record.map fun r => (r.state.live, r.part)
    left none true = some (true, .talk ⟨.full, [⟨174, false⟩, ⟨173, true⟩], [], none⟩) ∧
    left (some (sweep7 .add)) true = some (true, .talk ⟨.full, [⟨174, false⟩, ⟨173, true⟩], [], none⟩) ∧
    left (some (sweep7 .add)) false = some (true, .talk ⟨.full, [], [], none⟩) ∧
    left none false = some (false, .talk ⟨.full, [], [], none⟩) := by decide +kernel

/-- The TALK of slot 0 comes to a crowded station 175, with a listing at station 174 or none. -/
def talkSweep (rest : List Nat) (also : Bool) : State :=
  { cast ((0, { talk with state := .opening, sweep := some (sweepOver .opening (175 :: rest)),
                          part := .talk ⟨.full, if also then [⟨174, false⟩] else [], [], none⟩ }) ::
        (List.range 7).map fun i => (i + 1, page .active none))
      ((175, crowd) :: if also then [(174, hears 174 0)] else []) with
    bridge := { PortRec.initial with inProgress := some ⟨.openCall .bridge 1 talkFields, .sweeping 0⟩ } }

/-- The TALK clauses of SweepDelivers and SweepEnds for a bump of the sweep's own listing, and the skip of a ninth participant. -/
theorem witness_own_talk_bump :
    (∀ rest, rest = [173] ∨ rest = [] → ∀ also, also = true ∨ also = false →
      let s := talkSweep rest also
      sweepsCheck s = true ∧ listingsCheck s = true ∧ playersCheck s = true ∧ placesCheck s = true ∧ s.noPending = true ∧
      (∃ c, (s.slot 0).record = some c ∧ c.sweep = some (sweepOver .opening (175 :: rest)) ∧ ¬ Skips s c 175) ∧
      .lost ⟨0, 1⟩ .bump ∈ ((s.ep 175).arrive s.ctx .foreground (listing 0 .talk 5)).2) ∧
    Skips State.reset { talk with part := .talk ⟨.full, List.replicate 8 ⟨144, false⟩, [], none⟩ } 175 := by
  refine ⟨?_, .inr ⟨_, rfl, by decide⟩⟩
  rintro rest (rfl | rfl) also (rfl | rfl) <;>
    refine ⟨by decide +kernel, by decide +kernel, by decide +kernel, by decide +kernel, by decide, ⟨_, rfl, rfl, ?_⟩,
      by decide +kernel⟩ <;>
    · rintro (⟨h, -⟩ | ⟨t, ht, h8⟩)
      · exact absurd h (by decide +kernel)
      · obtain rfl := CallPart.talk.inj ht
        exact absurd h8 (by decide)

theorem test_own_talk_bump :
    let left := fun rest also => ((after (.sweepDelivery 0) (talkSweep rest also)).slot 0).record.map fun r => (r.state, r.part)
    left [173] true = some (.opening, .talk ⟨.full, [⟨174, false⟩], [], none⟩) ∧
    left [] true = some (.active, .talk ⟨.full, [⟨174, false⟩], [], none⟩) ∧
    left [] false = some (.ended, .talk ⟨.full, [], [], none⟩) := by decide +kernel

/-! ## A frame's counts, and the messages served -/

/-- Every timer runs; a message is in its gap on player 0; the alarms are at a TONE of a WARBLE program, a SILENCE, a PHRASE on player 1
and a SUBSTITUTED step; port 0 acquires, and port 1 has its first marker. -/
def busy : State :=
  let quiet := fun i => { fourCall .active 12 i with listingCount := 0, heardCount := 0 }
  let s := cast ((1, messageCall message) :: (List.range 4).map fun i => (i + 60, quiet (i + 60)))
    [(10, { heard 1 .message 5 with switchTimer := .running 5 })]
  { s with
    players := (State.reset.players.set 0 ⟨some ⟨1, 1⟩, none, 0, false, 100⟩).set 1 ⟨some ⟨62, 1⟩, some 3, 1, true, 0⟩
    phrases := (State.reset.phrases.set 3 ⟨.verified, 0, 2, 0⟩).set 4 ⟨.verified, 0, 2, 0⟩
    programs := (Table.fill 8 (some .general)).set 1 (some { AlarmProgram.general with shape := .warble, f2 := 1000 })
    alarms := .build 4 fun i =>
      ⟨some ⟨1, i, [StepKind.tone, .silence, .phrase, .substituted].getD i .tone, if i = 2 then 0 else 480,
        if i = 2 then some 1 else none, false, if i = 0 then 12000 else 0⟩, 7, 5⟩
    holds := s.holds.set 1 ⟨10, [], [], .releasing, .running 480⟩
    triggers := s.triggers.set 2 ⟨0, .off, true, false, .running 960, none, none, none⟩
    expiries := [⟨0, 1, .running 240000⟩, ⟨9, 3, .running 0⟩]
    inputs := s.inputs.set 1 ⟨.acquiring, true, .running 9⟩
    bridge := portWith 0 (some learning)
    linkTimer := .running 3 }

/-- No event is due where none of them does anything, and what ends an event does nothing. -/
theorem takeDue_of {s : State} (h : settle s s = s)
    (hp : ∀ i, i < 4 → s.messagePhraseEnd i = s ∧ s.repeatGapEnd i = s ∧ s.alarmPhraseComplete i = s)
    (ha : ∀ k ∈ alarmSlots, s.alarmStepEnd k = s ∧ s.warbleSwitch k = s) : s.takeDue = s := by
  have hfix : ∀ (f : State → Nat → State) (l : List Nat), (∀ i ∈ l, f s i = s) → l.foldl f s = s := by
    intro f l hl
    induction l with
    | nil => rfl
    | cons i l ih => rw [List.foldl_cons, hl i List.mem_cons_self, ih fun j hj => hl j (List.mem_cons_of_mem _ hj)]
  have h1 : (List.range 4).foldl State.playerDue s = s := hfix _ _ fun i hi => by
    obtain ⟨a, b, c⟩ := hp i (List.mem_range.mp hi)
    simp only [State.playerDue, a, h, b, c]
  rw [State.takeDue, h1]
  exact hfix _ _ fun k hk => by simp only [State.alarmDue, (ha k hk).1, h, (ha k hk).2]

theorem settle_busy : settle busy busy = busy := by decide +kernel

theorem witness_BoundaryCounts : busy.takeDue = busy ∧ busy.noPending = true ∧ busy.playersOk :=
  ⟨takeDue_of settle_busy (by decide +kernel) (by decide +kernel), by decide, playersOk_of (by decide +kernel)⟩

theorem witness_BoundaryCounts_clauses :
    0 < busy.heardCount ⟨1, 1⟩ ∧ (busy.port .bridge).inProgress = some learning ∧ (busy.input 0).acquire = .running 4800 ∧
    (busy.alarmSeq 60).position.isSome = true ∧ (State.reset.alarmSeq 63).position = none := by decide +kernel

theorem test_boundary_counts :
    let t := after (.audioFrameBoundary silent) busy
    [60, 61, 62, 63].map (fun k => (t.alarmSeq k).position.map fun x => (x.framesLeft, x.toSwitch)) =
      [some (479, 11999), some (479, 0), some (0, 0), some (479, 0)] ∧
    [60, 61, 62, 63].map (fun k => (t.alarmSeq k).phase) = [12, 7, 7, 12] ∧
    t.player 0 = ⟨some ⟨1, 1⟩, none, 0, false, 99⟩ ∧ t.player 1 = ⟨some ⟨62, 1⟩, some 3, 2, false, 0⟩ ∧
    ((t.ep 10).switchTimer, (t.hold 1).timer, (t.trigger 2).timer, t.linkTimer) = (.running 4, .running 479, .running 959, .running 2) ∧
    t.expiries.map (·.timer) = [.running 239999, .running 0] ∧
    [(t.input 0).acquire, (t.input 1).acquire] = [.running 4799, .stopped] ∧
    (t.port .bridge).inProgress.map (·.phase) = some (.learning 20 (.running 239999)) := by decide +kernel

/-- `messagesServed` as a check. -/
def servedCheck (s : State) : Bool :=
  (List.range 64).all fun i => (s.slot i).record.all fun c =>
    match c.part with
    | .message m =>
      (m.player.isNone || decide (0 < s.heardCount (s.handleOf i))) &&
      (!(c.state == .active && decide (0 < s.heardCount (s.handleOf i)) && m.player.isNone &&
          (m.playback == .cueing || m.playback == .paused)) || (List.range 4).all fun j => (s.player j).call.isSome)
    | _ => true

theorem messagesServed_of {s : State} (h : servedCheck s = true) : s.messagesServed := by
  intro k c m hc hm
  obtain ⟨hr, hh⟩ := record_of_call hc
  have := List.all_eq_true.mp h k.slot (List.mem_range.mpr (lt_of_record hr))
  simp only [hr, Option.all_some, hm, hh, Bool.and_eq_true] at this
  refine ⟨fun hp => ?_, fun ha hd hn hb i hi => ?_⟩
  · have h1 := this.1
    cases hpl : m.player with
    | none => rw [hpl] at hp; cases hp
    | some j => simpa [hpl] using h1
  · have hw : (m.playback == .cueing || m.playback == .paused) = true := by rcases hb with hb | hb <;> rw [hb] <;> rfl
    have h2 := this.2
    rw [ha, hn, hw] at h2
    simp only [BEq.rfl, hd, decide_true, Option.isNone_none, Bool.and_true, Bool.not_true, Bool.false_or, List.all_eq_true] at h2
    have := h2 i (List.mem_range.mpr hi)
    intro hnone
    rw [hnone] at this
    cases this

/-- Both clauses of `messagesServed` at work before a step: messages that hold all four players, and one that waits beside them. -/
theorem witness_messagesServed :
    let s := { allHold (fun _ => 5) with
      calls := (allHold fun _ => 5).calls.set 9 ⟨1, some (messageAt 3 9 waiting)⟩
      endpoints := (allHold fun _ => 5).endpoints.set 20 (heard 9 .message 3)
      pending := [.messagePhraseEnd 0] }
    s.messagesServed ∧ 0 < s.heardCount ⟨9, 1⟩ ∧ s.pending ≠ [] :=
  ⟨messagesServed_of (by decide +kernel), by decide +kernel, by decide⟩

end Sys2Proof.Tests
end

section
/-! PROOFS. What a request that its owner may take comes to, and the requests that only read (02 R42, 07 R127, 08 R142, 09 R161). -/

namespace Sys2Proof.Calls

open Sys2Proof.Machine

/-! ## A state in which a request has just been taken -/

section begun

variable (s : State) (p : Port) (o : Owner) (c : Instr) (ph : Phase)

@[simp] theorem begun_calls : (s.begun p o c ph).calls = s.calls := by cases p <;> rfl
@[simp] theorem begun_endpoints : (s.begun p o c ph).endpoints = s.endpoints := by cases p <;> rfl
@[simp] theorem begun_triggers : (s.begun p o c ph).triggers = s.triggers := by cases p <;> rfl
@[simp] theorem begun_slot (i : Nat) : (s.begun p o c ph).slot i = s.slot i := by cases p <;> rfl
@[simp] theorem begun_call (h : Handle) : (s.begun p o c ph).call h = s.call h := by cases p <;> rfl
@[simp] theorem begun_ep (e : Nat) : (s.begun p o c ph).ep e = s.ep e := by cases p <;> rfl
@[simp] theorem begun_phrase (i : Nat) : (s.begun p o c ph).phrase i = s.phrase i := by cases p <;> rfl
@[simp] theorem begun_expandAll (ts : List Target) : (s.begun p o c ph).expandAll ts = s.expandAll ts := by cases p <;> rfl
@[simp] theorem begun_expand (t : CallType) (lanes : List Nat) (listed : Nat → Bool) (ts : List Target) :
    (s.begun p o c ph).expand t lanes listed ts = s.expand t lanes listed ts := by cases p <;> rfl
@[simp] theorem begun_checkTargets (ds : List Descriptor) : (s.begun p o c ph).checkTargets ds = s.checkTargets ds := by
  cases p <;> rfl
@[simp] theorem begun_phrasesVerified (part : CallPart) : (s.begun p o c ph).phrasesVerified part = s.phrasesVerified part := by
  cases p <;> rfl
@[simp] theorem begun_freeGeneral : (s.begun p o c ph).freeGeneral = s.freeGeneral := by cases p <;> rfl
@[simp] theorem begun_callData (h : Handle) (r : Call) : (s.begun p o c ph).callData h r = s.callData h r := by cases p <;> rfl
@[simp] theorem begun_phraseData (i : Nat) : (s.begun p o c ph).phraseData i = s.phraseData i := by cases p <;> rfl
@[simp] theorem begun_alarmData (i : Nat) : (s.begun p o c ph).alarmData i = s.alarmData i := by cases p <;> rfl
@[simp] theorem begun_channelData (i : Nat) : (s.begun p o c ph).channelData i = s.channelData i := by cases p <;> rfl
@[simp] theorem begun_callFor (h : Handle) (gate : Call → Option AnswerCode) (changes : Bool) :
    (s.begun p o c ph).callFor p h gate changes = s.callFor p h gate changes := by cases p <;> rfl

end begun

/-- A request that its owner answers at once from the state in which it was taken: the reply and nothing else. -/
theorem request_answered {s : State} {p : Port} {o : Owner} {c : Instr} {take : State → State} {a : AnswerCode} {data : List Byte}
    (h : s.mayTake p o = true) (ht : take (s.begun p o c .waiting) = (s.begun p o c .waiting).answer p a data) :
    s.request p o c take = s.replied p o c a data := by
  rw [State.request_of_mayTake c take h, ht, State.begun_answer h]

/-! ## The call a handle names (02 R21) -/

theorem call_eq (s : State) (h : Handle) : s.call h = if (s.slot h.slot).gen = h.gen then (s.slot h.slot).record else none := rfl

theorem call_of_slot {s : State} {h : Handle} {r : Call} (hs : s.slot h.slot = ⟨h.gen, some r⟩) : s.call h = some r := by
  simp [call_eq, hs]

theorem call_none {s : State} {h : Handle} (hn : (s.slot h.slot).record = none ∨ (s.slot h.slot).gen ≠ h.gen) :
    s.call h = none := by
  rw [call_eq]
  rcases hn with hn | hn
  · simp [hn]
  · simp [hn]

theorem slot_of_call {s : State} {h : Handle} {r : Call} (hc : s.call h = some r) : s.slot h.slot = ⟨h.gen, some r⟩ := by
  rw [call_eq] at hc
  split at hc
  · rename_i hg; rw [← hg, ← hc]
  · cases hc

/-! ## The checks of a handle (02 R38) -/

section callFor

variable {s : State} {p : Port} {h : Handle} {gate : Call → Option AnswerCode} {changes : Bool} {r : Call}

theorem callFor_high (hh : 63 < h.slot) : s.callFor p h gate changes = .error .badParam := by simp [State.callFor, hh]

theorem callFor_unknown (hh : h.slot ≤ 63) (hn : (s.slot h.slot).record = none ∨ (s.slot h.slot).gen ≠ h.gen) :
    s.callFor p h gate changes = .error .unknownCall := by
  simp [State.callFor, Nat.not_lt.2 hh, call_none hn]

theorem callFor_gate (hh : h.slot ≤ 63) (hs : s.slot h.slot = ⟨h.gen, some r⟩) {a : AnswerCode} (hg : gate r = some a) :
    s.callFor p h gate changes = .error a := by
  simp [State.callFor, Nat.not_lt.2 hh, call_of_slot hs, hg]

theorem callFor_locked (hh : h.slot ≤ 63) (hs : s.slot h.slot = ⟨h.gen, some r⟩) (hg : gate r = none) (hc : changes = true)
    (hl : r.locked = true) (hp : p = .system) : s.callFor p h gate changes = .error .locked := by
  simp [State.callFor, Nat.not_lt.2 hh, call_of_slot hs, hg, hc, hl, hp]

theorem callFor_ok (hh : h.slot ≤ 63) (hs : s.slot h.slot = ⟨h.gen, some r⟩) (hg : gate r = none)
    (hl : changes = true → r.locked = true → p = .bridge) : s.callFor p h gate changes = .ok r := by
  have : ¬ (changes = true ∧ r.locked = true ∧ p = .system) := by
    rintro ⟨h1, h2, h3⟩
    have := hl h1 h2
    simp_all
  simp [State.callFor, Nat.not_lt.2 hh, call_of_slot hs, hg, this]

end callFor

/-! ## The queries -/

theorem queryCall_answers {s : State} {p : Port} {tag : Nat} {h : Handle} {r : Call} (hm : s.mayTake p .callTable = true)
    (hh : h.slot ≤ 63) (hs : s.slot h.slot = ⟨h.gen, some r⟩) :
    exec (.queryCall p tag h) s = .next (s.replied p .callTable (.queryCall p tag h) .ok (s.callData h r)) := by
  refine congrArg Host.Outcome.next (request_answered hm ?_)
  simp [takeQueryCall, callFor_ok (gate := gateAny) (changes := false) hh hs rfl (by simp)]

theorem queryPhrase_answers {s : State} {p : Port} {tag i : Nat} (hm : s.mayTake p .phraseDirectory = true) :
    exec (.queryPhrase p tag i) s = .next (s.replied p .phraseDirectory (.queryPhrase p tag i) (if i ≤ 127 then .ok else .badParam)
      (if i ≤ 127 then s.phraseData i else [])) := by
  refine congrArg Host.Outcome.next (request_answered hm ?_)
  by_cases h : i ≤ 127 <;> simp [takeQueryPhrase, State.refuse, h, Nat.lt_of_not_le]

theorem queryAlarm_answers {s : State} {p : Port} {tag i : Nat} (hm : s.mayTake p .alarmSequencer = true) :
    exec (.queryAlarm p tag i) s = .next (s.replied p .alarmSequencer (.queryAlarm p tag i) (if i ≤ 7 then .ok else .badParam)
      (if i ≤ 7 then s.alarmData i else [])) := by
  refine congrArg Host.Outcome.next (request_answered hm ?_)
  by_cases h : i ≤ 7 <;> simp [takeQueryAlarm, State.refuse, h, Nat.lt_of_not_le]

theorem queryChannel_answers {s : State} {p : Port} {tag c : Nat} (hm : s.mayTake p .lineSupervisor = true) :
    exec (.queryChannel p tag c) s = .next (s.replied p .lineSupervisor (.queryChannel p tag c) (if c ≤ 159 then .ok else .badParam)
      (if c ≤ 159 then s.channelData c else [])) := by
  refine congrArg Host.Outcome.next (request_answered hm ?_)
  by_cases h : c ≤ 159 <;> simp [takeQueryChannel, State.refuse, h, Nat.lt_of_not_le]

/-- Settles O32: each query answers from the state it was taken in. -/
theorem queriesChangeNothing : Obligations.QueriesChangeNothing := fun _ _ _ =>
  ⟨fun _ _ hm hh hs => queryCall_answers hm hh hs, fun _ hm => queryPhrase_answers hm, fun _ hm => queryAlarm_answers hm,
    fun _ hm => queryChannel_answers hm⟩

/-! ## Requests that name a call (02 R21, R24, R38) -/

/-- A request on a call is refused with the answer of its handle's check. -/
theorem refused_of_callFor {s : State} {p : Port} {c : Instr} {h : Handle} {a : AnswerCode} (hm : s.mayTake p .callTable = true)
    (hp : c.requestPort = some p) (hc : namedCall c = some h)
    (hg : ∀ gate, (∀ r, gate r = stateAnswer c r) → s.callFor p h gate (changesCall c) = .error a) :
    exec c s = .next (s.replied p .callTable c a []) := by
  have key : ∀ (gate : Call → Option AnswerCode) (take : State → State), (∀ r, gate r = stateAnswer c r) →
      (∀ u : State, u.callFor p h gate (changesCall c) = .error a → take u = u.refuse p a) →
      Host.Outcome.next (s.request p .callTable c take) =
        (Host.Outcome.next (s.replied p .callTable c a []) : Host.Outcome State Fault Refusal) := by
    intro gate take hgate htake
    exact congrArg _ (State.request_refused hm (htake _ (by rw [begun_callFor]; exact hg gate hgate)))
  cases c <;> simp only [namedCall, reduceCtorEq, Option.some.injEq] at hc <;> subst hc <;>
    simp only [Instr.requestPort, Option.some.injEq] at hp <;> subst hp
  case addTargets =>
    exact key gateSweep _ (fun r => by simp only [gateSweep, stateAnswer]; cases r.state <;> rfl)
      (fun u hu => by simp only [takeAddTargets]; rw [show u.callFor _ _ gateSweep true = _ from hu])
  case dropTargets =>
    exact key gateSweep _ (fun r => by simp only [gateSweep, stateAnswer]; cases r.state <;> rfl)
      (fun u hu => by simp only [takeDropTargets]; rw [show u.callFor _ _ gateSweep true = _ from hu])
  case setCallGain =>
    exact key gateLive _ (fun r => by simp only [gateLive, stateAnswer]; cases r.state <;> rfl)
      (fun u hu => by simp only [takeSetCallGain]; rw [show u.callFor _ _ gateLive true = _ from hu])
  case retireCall =>
    exact key gateRetire _ (fun r => by simp only [gateRetire, stateAnswer]; cases r.state <;> rfl)
      (fun u hu => by simp only [takeRetireCall]; rw [show u.callFor _ _ gateRetire true = _ from hu])
  case queryCall =>
    exact key gateAny _ (fun r => by simp only [gateAny, stateAnswer])
      (fun u hu => by simp only [takeQueryCall]; rw [show u.callFor _ _ gateAny false = _ from hu])
  case collectEnd =>
    exact key gateCollect _ (fun r => by simp only [gateCollect, stateAnswer]; cases r.state <;> rfl)
      (fun u hu => by simp only [takeCollectEnd]; rw [show u.callFor _ _ gateCollect false = _ from hu])
  case setParticipant =>
    exact key gateLive _ (fun r => by simp only [gateLive, stateAnswer]; cases r.state <;> rfl)
      (fun u hu => by simp only [takeSetParticipant]; rw [show u.callFor _ _ gateLive true = _ from hu])

/-- Settles O23: each refusal is the answer of the first failing check of the handle. -/
theorem callRequestsAreChecked : Obligations.CallRequestsAreChecked := by
  intro c p h s hp hc hm
  refine ⟨fun hh => ?_, fun hh hn => ?_, fun r hh hs => ⟨fun a ha => ?_, fun ha hch hl hsys => ?_⟩⟩ <;>
    refine refused_of_callFor hm hp hc fun gate hgate => ?_
  · exact callFor_high hh
  · exact callFor_unknown hh hn
  · exact callFor_gate hh hs (by rw [hgate, ha])
  · exact callFor_locked hh hs (by rw [hgate, ha]) hch hl hsys

end Sys2Proof.Calls
end

section
/-! PROOFS. OPEN_CALL, ADD_TARGETS, DROP_TARGETS and SET_CALL_GAIN (02 sections 2.4, 2.5; R37). -/

namespace Sys2Proof.Calls

open Sys2Proof.Machine

/-! ## OPEN_CALL's checks (02 R29, R30) -/

section take

variable {p : Port} {f : OpenFields} {s : State} {t : CallType} {lanes : List Nat} {part : CallPart} {ts : List Target}

theorem takeOpenCall_badType (h : CallType.ofCode f.type = none) : takeOpenCall p f s = s.refuse p .badParam := by
  simp [takeOpenCall, h]

theorem takeOpenCall_badSource (h : ∀ t, CallType.ofCode f.type = some t → openSource f t = none) :
    takeOpenCall p f s = s.refuse p .badParam := by
  cases ht : CallType.ofCode f.type with
  | none => exact takeOpenCall_badType ht
  | some t => simp [takeOpenCall, ht, h t ht]

theorem takeOpenCall_badRamp (h : 7 < f.ramp.getD 0) : takeOpenCall p f s = s.refuse p .badParam := by
  unfold takeOpenCall
  split
  · rfl
  · split
    · rfl
    · simp [h]

theorem takeOpenCall_badTargets {a : AnswerCode} (ht : CallType.ofCode f.type = some t)
    (ho : openSource f t = some (lanes, part)) (hr : f.ramp.getD 0 ≤ 7) (hc : s.checkTargets f.targets = .error a) :
    takeOpenCall p f s = s.refuse p a := by
  simp [takeOpenCall, ht, ho, Nat.not_lt.2 hr, hc]

theorem takeOpenCall_passed (ht : CallType.ofCode f.type = some t) (ho : openSource f t = some (lanes, part))
    (hr : f.ramp.getD 0 ≤ 7) (hc : s.checkTargets f.targets = .ok ts) :
    takeOpenCall p f s = s.openWith p f t lanes part ts := by
  simp [takeOpenCall, ht, ho, Nat.not_lt.2 hr, hc]

end take

theorem openSource_page_none {f : OpenFields} (h : 63 < f.lane1) : openSource f .page = none := by
  simp [openSource, Nat.not_le.2 h]

theorem openSource_program_none {f : OpenFields}
    (h : 63 < f.lane1 ∨ (63 < f.lane2 ∧ f.lane2 ≠ 255) ∨ (3 < f.holdLine ∧ f.holdLine ≠ 255)) : openSource f .program = none := by
  simp only [openSource]
  rw [if_neg]
  omega

theorem openSource_message_none {f : OpenFields}
    (h : f.phraseCount = 0 ∨ 8 < f.phraseCount ∨ (∃ i ∈ f.phraseIds.take f.phraseCount, 127 < i) ∨ 15 < f.repeatCount ∨
      10000 < f.repeatGap) : openSource f .message = none := by
  simp only [openSource]
  rw [if_neg]
  rintro ⟨h1, h2, h3, h4, h5⟩
  rcases h with h | h | ⟨i, hi, h⟩ | h | h
  · omega
  · omega
  · have := List.all_eq_true.1 h3 i hi
    simp at this
    omega
  · omega
  · omega

theorem openSource_talk_none {f : OpenFields} (h : 1 < f.duplex) : openSource f .talk = none := by
  simp only [openSource]
  have : Duplex.ofCode f.duplex = none := by
    unfold Duplex.ofCode
    split
    · omega
    · omega
    · rfl
  simp [this]

theorem ofCode_none {n : Nat} (h : 4 < n) : CallType.ofCode n = none := by
  unfold CallType.ofCode
  split <;> first | omega | rfl

/-- The phrases of a part are all VERIFIED exactly if those of a MESSAGE are. -/
theorem phrasesVerified_iff (s : State) (part : CallPart) :
    s.phrasesVerified part = true ↔ ∀ m, part = .message m → ∀ i ∈ m.phrases, (s.phrase i).state = .verified := by
  cases part <;> simp [State.phrasesVerified]

theorem leastTargets_eq (t : CallType) : leastTargets t = if t = .talk then 2 else 1 := rfl

theorem freeGeneral_none {s : State} (h : ∀ i, i < 60 → (s.slot i).record.isSome = true) : s.freeGeneral = none := by
  refine List.find?_eq_none.2 fun i hi => ?_
  have := h i (List.mem_range.1 hi)
  cases hr : (s.slot i).record <;> simp_all

/-- The lowest slot of a range that satisfies a test is found. -/
theorem find?_range {n i : Nat} {q : Nat → Bool} (hi : i < n) (hq : q i = true) (hl : ∀ j, j < i → q j = false) :
    (List.range n).find? q = some i := by
  rw [List.find?_range_eq_some]
  exact ⟨hq, List.mem_range.2 hi, fun j hj => by simp [hl j hj]⟩

theorem freeGeneral_some {s : State} {i : Nat} (hi : i < 60) (hn : (s.slot i).record = none)
    (hl : ∀ j, j < i → (s.slot j).record.isSome = true) : s.freeGeneral = some i :=
  find?_range hi (by simp [hn]) fun j hj => by have := hl j hj; cases h : (s.slot j).record <;> simp_all

/-- Settles O24: each refusal follows the branch of the first check that fails. -/
theorem openCallRefusals : Obligations.OpenCallRefusals := by
  intro s p tag f hm c refused
  have refuse : ∀ a, takeOpenCall p f (s.begun p .callTable c .waiting) = (s.begun p .callTable c .waiting).refuse p a → refused a :=
    fun a h => congrArg _ (State.request_refused hm h)
  have badSource : ∀ t, CallType.ofCode f.type = some t → openSource f t = none → refused .badParam := fun t ht ho =>
    refuse _ (takeOpenCall_badSource fun t' ht' => by rw [ht] at ht'; cases ht'; exact ho)
  refine ⟨fun h => ?_, fun h => refuse _ (takeOpenCall_badRamp h), fun h h1 => ?_, fun h h1 => ?_, fun h h1 => ?_, fun h h1 => ?_,
    fun t lanes part ht ho hr => ⟨fun code hcode => ?_, fun ts hts => ⟨fun hv => ?_, fun hv => ⟨fun hx => ?_, fun hx hfull => ?_⟩⟩⟩⟩
  · rcases h with h | h
    · exact badSource .alarm (by rw [h]; rfl) rfl
    · exact refuse _ (takeOpenCall_badType (ofCode_none h))
  · exact badSource .page (by rw [h]; rfl) (openSource_page_none h1)
  · exact badSource .program (by rw [h]; rfl) (openSource_program_none h1)
  · exact badSource .message (by rw [h]; rfl) (openSource_message_none h1)
  · exact badSource .talk (by rw [h]; rfl) (openSource_talk_none h1)
  · exact refuse _ (takeOpenCall_badTargets ht ho hr (by rw [begun_checkTargets, hcode]))
  · refine refuse _ ?_
    have hnv : s.phrasesVerified part = false := by
      rw [Bool.eq_false_iff, ne_eq, phrasesVerified_iff]
      obtain ⟨m, rfl, i, hi, hne⟩ := hv
      exact fun hall => hne (hall m rfl i hi)
    rw [takeOpenCall_passed ht ho hr (by rw [begun_checkTargets, hts])]
    simp [State.openWith, hnv]
  · have hpv := (phrasesVerified_iff s part).2 hv
    refine congrArg Host.Outcome.next (request_answered hm ?_)
    rw [takeOpenCall_passed ht ho hr (by rw [begun_checkTargets, hts])]
    simp [State.openWith, hpv, leastTargets_eq, hx]
  · have hpv := (phrasesVerified_iff s part).2 hv
    refine refuse _ ?_
    rw [takeOpenCall_passed ht ho hr (by rw [begun_checkTargets, hts])]
    simp [State.openWith, hpv, leastTargets_eq, Nat.not_lt.2 hx, freeGeneral_none hfull]

/-! ## An OPEN_CALL that passes (02 R31) -/

theorem clampTo_eq {lo hi n : Nat} (h : lo ≤ hi) : clampTo lo hi n = max lo (min hi n) := by
  unfold clampTo; split
  · omega
  · split <;> omega

theorem defaultRamp_of_open {f : OpenFields} {t : CallType} {x : List Nat × CallPart} (h : openSource f t = some x) :
    defaultRamp t = if t = .program then 5 else 3 := by
  cases t <;> first | rfl | cases h

/-- Taking a slot from a state just begun, with a binding to a hold output, writes the slot, the stamp and the binding alone. -/
theorem openIn_begun {s : State} {p : Port} {i : Nat} {c : Instr} {r : Call} (hi : i < 64) :
    (s.begun p .callTable c .waiting).openIn p i r = State.begun
      { s with
        calls := s.calls.set i ⟨((s.slot i).gen + 1) % 256, some { r with openSeq := s.seq }⟩, seq := s.seq + 1,
        holds := match r.holdLine with
          | some o => s.holds.set o { s.hold o with bound := (s.hold o).bound ++ [⟨i, ((s.slot i).gen + 1) % 256⟩] }
          | none => s.holds }
      p .callTable c (.sweeping i) := by
  have hg : ∀ g x, (s.calls.set i ⟨g, x⟩).get i .initial = ⟨g, x⟩ := fun g x => Table.get_set_self _ _ _ _ hi
  cases hl : r.holdLine <;> cases p <;>
    simp [State.openIn, State.bindHold, hl, State.takeSlot, State.begun, State.enterPhase, State.setPort, State.nextSeq, State.handleOf,
      State.slot, State.setHold, State.hold, Hold.bind, hg, State.serve, State.port, Port.other] <;> rfl

theorem opensInSlot : OpensInSlot := by
  intro s p tag f t lanes part ts i hm ht ho hr hts hv hx hi hfree hlow h r
  show Host.Outcome.next (s.request p .callTable _ _) = _
  rw [State.request_of_mayTake _ _ hm, takeOpenCall_passed ht ho hr (by rw [begun_checkTargets, hts])]
  refine congrArg Host.Outcome.next ?_
  have hpv := (phrasesVerified_iff s part).2 hv
  simp only [State.openWith, begun_phrasesVerified, hpv, Bool.not_true, Bool.false_eq_true, if_false, begun_expand, leastTargets_eq,
    Nat.not_lt.2 hx, begun_freeGeneral, freeGeneral_some hi hfree hlow]
  rw [openIn_begun (by omega)]
  simp only [openRecord, defaultRamp_of_open ho, Sweep.start, Config.unity, Call.holdLine]
  rfl

theorem sourcesAreRead : SourcesAreRead := by
  intro f
  refine ⟨fun h => by simp [openSource, h], fun h1 h2 h3 => ?_, fun h1 h2 h3 h4 h5 => ?_, fun h => ?_⟩
  · rw [openSource, if_pos ⟨h1, h2, h3⟩, clampTo_eq (by decide)]
  · rw [openSource, if_pos ⟨h1, h2, by simpa using h3, h4, h5⟩]
  · have : f.duplex = 0 ∨ f.duplex = 1 := by omega
    rcases this with h | h <;> simp [openSource, h, Duplex.ofCode]

/-- Settles O25: the slot taken, and the reading of the source fields. -/
theorem openCallTakesSlot : Obligations.OpenCallTakesSlot := ⟨opensInSlot, sourcesAreRead⟩

/-! ## ADD_TARGETS and DROP_TARGETS (02 R35, R36) -/

theorem gateSweep_active {r : Call} (ha : r.state = .active) (hs : r.sweep = none) : gateSweep r = none := by
  simp [gateSweep, ha, hs]

/-- A sweep begun for a request just taken writes the call's record and the phase alone. -/
theorem beginSweep_begun {s : State} {p : Port} {h : Handle} {c : Instr} {r : Call} {sw : Sweep}
    (hs : s.slot h.slot = ⟨h.gen, some r⟩) :
    (s.begun p .callTable c .waiting).beginSweep p h sw = State.begun
      { s with calls := s.calls.set h.slot ⟨h.gen, some { r with sweep := some sw }⟩ } p .callTable c (.sweeping h.slot) := by
  have hc : (s.begun p .callTable c .waiting).call h = some r := by rw [begun_call, call_of_slot hs]
  simp only [State.beginSweep, State.updCall, hc]
  have hg : ((s.begun p .callTable c .waiting).slot h.slot).gen = h.gen := by rw [begun_slot, hs]
  rw [State.setRecord, hg]
  cases p <;> rfl

theorem addTargetsBegin : AddTargetsBegin := by
  intro s p tag h ds r hm hh hs ha hsw hl c
  have hcf : s.callFor p h gateSweep true = .ok r := callFor_ok hh hs (gateSweep_active ha hsw) fun _ => hl
  refine ⟨fun code hcode => congrArg _ (State.request_refused hm ?_), fun ts hts => ⟨fun hx => congrArg _ (request_answered hm ?_),
    fun hx => ?_⟩⟩
  · simp [takeAddTargets, hcf, hcode]
  · simp [takeAddTargets, hcf, hts, hx]
  · show Host.Outcome.next (s.request p .callTable _ _) = _
    rw [State.request_of_mayTake _ _ hm]
    refine congrArg Host.Outcome.next ?_
    show takeAddTargets p h ds (s.begun p .callTable c .waiting) = _
    rw [← beginSweep_begun hs]
    simp [takeAddTargets, hcf, hts, hx, Sweep.start]

theorem dropTargetsBegin : DropTargetsBegin := by
  intro s p tag h ds r hm hh hs ha hsw hl c
  have hcf : s.callFor p h gateSweep true = .ok r := callFor_ok hh hs (gateSweep_active ha hsw) fun _ => hl
  refine ⟨fun code hcode => congrArg _ (State.request_refused hm ?_), fun ts hts => ⟨fun hx => congrArg _ (request_answered hm ?_),
    fun hx => ?_⟩⟩
  · simp [takeDropTargets, hcf, hcode]
  · simp [takeDropTargets, hcf, hts, hx, Sweep.dropData, Sweep.start, ha, CallState.code]
  · show Host.Outcome.next (s.request p .callTable _ _) = _
    rw [State.request_of_mayTake _ _ hm]
    refine congrArg Host.Outcome.next ?_
    show takeDropTargets p h ds (s.begun p .callTable c .waiting) = _
    rw [← beginSweep_begun hs]
    simp [takeDropTargets, hcf, hts, hx, Sweep.start]

/-- Settles O26: a list is checked, answered at once where there is nothing to do, and swept otherwise. -/
theorem targetRequestsBeginSweeps : Obligations.TargetRequestsBeginSweeps := ⟨addTargetsBegin, dropTargetsBegin⟩

/-! ## SET_CALL_GAIN (02 R37) -/

/-- A change of calls and endpoints from a state just begun, answered, is the change of the state before it, replied. -/
theorem begun_answer_changed {s : State} {p : Port} {o : Owner} {c : Instr} {a : AnswerCode} {data : List Byte}
    (hm : s.mayTake p o = true) (calls : Table CallSlot 64) (eps : Table Endpoint 176) :
    State.answer { s.begun p o c .waiting with calls := calls, endpoints := eps } p a data =
      State.replied { s with calls := calls, endpoints := eps } p o c a data := by
  have h1 : ({ s.begun p o c .waiting with calls := calls, endpoints := eps } : State) =
      State.begun { s with calls := calls, endpoints := eps } p o c .waiting := by cases p <;> rfl
  rw [h1]
  exact State.begun_answer (by rw [← hm]; cases p <;> rfl) c a data

/-- An unknown action, or an endpoint that does not list the call, is refused. -/
theorem takeSetCallGain_bad {u : State} {p : Port} {h : Handle} {action gain e : Nat} {r : Call}
    (hcf : u.callFor p h gateLive true = .ok r)
    (hbad : 2 < action ∨ (action ≠ 0 ∧ ¬ (e ≤ 175 ∧ (u.ep e).lists h = true))) :
    takeSetCallGain p h action gain e u = u.refuse p .badParam := by
  simp only [takeSetCallGain, hcf]
  match action with
  | 0 => simp at hbad
  | 1 => exact if_neg (by simpa using hbad)
  | 2 => exact if_neg (by simpa using hbad)
  | n + 3 => rfl

/-- Settles O27: the call's gain, an override, and the refusals, each by its branch. -/
theorem setCallGainRetargets : Obligations.SetCallGainRetargets := by
  intro s p tag h action gain e r hm hh hs hlive hl c calls withOverride
  have hcf : s.callFor p h gateLive true = .ok r := callFor_ok hh hs (by simp [gateLive, hlive]) fun _ => hl
  have hcall : (s.begun p .callTable c .waiting).call h = some r := by rw [begun_call, call_of_slot hs]
  have hctx : (s.begun p .callTable c .waiting).ctx = ⟨s.mixMode, s.bank, s.calls⟩ := by cases p <;> rfl
  refine ⟨fun h0 => ?_, fun h12 he hlist => ?_, fun hbad => ?_⟩
  · subst h0
    show Host.Outcome.next (s.request p .callTable _ _) = _
    rw [State.request_of_mayTake _ _ hm, ← begun_answer_changed hm]
    refine congrArg Host.Outcome.next ?_
    show takeSetCallGain p h 0 gain e (s.begun p .callTable c .waiting) = _
    simp only [takeSetCallGain, begun_callFor, hcf, State.setGain, State.updCall, hcall, State.refitCall, State.setRecord, begun_slot, hs, begun_calls,
      begun_endpoints]
    refine congrArg (fun u : State => u.answer p .ok []) ?_
    cases p <;> rfl
  · show Host.Outcome.next (s.request p .callTable _ _) = _
    rw [State.request_of_mayTake _ _ hm]
    refine congrArg Host.Outcome.next ?_
    have key : ∀ g, ((s.begun p .callTable c .waiting).setOverride h r e g).answer p .ok [] =
        State.replied (s.setEp e (withOverride g)) p .callTable c .ok [] := fun g => by
      have := begun_answer_changed (c := c) (a := .ok) (data := []) hm s.calls (s.endpoints.set e (withOverride g))
      rw [show State.setEp s e (withOverride g) = { s with calls := s.calls, endpoints := s.endpoints.set e (withOverride g) } from rfl,
        ← this]
      simp only [State.setOverride, State.setEp, begun_ep, hctx, begun_endpoints, withOverride]
      refine congrArg (fun u : State => u.answer p .ok []) ?_
      cases p <;> rfl
    rcases h12 with rfl | rfl
    · show takeSetCallGain p h 1 gain e (s.begun p .callTable c .waiting) = _
      simp [takeSetCallGain, hcf, he, hlist, key]
    · show takeSetCallGain p h 2 gain e (s.begun p .callTable c .waiting) = _
      simp [takeSetCallGain, hcf, he, hlist, key]
  · refine congrArg _ (State.request_refused hm (takeSetCallGain_bad (by rw [begun_callFor, hcf]) ?_))
    rw [begun_ep]
    rcases hbad with hbad | ⟨h0, hbad | hbad⟩
    · exact .inl hbad
    · exact .inr ⟨h0, fun hx => absurd hx.1 (by omega)⟩
    · exact .inr ⟨h0, fun hx => by rw [hbad] at hx; cases hx.2⟩

end Sys2Proof.Calls
end

section
/-! PROOFS. The records of calls: what a slot holds after a write, which records the listings of handles and records name, and which
fields of the state the operations on records, players and ports leave as they are. -/

namespace Sys2Proof.Calls

open Sys2Proof.Machine

/-! ## Slots and records -/

theorem slot_of_le {s : State} {i : Nat} (h : 64 ≤ i) : s.slot i = .initial := Table.get_of_le _ _ _ h

theorem lt_of_record {s : State} {i : Nat} {c : Call} (h : (s.slot i).record = some c) : i < 64 := by
  by_contra hi
  rw [slot_of_le (Nat.not_lt.1 hi)] at h
  cases h

theorem slot_lt_of_call {s : State} {h : Handle} {c : Call} (hc : s.call h = some c) : h.slot < 64 :=
  lt_of_record (by rw [slot_of_call hc])

theorem record_of_call {s : State} {h : Handle} {c : Call} (hc : s.call h = some c) : (s.slot h.slot).record = some c := by
  rw [slot_of_call hc]

theorem handleOf_eq {s : State} {h : Handle} {c : Call} (hc : s.call h = some c) : s.handleOf h.slot = h := by
  simp [State.handleOf, slot_of_call hc]

theorem call_handleOf {s : State} {i : Nat} {c : Call} (h : (s.slot i).record = some c) : s.call (s.handleOf i) = some c := by
  simp [call_eq, State.handleOf, h]

/-- The calls of two states with the same slots are the same. -/
theorem call_congr {s t : State} {h : Handle} (hs : t.slot h.slot = s.slot h.slot) : t.call h = s.call h := by
  rw [call_eq, call_eq, hs]

theorem slot_set {s : State} {i : Nat} (x : CallSlot) (hi : i < 64) (j : Nat) :
    State.slot { s with calls := s.calls.set i x } j = if i = j then x else s.slot j := Table.get_set _ _ _ _ _ hi

theorem slot_setRecord {s : State} {i : Nat} (c : Option Call) (hi : i < 64) (j : Nat) :
    (s.setRecord i c).slot j = if i = j then ⟨(s.slot i).gen, c⟩ else s.slot j := slot_set _ hi j

theorem updCall_none {s : State} {h : Handle} (hc : s.call h = none) (f : Call → Call) : s.updCall h f = s := by
  simp [State.updCall, hc]

/-- What a slot holds after an update of the record a handle names. -/
theorem slot_updCall (s : State) (h : Handle) (f : Call → Call) (j : Nat) :
    (s.updCall h f).slot j =
      if h.slot = j ∧ (s.slot j).gen = h.gen then ⟨(s.slot j).gen, (s.slot j).record.map f⟩ else s.slot j := by
  cases hc : s.call h with
  | some c =>
    have hs := slot_of_call hc
    rw [State.updCall, hc]
    simp only [slot_setRecord _ (slot_lt_of_call hc)]
    by_cases hj : h.slot = j
    · subst hj; simp [hs]
    · simp [hj]
  | none =>
    rw [updCall_none hc]
    split
    · rename_i hj
      obtain ⟨rfl, hg⟩ := hj
      rw [call_eq, if_pos hg] at hc
      rw [hc, Option.map_none, ← hc]
    · rfl

/-- The record that an update of the call itself leaves. -/
theorem slot_updCall_self {s : State} {h : Handle} {c : Call} (hc : s.call h = some c) (f : Call → Call) :
    (s.updCall h f).slot h.slot = ⟨h.gen, some (f c)⟩ := by
  rw [slot_updCall, slot_of_call hc]; simp

theorem slot_updCall_ne {s : State} {h : Handle} {j : Nat} (hj : h.slot ≠ j) (f : Call → Call) :
    (s.updCall h f).slot j = s.slot j := by
  rw [slot_updCall]; simp [hj]

theorem call_updCall_self {s : State} {h : Handle} {c : Call} (hc : s.call h = some c) (f : Call → Call) :
    (s.updCall h f).call h = some (f c) := call_of_slot (slot_updCall_self hc f)

/-- An update of another call's record leaves a call as it is. -/
theorem call_updCall_ne {s : State} {h k : Handle} (hk : k ≠ h) (f : Call → Call) : (s.updCall h f).call k = s.call k := by
  rw [call_eq, call_eq, slot_updCall]
  by_cases hs : h.slot = k.slot
  · by_cases hg : (s.slot k.slot).gen = h.gen
    · have : ¬ (s.slot k.slot).gen = k.gen := fun hg' => hk (by cases h; cases k; simp_all)
      simp [hg] at this ⊢
      simp [hs, this]
    · simp [hg]
  · simp [hs]

/-- Two updates of one call are one. -/
theorem updCall_updCall (s : State) (h : Handle) (f g : Call → Call) : (s.updCall h f).updCall h g = s.updCall h (fun c => g (f c)) := by
  cases hc : s.call h with
  | none => rw [updCall_none hc, updCall_none hc, updCall_none hc]
  | some c =>
    have h1 : (s.updCall h f).call h = some (f c) := call_updCall_self hc f
    have h2 := slot_updCall_self hc f
    rw [State.updCall, h1]
    simp only [State.setRecord, h2]
    simp only [State.updCall, hc, State.setRecord, slot_of_call hc, Table.set_set]

/-! ## Handles and records in slot order -/

theorem mem_handles {s : State} {h : Handle} : h ∈ s.handles ↔ ∃ c, s.call h = some c := by
  simp only [State.handles, List.mem_filterMap, List.mem_range]
  constructor
  · rintro ⟨i, _, hi⟩
    split at hi
    · rename_i hr
      obtain ⟨c, hc⟩ := Option.isSome_iff_exists.1 hr
      cases hi
      exact ⟨c, call_handleOf hc⟩
    · cases hi
  · rintro ⟨c, hc⟩
    exact ⟨h.slot, slot_lt_of_call hc, by rw [record_of_call hc, handleOf_eq hc]; rfl⟩

theorem mem_records {s : State} {h : Handle} {c : Call} : (h, c) ∈ s.records ↔ s.call h = some c := by
  simp only [State.records, List.mem_filterMap, Option.map_eq_some_iff, Prod.mk.injEq]
  constructor
  · rintro ⟨k, _, d, hd, rfl, rfl⟩; exact hd
  · exact fun hc => ⟨h, mem_handles.2 ⟨c, hc⟩, c, hc, rfl, rfl⟩

theorem handles_nodup (s : State) : s.handles.Nodup := by
  refine List.Nodup.filterMap (fun i j h hi hj => ?_) List.nodup_range
  simp only [Option.mem_def] at hi hj
  split at hi <;> split at hj
  · cases hi; exact (congrArg Handle.slot (Option.some.inj hj)).symm
  all_goals first | cases hi; done | cases hj

/-- A list's pick is one of its members. -/
theorem pickBy_mem {α : Type} {better : α → α → Bool} {l : List α} {x : α} (h : pickBy better l = some x) : x ∈ l := by
  induction l generalizing x with
  | nil => cases h
  | cons y ys ih =>
    simp only [pickBy] at h
    split at h
    · cases h; simp
    · rename_i z hz
      split at h
      · cases h; exact List.mem_cons_of_mem _ (ih hz)
      · cases h; simp

/-! ## Which fields an operation writes -/

/-- From `s` to `t` no field but the call table differs. -/
def OnlyCalls (s t : State) : Prop := t = { s with calls := t.calls }

/-- From `s` to `t` no field but the call table and the players differs. -/
def OnlyPlay (s t : State) : Prop := t = { s with calls := t.calls, players := t.players }

/-- From `s` to `t` no field but the call table, the players, the expiry timers and the stamps differs. -/
def OnlySettling (s t : State) : Prop :=
  t = { s with calls := t.calls, players := t.players, expiries := t.expiries, seq := t.seq }

theorem OnlyPlay.refl (s : State) : OnlyPlay s s := rfl
theorem OnlySettling.refl (s : State) : OnlySettling s s := rfl

theorem OnlyCalls.play {s t : State} (h : OnlyCalls s t) : OnlyPlay s t := by
  unfold OnlyPlay; rw [h]

theorem OnlyPlay.settling {s t : State} (h : OnlyPlay s t) : OnlySettling s t := by
  unfold OnlySettling; rw [h]

theorem OnlyPlay.trans {s t u : State} (h : OnlyPlay s t) (h' : OnlyPlay t u) : OnlyPlay s u := by
  unfold OnlyPlay at *; rw [h', h]

theorem OnlySettling.trans {s t u : State} (h : OnlySettling s t) (h' : OnlySettling t u) : OnlySettling s u := by
  unfold OnlySettling at *; rw [h', h]

theorem OnlySettling.foldl {α : Type} {f : State → α → State} (hf : ∀ s x, OnlySettling s (f s x)) (l : List α) (s : State) :
    OnlySettling s (l.foldl f s) := by
  induction l generalizing s with
  | nil => rfl
  | cons x l ih => exact (hf s x).trans (ih _)

theorem OnlyPlay.foldl {α : Type} {f : State → α → State} (hf : ∀ s x, OnlyPlay s (f s x)) (l : List α) (s : State) :
    OnlyPlay s (l.foldl f s) := by
  induction l generalizing s with
  | nil => rfl
  | cons x l ih => exact (hf s x).trans (ih _)

theorem updCall_only (s : State) (h : Handle) (f : Call → Call) : OnlyCalls s (s.updCall h f) := by
  unfold OnlyCalls State.updCall; split <;> rfl

theorem freePlayer_only (s : State) (i : Nat) : OnlyPlay s (s.freePlayer i) := rfl

theorem pauseMessage_only (s : State) (h : Handle) (m : MessagePart) : OnlyPlay s (s.pauseMessage h m) := by
  unfold State.pauseMessage
  refine OnlyPlay.trans ?_ (updCall_only _ _ _).play
  split
  · exact freePlayer_only _ _
  · rfl

theorem pauseIfUnheard_only (s : State) (h : Handle) : OnlyPlay s (s.pauseIfUnheard h) := by
  unfold State.pauseIfUnheard
  split
  · split
    · split
      · exact pauseMessage_only _ _ _
      · rfl
    · rfl
  · rfl

theorem pauseUnheard_only (s : State) : OnlyPlay s s.pauseUnheard := OnlyPlay.foldl pauseIfUnheard_only _ s

theorem giveToMessage_only (s : State) (i : Nat) (h : Handle) (m : MessagePart) : OnlyPlay s (s.giveToMessage i h m) :=
  OnlyPlay.trans (t := s.setPlayer i ⟨some h, m.phrases[m.index]?, m.offset, false, 0⟩) rfl (updCall_only _ _ _).play

theorem serveRounds_only (n : Nat) (s : State) : OnlyPlay s (State.serveRounds n s) := by
  induction n generalizing s with
  | zero => rfl
  | succ n ih =>
    unfold State.serveRounds
    split
    · split
      · exact (giveToMessage_only _ _ _ _).trans (ih _)
      · rfl
    · rfl

theorem servePlayers_only (s : State) : OnlyPlay s s.servePlayers := serveRounds_only 4 s

theorem playerForAlarm_only (s : State) : OnlyPlay s s.playerForAlarm.1 := by
  unfold State.playerForAlarm
  split
  · rfl
  · split
    · split
      · exact pauseMessage_only _ _ _
      · rfl
    · rfl

theorem endFadedAt_only (s : State) (h : Handle) : OnlySettling s (s.endFadedAt h) := by
  unfold State.endFadedAt
  split
  · split <;> rfl
  · rfl

theorem endFaded_only (s : State) : OnlySettling s s.endFaded := OnlySettling.foldl endFadedAt_only _ s

theorem settleCalls_only (s : State) : OnlySettling s s.settleCalls :=
  ((pauseUnheard_only s).settling.trans (endFaded_only _)).trans (servePlayers_only _).settling

end Sys2Proof.Calls
end

section
/-! PROOFS. The calls that an endpoint's places name, class by class, through an arrival, a removal, a disabling and every change that
moves no listing (03 R45 to R52, R61). -/

namespace Sys2Proof.Calls

open Sys2Proof.Machine

/-- What a listing says of its call: the handle, the type and the level (03 R45). -/
def keyOf (l : Listing) : Handle × CallType × Nat := (l.call, l.type, l.level)

/-- What the admitted listing of a class says of its call. -/
def slotKeys (c : ListClass) (ep : Endpoint) : List (Handle × CallType × Nat) := (ep.slot c).toList.map fun a => keyOf a.listing
/-- What the waiting listings of a class say of their calls, head first. -/
def waitKeys (c : ListClass) (ep : Endpoint) : List (Handle × CallType × Nat) := (ep.wait c).map keyOf
/-- What the listings of a class say of their calls, the admitted one first. -/
def keys (c : ListClass) (ep : Endpoint) : List (Handle × CallType × Nat) := slotKeys c ep ++ waitKeys c ep

theorem keys_eq (c : ListClass) (ep : Endpoint) : keys c ep = (ep.listings c).map keyOf := by
  simp [keys, slotKeys, waitKeys, Endpoint.listings, Function.comp_def]

theorem map_call_listings (c : ListClass) (ep : Endpoint) : (ep.listings c).map (·.call) = (keys c ep).map (·.1) := by
  simp [keys_eq, keyOf, Function.comp_def]

/-- The endpoint lists a call exactly if some listing of a class names it. -/
theorem lists_iff {h : Handle} {ep : Endpoint} : ep.lists h = true ↔ ∃ c, ∃ k ∈ keys c ep, k.1 = h := by
  have hs : ∀ c, (∃ k ∈ keys c ep, k.1 = h) ↔ ((ep.slot c).any (·.listing.call == h) = true ∨ (ep.wait c).any (·.call == h) = true) := by
    intro c
    cases hc : ep.slot c <;> simp [keys, slotKeys, waitKeys, hc, keyOf, or_and_right, exists_or]
  constructor
  · intro hl
    simp only [Endpoint.lists, Bool.or_eq_true] at hl
    rcases hl with ((hl | hl) | hl) | hl
    · exact ⟨.foreground, (hs _).2 (.inl hl)⟩
    · exact ⟨.background, (hs _).2 (.inl hl)⟩
    · exact ⟨.foreground, (hs _).2 (.inr hl)⟩
    · exact ⟨.background, (hs _).2 (.inr hl)⟩
  · rintro ⟨c, hk⟩
    cases c <;> rcases (hs _).1 hk with h1 | h1 <;> simp only [Endpoint.slot, Endpoint.wait] at h1 <;> simp [Endpoint.lists, h1]

theorem lists_false_iff {h : Handle} {ep : Endpoint} : ep.lists h = false ↔ ∀ c, ∀ k ∈ keys c ep, k.1 ≠ h := by
  rw [← Bool.not_eq_true, lists_iff]; push Not; rfl

theorem lists_congr {h : Handle} {a b : Endpoint} (hk : ∀ c, keys c a = keys c b) : a.lists h = b.lists h := by
  rw [Bool.eq_iff_iff, lists_iff, lists_iff]; simp [hk]

/-! ## Changes that move no listing -/

/-- The two endpoints hold the same calls in the same places. -/
def SamePlaces (a b : Endpoint) : Prop := ∀ c, slotKeys c a = slotKeys c b ∧ waitKeys c a = waitKeys c b

theorem SamePlaces.refl (a : Endpoint) : SamePlaces a a := fun _ => ⟨rfl, rfl⟩
theorem SamePlaces.trans {a b c : Endpoint} (h : SamePlaces a b) (h' : SamePlaces b c) : SamePlaces a c := fun d =>
  ⟨(h d).1.trans (h' d).1, (h d).2.trans (h' d).2⟩
theorem SamePlaces.keys_eq {a b : Endpoint} (h : SamePlaces a b) (c : ListClass) : keys c a = keys c b := by
  rw [keys, keys, (h c).1, (h c).2]

theorem setDep_same (sl : DepSlot) (v : Option Departing) (ep : Endpoint) : SamePlaces (ep.setDep sl v) ep := fun c => by
  simp [slotKeys, waitKeys]

theorem refit_same (x : EpCtx) (c : ListClass) (ep : Endpoint) : SamePlaces (ep.refit x c) ep := by
  unfold Endpoint.refit
  split
  · exact .refl _
  · rename_i a ha
    intro d
    refine ⟨?_, by simp [waitKeys]⟩
    cases c <;> cases d <;> simp_all [slotKeys, Endpoint.slot, Endpoint.setSlot]

theorem silenceUnderAlarm_same (ep : Endpoint) : SamePlaces ep.silenceUnderAlarm ep := by
  unfold Endpoint.silenceUnderAlarm
  split
  · intro d
    cases d
    · exact ⟨rfl, rfl⟩
    · refine ⟨?_, rfl⟩
      simp only [slotKeys, Endpoint.slot]
      cases ep.bg <;> rfl
  · exact .refl _

theorem rechooseDuck_same (x : EpCtx) (ep : Endpoint) : SamePlaces (ep.rechooseDuck x) ep :=
  (silenceUnderAlarm_same _).trans (refit_same _ _ _)

theorem refitAll_same (x : EpCtx) (ep : Endpoint) : SamePlaces (ep.refitAll x) ep := (rechooseDuck_same _ _).trans (refit_same _ _ _)

theorem unlink_same (sl : DepSlot) (ep : Endpoint) : SamePlaces (ep.unlink sl) ep := by
  have hk : ∀ l : Listing, keyOf (if l.fading = some sl then { l with fading := none } else l) = keyOf l := fun l => by
    split <;> rfl
  intro d
  cases d <;> exact ⟨rfl, by simp [waitKeys, Endpoint.wait, Endpoint.unlink, Function.comp_def, hk]⟩

theorem freeDep_same (sl : DepSlot) (ep : Endpoint) : SamePlaces (ep.freeDep sl) ep := (unlink_same _ _).trans (setDep_same _ _ _)

theorem cutDeparting_same (ep : Endpoint) : SamePlaces ep.cutDeparting ep := (freeDep_same _ _).trans (freeDep_same _ _)

theorem placeDeparting_same (d : Departing) (ep : Endpoint) : SamePlaces (ep.placeDeparting d) ep := by
  have h : SamePlaces (ep.placeDeparting d)
      ((ep.freeDep ep.depTarget).setDep ep.depTarget (some { d with term := { d.term with target := 0 } })) := fun c => by
    cases c <;> exact ⟨rfl, rfl⟩
  exact h.trans ((setDep_same _ _ _).trans (freeDep_same _ _))

theorem depart_same (a : Admitted) (ep : Endpoint) : SamePlaces (ep.depart a).1 ep := by
  unfold Endpoint.depart
  split
  · exact .refl _
  · exact placeDeparting_same _ _

theorem evalMarks_same (x : EpCtx) (ep : Endpoint) : SamePlaces (ep.evalMarks x).1 ep := by
  intro d
  cases d
  · exact ⟨rfl, rfl⟩
  · refine ⟨?_, by simp [waitKeys, Endpoint.wait, Endpoint.evalMarks, Function.comp_def, keyOf]⟩
    simp only [slotKeys, Endpoint.slot, Endpoint.evalMarks]
    cases ep.bg <;> rfl

theorem finish_same (x : EpCtx) (r : Endpoint × List Report) : SamePlaces (Endpoint.finish x r).1 r.1 :=
  (evalMarks_same _ _).trans (rechooseDuck_same _ _)

theorem stepDep_same (sl : DepSlot) (ep : Endpoint) : SamePlaces (ep.stepDep sl) ep := by
  unfold Endpoint.stepDep
  split
  · exact .refl _
  · split
    · exact freeDep_same _ _
    · exact setDep_same _ _ _

theorem stepTerms_same (ep : Endpoint) : SamePlaces ep.stepTerms ep := by
  refine (stepDep_same _ _).trans ((stepDep_same _ _).trans fun d => ?_)
  cases d
  · refine ⟨?_, rfl⟩
    simp only [slotKeys, Endpoint.slot]
    cases ep.fg <;> rfl
  · refine ⟨?_, rfl⟩
    simp only [slotKeys, Endpoint.slot]
    cases ep.bg <;> rfl

theorem updListing_same (h : Handle) {f : Listing → Listing} (hf : ∀ l, keyOf (f l) = keyOf l) (ep : Endpoint) :
    SamePlaces (ep.updListing h f) ep := by
  have hk : ∀ l : Listing, keyOf (l.updIf h f) = keyOf l := fun l => by
    unfold Listing.updIf; split
    · exact hf l
    · rfl
  intro d
  cases d <;>
    simp [slotKeys, waitKeys, Endpoint.slot, Endpoint.wait, Endpoint.updListing, Function.comp_def, hk, Option.toList_map,
      Admitted.updIf]

/-- Changes of fields beside the places. -/
theorem same_of_places {a b : Endpoint} (h1 : a.fg = b.fg) (h2 : a.fgWait = b.fgWait) (h3 : a.bg = b.bg) (h4 : a.bgWait = b.bgWait) :
    SamePlaces a b := fun c => by
  cases c <;> simp [slotKeys, waitKeys, Endpoint.slot, Endpoint.wait, h1, h2, h3, h4]

theorem takeBack_same (l : Listing) (ep : Endpoint) : SamePlaces (ep.takeBack l).1 ep := by
  unfold Endpoint.takeBack
  split
  · exact .refl _
  · split
    · exact .refl _
    · exact setDep_same _ _ _

/-! ## Writing the places of a class -/

theorem slotKeys_setSlot (c : ListClass) (v : Option Admitted) (ep : Endpoint) :
    slotKeys c (ep.setSlot c v) = v.toList.map fun a => keyOf a.listing := by simp [slotKeys]
theorem slotKeys_setSlot_ne {c d : ListClass} (hd : d ≠ c) (v : Option Admitted) (ep : Endpoint) :
    slotKeys d (ep.setSlot c v) = slotKeys d ep := by
  cases c <;> cases d <;> simp_all [slotKeys, Endpoint.slot, Endpoint.setSlot]
theorem waitKeys_setSlot (c d : ListClass) (v : Option Admitted) (ep : Endpoint) : waitKeys d (ep.setSlot c v) = waitKeys d ep := by
  simp [waitKeys]
theorem slotKeys_setWait (c d : ListClass) (v : List Listing) (ep : Endpoint) : slotKeys d (ep.setWait c v) = slotKeys d ep := by
  simp [slotKeys]
theorem waitKeys_setWait (c : ListClass) (v : List Listing) (ep : Endpoint) : waitKeys c (ep.setWait c v) = v.map keyOf := by
  simp [waitKeys]
theorem waitKeys_setWait_ne {c d : ListClass} (hd : d ≠ c) (v : List Listing) (ep : Endpoint) :
    waitKeys d (ep.setWait c v) = waitKeys d ep := by
  cases c <;> cases d <;> simp_all [waitKeys, Endpoint.wait, Endpoint.setWait]

theorem keys_setSlot_ne {c d : ListClass} (hd : d ≠ c) (v : Option Admitted) (ep : Endpoint) : keys d (ep.setSlot c v) = keys d ep := by
  rw [keys, keys, slotKeys_setSlot_ne hd, waitKeys_setSlot]
theorem keys_setWait_ne {c d : ListClass} (hd : d ≠ c) (v : List Listing) (ep : Endpoint) : keys d (ep.setWait c v) = keys d ep := by
  rw [keys, keys, slotKeys_setWait, waitKeys_setWait_ne hd]

/-- The endpoint from which an admission starts: without departing terms for an ALARM. -/
theorem giveSlot_base_same (l : Listing) (ep : Endpoint) : SamePlaces (if l.type = .alarm then ep.cutDeparting else ep) ep := by
  split
  · exact cutDeparting_same _
  · exact .refl _

theorem keys_giveSlot (x : EpCtx) (c : ListClass) (l : Listing) (n : Nat) (ep : Endpoint) :
    keys c (ep.giveSlot x c l n) = keyOf l :: waitKeys c ep := by
  simp only [Endpoint.giveSlot, keys, slotKeys_setSlot, waitKeys_setSlot, ((giveSlot_base_same l ep) c).2]
  rfl
theorem keys_giveSlot_ne {c d : ListClass} (hd : d ≠ c) (x : EpCtx) (l : Listing) (n : Nat) (ep : Endpoint) :
    keys d (ep.giveSlot x c l n) = keys d ep := by
  simp only [Endpoint.giveSlot]
  rw [keys_setSlot_ne hd, (giveSlot_base_same l ep).keys_eq]

/-! ## Arrival -/

theorem insertByLevel_perm (l : Listing) (w : List Listing) : (insertByLevel l w).Perm (l :: w) := by
  induction w with
  | nil => exact .refl _
  | cons x xs ih =>
    simp only [insertByLevel]
    split
    · exact (ih.cons x).trans (.swap l x xs)
    · exact .refl _

/-- An arrival adds the listing to its class and may bump others or itself; the other class stays. -/
theorem keys_arrive (x : EpCtx) (c : ListClass) (l : Listing) (ep : Endpoint) :
    (keys c (ep.arrive x c l).1).Subperm (keyOf l :: keys c ep) := by
  unfold Endpoint.arrive
  rw [(finish_same _ _).keys_eq]
  split
  · rename_i hs
    rw [keys_giveSlot]
    simp [keys, slotKeys, hs, List.Subperm.refl]
  · rename_i a ha
    have hslot : slotKeys c ep = [keyOf a.listing] := by simp [slotKeys, ha]
    unfold Endpoint.arriveOver
    split
    · have hw : (((insertByLevel l (ep.wait c)).take (waitCap c)).map keyOf).Subperm (keyOf l :: waitKeys c ep) := by
        refine List.Subperm.trans ((List.take_sublist _ _).map _).subperm (List.Perm.subperm ?_)
        exact (insertByLevel_perm l (ep.wait c)).map keyOf
      simp only [Endpoint.putWait, keys, slotKeys_setWait, waitKeys_setWait, hslot]
      refine List.Subperm.trans ((List.subperm_append_left [keyOf a.listing]).2 hw) (List.Perm.subperm ?_)
      exact .swap _ _ _
    · have hd : SamePlaces (if l.type = CallType.alarm then (ep.cutDeparting, none) else ep.depart a).1 ep := by
        split
        · exact cutDeparting_same _
        · exact depart_same _ _
      simp only [keys_giveSlot, Endpoint.putWait, waitKeys_setWait]
      refine (List.subperm_cons _).2 (List.Subperm.trans ((List.take_sublist _ _).map _).subperm ?_)
      have h2 := (hd c).2
      simp only [waitKeys] at h2
      simp only [List.map_cons, h2, keys, hslot]
      exact List.Subperm.refl _

theorem keys_arrive_ne {c d : ListClass} (hd : d ≠ c) (x : EpCtx) (l : Listing) (ep : Endpoint) :
    keys d (ep.arrive x c l).1 = keys d ep := by
  unfold Endpoint.arrive
  rw [(finish_same _ _).keys_eq]
  split
  · rw [keys_giveSlot_ne hd]
  · unfold Endpoint.arriveOver
    split
    · simp [Endpoint.putWait, keys_setWait_ne hd]
    · simp only [keys_giveSlot_ne hd, Endpoint.putWait, keys_setWait_ne hd]
      split
      · exact (cutDeparting_same _).keys_eq d
      · exact (depart_same _ _).keys_eq d

/-! ## Removal -/

/-- A promotion into an empty slot leaves the wait list's calls, the head in the slot. -/
theorem keys_promote {x : EpCtx} {c : ListClass} {ep : Endpoint} (hs : ep.slot c = none) :
    keys c (ep.promote x c) = waitKeys c ep := by
  unfold Endpoint.promote
  rw [hs]
  cases hw : ep.wait c with
  | nil => simp [keys, slotKeys, waitKeys, hs, hw]
  | cons l rest =>
    simp only [keys_giveSlot, ((takeBack_same l (ep.setWait c rest)) c).2, waitKeys_setWait]
    simp [waitKeys, hw]

theorem keys_promote_ne {c d : ListClass} (hd : d ≠ c) (x : EpCtx) (ep : Endpoint) : keys d (ep.promote x c) = keys d ep := by
  unfold Endpoint.promote
  split
  · simp only [keys_giveSlot_ne hd, (takeBack_same _ _).keys_eq, keys_setWait_ne hd]
  · rfl

theorem slot_depart (c : ListClass) (a : Admitted) (ep : Endpoint) : (ep.depart a).1.slot c = ep.slot c := by
  unfold Endpoint.depart
  split
  · rfl
  · cases c <;> simp only [Endpoint.placeDeparting, Endpoint.slot] <;> cases ep.depTarget <;> rfl

/-- A slot emptied and refilled from its wait list: the class holds the wait list's calls. -/
theorem keys_vacate_promote (x : EpCtx) (c : ListClass) (k : Cause) (a : Admitted) (ep : Endpoint) :
    keys c ((ep.vacate x c k a).1.promote x c) = waitKeys c ep := by
  rw [keys_promote]
  · simp only [Endpoint.vacate]
    rw [((depart_same _ _) c).2, waitKeys_setSlot]
  · simp [Endpoint.vacate, slot_depart]

theorem keys_vacate_promote_ne {c d : ListClass} (hd : d ≠ c) (x : EpCtx) (k : Cause) (a : Admitted) (ep : Endpoint) :
    keys d ((ep.vacate x c k a).1.promote x c) = keys d ep := by
  rw [keys_promote_ne hd]
  simp only [Endpoint.vacate]
  rw [(depart_same _ _).keys_eq, keys_setSlot_ne hd]

theorem map_keyOf_filter (h : Handle) (w : List Listing) :
    (w.filter (·.call ≠ h)).map keyOf = (w.map keyOf).filter (fun k => k.1 ≠ h) := by
  rw [List.filter_map]; rfl

/-- A removal leaves calls that were there. -/
theorem keys_remove_sublist (x : EpCtx) (c : ListClass) (h : Handle) (k : Cause) (ep : Endpoint) :
    (keys c (ep.remove x c h k).1).Sublist (keys c ep) := by
  have hfilter : (keys c (ep.setWait c ((ep.wait c).filter (·.call ≠ h)))).Sublist (keys c ep) := by
    simp only [keys, slotKeys_setWait, waitKeys_setWait]
    exact List.Sublist.append_left (List.filter_sublist.map _) _
  unfold Endpoint.remove
  rw [(finish_same _ _).keys_eq]
  split
  · split
    · rw [keys_vacate_promote]; exact List.sublist_append_right _ _
    · exact hfilter
  · exact hfilter

/-- A removal where the call has at most one listing of the class leaves exactly the calls that are not it. -/
theorem keys_remove {c : ListClass} {ep : Endpoint} (hn : ((keys c ep).map (·.1)).Nodup) (x : EpCtx) (h : Handle) (k : Cause) :
    keys c (ep.remove x c h k).1 = (keys c ep).filter (fun q => q.1 ≠ h) := by
  have hwait : keys c (ep.setWait c ((ep.wait c).filter (·.call ≠ h))) =
      slotKeys c ep ++ (waitKeys c ep).filter (fun q => q.1 ≠ h) := by
    rw [keys, slotKeys_setWait, waitKeys_setWait, map_keyOf_filter]
    rfl
  unfold Endpoint.remove
  rw [(finish_same _ _).keys_eq]
  split
  · rename_i a ha
    have hslot : slotKeys c ep = [keyOf a.listing] := by simp [slotKeys, ha]
    split
    · rename_i hc
      have hnot : ∀ q ∈ waitKeys c ep, q.1 ≠ h := by
        intro q hq hqh
        rw [keys, hslot, List.map_append, List.nodup_append] at hn
        exact hn.2.2 h (by simp [keyOf, hc]) h (List.mem_map.2 ⟨q, hq, hqh⟩) rfl
      have hall : (waitKeys c ep).filter (fun q => q.1 ≠ h) = waitKeys c ep :=
        List.filter_eq_self.2 fun q hq => by simpa using hnot q hq
      rw [keys_vacate_promote, keys, List.filter_append, hslot, hall]
      simp [keyOf, hc]
    · rename_i hc
      refine hwait.trans ?_
      rw [keys, List.filter_append, hslot]
      simp [keyOf, hc]
  · rename_i ha
    have hslot : slotKeys c ep = [] := by simp [slotKeys, ha]
    refine hwait.trans ?_
    rw [keys, List.filter_append, hslot, List.filter_nil]

theorem keys_remove_ne {c d : ListClass} (hd : d ≠ c) (x : EpCtx) (h : Handle) (k : Cause) (ep : Endpoint) :
    keys d (ep.remove x c h k).1 = keys d ep := by
  unfold Endpoint.remove
  rw [(finish_same _ _).keys_eq]
  split
  · split
    · exact keys_vacate_promote_ne hd _ _ _ _
    · exact keys_setWait_ne hd _ _
  · exact keys_setWait_ne hd _ _

/-! ## Disabling -/

theorem keys_disableClass (x : EpCtx) (c : ListClass) (ep : Endpoint) :
    (keys c (ep.disableClass x c).1).Sublist (keys c ep) := by
  have hfilter : (keys c (ep.setWait c ((ep.wait c).filter (·.type = .alarm)))).Sublist (keys c ep) := by
    simp only [keys, slotKeys_setWait, waitKeys_setWait]
    exact List.Sublist.append_left (List.filter_sublist.map _) _
  unfold Endpoint.disableClass
  simp only []
  split
  · split
    · exact hfilter
    · refine List.Sublist.trans ?_ hfilter
      rw [keys_vacate_promote]; exact List.sublist_append_right _ _
  · exact hfilter

theorem keys_disableClass_ne {c d : ListClass} (hd : d ≠ c) (x : EpCtx) (ep : Endpoint) :
    keys d (ep.disableClass x c).1 = keys d ep := by
  unfold Endpoint.disableClass
  simp only []
  split
  · split
    · exact keys_setWait_ne hd _ _
    · rw [keys_vacate_promote_ne hd, keys_setWait_ne hd]
  · exact keys_setWait_ne hd _ _

/-- A disabling leaves calls that were there. -/
theorem keys_disable (x : EpCtx) (c : ListClass) (ep : Endpoint) : (keys c (ep.disable x).1).Sublist (keys c ep) := by
  unfold Endpoint.disable
  rw [(finish_same _ _).keys_eq]
  cases c
  · simp only []
    rw [keys_disableClass_ne (by decide)]
    exact keys_disableClass _ _ _
  · refine (keys_disableClass _ _ _).trans ?_
    rw [keys_disableClass_ne (by decide)]

end Sys2Proof.Calls
end

section
/-! PROOFS. The endpoints that a target list comes to (01 R14 to R16): each once, and each an endpoint of the part. -/

namespace Sys2Proof.Calls

open Sys2Proof.Machine

theorem keepFirst_nodup (seen es : List Nat) : (keepFirst seen es).Nodup ∧ ∀ e ∈ keepFirst seen es, e ∉ seen ∧ e ∈ es := by
  induction es generalizing seen with
  | nil => simp [keepFirst]
  | cons e es ih =>
    unfold keepFirst
    split
    · obtain ⟨hn, hm⟩ := ih seen
      exact ⟨hn, fun x hx => ⟨(hm x hx).1, List.mem_cons_of_mem _ (hm x hx).2⟩⟩
    · rename_i hs
      obtain ⟨hn, hm⟩ := ih (e :: seen)
      refine ⟨List.nodup_cons.2 ⟨fun he => (hm e he).1 (List.mem_cons_self ..), hn⟩, fun x hx => ?_⟩
      rcases List.mem_cons.1 hx with rfl | hx
      · exact ⟨by simpa using hs, List.mem_cons_self ..⟩
      · exact ⟨fun hxs => (hm x hx).1 (List.mem_cons_of_mem _ hxs), List.mem_cons_of_mem _ (hm x hx).2⟩

theorem rangeWalk_subset (counted : Nat → Bool) (n : Nat) (es : List Nat) : ∀ x ∈ rangeWalk counted n es, x ∈ es := by
  induction es generalizing n with
  | nil => cases n <;> simp [rangeWalk]
  | cons e es ih =>
    cases n with
    | zero => simp [rangeWalk]
    | succ n =>
      intro x hx
      simp only [rangeWalk] at hx
      split at hx
      · rcases List.mem_cons.1 hx with rfl | hx
        · exact List.mem_cons_self ..
        · exact List.mem_cons_of_mem _ (ih _ x hx)
      · exact List.mem_cons_of_mem _ (ih _ x hx)

theorem zoneNumbers_lt {e : Nat} (h : e ∈ zoneNumbers) : e < 176 := by
  have := List.mem_range.1 h
  omega

theorem stationNumbers_lt {e : Nat} (h : e ∈ stationNumbers) : e < 176 := by
  obtain ⟨k, hk, rfl⟩ := List.mem_map.1 h
  have := List.mem_range.1 hk
  omega

/-- A target whose parameters are in range contributes endpoints of the part. -/
theorem contributes_lt {s : State} {t : Target} (ht : t.inRange = true) {e : Nat} (he : e ∈ s.contributes t) : e < 176 := by
  cases t with
  | endpoint x =>
    have := List.mem_singleton.1 he
    simp only [Target.inRange, decide_eq_true_eq] at ht
    omega
  | range x n =>
    exact List.mem_range.1 (List.mem_of_mem_drop (rangeWalk_subset _ _ _ e he))
  | deck d => exact zoneNumbers_lt (List.mem_filter.1 he).1
  | fireZone f => exact zoneNumbers_lt (List.mem_filter.1 he).1
  | deckFire d f => exact zoneNumbers_lt (List.mem_filter.1 he).1
  | allZones => exact zoneNumbers_lt he
  | allStations => exact stationNumbers_lt he
  | everywhere => exact (List.mem_append.1 he).elim zoneNumbers_lt stationNumbers_lt

/-- Expansion gives each endpoint once, of targets in range only endpoints of the part, and none that is listed. -/
theorem expand_spec (s : State) (t : CallType) (lanes : List Nat) (listed : Nat → Bool) {ts : List Target}
    (hts : ∀ x ∈ ts, x.inRange = true) :
    (s.expand t lanes listed ts).1.Nodup ∧ ∀ e ∈ (s.expand t lanes listed ts).1, e < 176 ∧ listed e = false := by
  have hall := keepFirst_nodup [] (ts.flatMap s.contributes)
  refine ⟨(hall.1.filter _).filter _, fun e he => ?_⟩
  obtain ⟨hel, -⟩ := List.mem_filter.1 he
  obtain ⟨hea, hl⟩ := List.mem_filter.1 hel
  obtain ⟨x, hx, hex⟩ := List.mem_flatMap.1 (hall.2 e hea).2
  exact ⟨contributes_lt (hts x hx) hex, by simpa using hl⟩

/-- A descriptor that passes its own check gives a target in range. -/
theorem descriptorTarget_inRange {d : Descriptor} {t : Target} (h : descriptorTarget d = some t) : t.inRange = true := by
  unfold descriptorTarget at h
  split at h
  all_goals (first | (split at h <;> cases h <;> simp_all [Target.inRange]) | (cases h <;> rfl))

theorem mapM_forall {α β : Type} {f : α → Option β} {q : β → Prop} (hf : ∀ a b, f a = some b → q b) {l : List α} {r : List β}
    (h : l.mapM f = some r) : ∀ b ∈ r, q b := by
  induction l generalizing r with
  | nil => cases h; simp
  | cons a l ih =>
    simp only [List.mapM_cons, Option.bind_eq_bind, Option.bind_eq_some_iff] at h
    obtain ⟨b, hb, bs, hbs, hr⟩ := h
    cases hr
    intro y hy
    rcases List.mem_cons.1 hy with rfl | hy
    · exact hf _ _ hb
    · exact ih hbs y hy

theorem parseTargets_inRange {hi : Nat} {ds : List Descriptor} {ts : List Target} (h : parseTargets hi ds = some ts) :
    ∀ t ∈ ts, t.inRange = true := by
  unfold parseTargets at h
  split at h
  · cases h
  · exact mapM_forall (fun _ _ => descriptorTarget_inRange) h

theorem checkTargets_inRange {s : State} {ds : List Descriptor} {ts : List Target} (h : s.checkTargets ds = .ok ts) :
    ∀ t ∈ ts, t.inRange = true := by
  unfold State.checkTargets at h
  split at h
  · cases h
  · rename_i us hus
    split at h
    · cases h; exact parseTargets_inRange hus
    · cases h

/-- A program that passes its check has an alarm's level and targets in range. -/
theorem parseProgram_ok {f : AlarmFields} {g : AlarmProgram} (h : parseProgram f = some g) :
    (12 ≤ g.level ∧ g.level ≤ 15) ∧ ∀ t ∈ g.targets, t.inRange = true := by
  unfold parseProgram at h
  split at h
  · rename_i shape targets steps hs ht hst
    split at h
    · cases h
      refine ⟨?_, parseTargets_inRange ht⟩
      simp only [clampTo_eq (show 12 ≤ 15 by decide)]
      omega
    · cases h
  · cases h

theorem parseDefinition_ok {mark : Nat} {fields : Option AlarmFields} {g : AlarmProgram}
    (h : parseDefinition mark fields = some (some g)) : (12 ≤ g.level ∧ g.level ≤ 15) ∧ ∀ t ∈ g.targets, t.inRange = true := by
  unfold parseDefinition at h
  split at h
  · cases h
  · obtain ⟨x, hx, hg⟩ := Option.map_eq_some_iff.1 h
    cases hg
    exact parseProgram_ok hx
  · cases h
  · cases h

end Sys2Proof.Calls
end

section
/-! PROOFS. The order of the call table and of the listings (02 R20 to R26, R31, R32; 03 R45) as one invariant, and the changes that
keep it because they follow the records and move no listing in. -/

namespace Sys2Proof.Calls

open Sys2Proof.Machine

/-- What a listing says is true of an OPENING or ACTIVE call. -/
def Named (s : State) (k : Handle × CallType × Nat) : Prop :=
  ∃ c, s.call k.1 = some c ∧ c.state.live = true ∧ c.type = k.2.1 ∧ c.level = k.2.2

/-- A delivering sweep of the call in slot `i` has to visit endpoints that do not list the call, each once. -/
def RestOk (s : State) (i : Nat) (sw : Sweep) : Prop :=
  sw.rest.Nodup ∧ ∀ e ∈ sw.rest, e < 176 ∧ (s.ep e).lists (s.handleOf i) = false

/-- The records are in order, but for the one in slot `skip`, and the stored programs have alarm levels. With `b`, the listings too are in
order, and the programs' targets are in range. -/
structure InOrder (b : Bool) (skip : Option Nat) (s : State) : Prop where
  gens : ∀ i, (s.slot i).gen < 256
  records : ∀ i c, some i ≠ skip → (s.slot i).record = some c → c.recordOk i
  programs : ∀ g, some g ∈ s.programs.cells → 12 ≤ g.level ∧ g.level ≤ 15
  targets : b = true → ∀ g, some g ∈ s.programs.cells → ∀ t ∈ g.targets, t.inRange = true
  named : b = true → ∀ e cl, ∀ k ∈ keys cl (s.ep e), k.2.1.listClass = cl ∧ Named s k
  once : b = true → ∀ e cl, ((keys cl (s.ep e)).map (·.1)).Nodup
  sweeps : b = true → ∀ i c sw, some i ≠ skip → (s.slot i).record = some c → c.sweep = some sw → sw.kind ≠ .drop → RestOk s i sw

/-! ## The invariant and the obligations' predicates -/

theorem inOrder_of_callsOk {s : State} (h : s.callsOk) : InOrder false none s where
  gens i := (h.1 i).1
  records i c _ := (h.1 i).2 c
  programs := h.2
  targets := nofun
  named := nofun
  once := nofun
  sweeps := nofun

theorem InOrder.callsOk {b : Bool} {s : State} (h : InOrder b none s) : s.callsOk :=
  ⟨fun i => ⟨h.gens i, fun c => h.records i c nofun⟩, h.programs⟩

/-- An endpoint number beyond the table reads an endpoint without listings. -/
theorem keys_of_le {s : State} {e : Nat} (h : 176 ≤ e) (cl : ListClass) : keys cl (s.ep e) = [] := by
  rw [show s.ep e = Endpoint.initial 0 from Table.get_of_le _ _ _ h]
  cases cl <;> rfl

theorem forall_ep {s : State} {q : Endpoint → Prop} (h : ∀ ep ∈ s.endpoints.cells, q ep) {e : Nat} (he : e < 176) : q (s.ep e) :=
  h _ (Table.get_mem _ _ _ he)

theorem inOrder_of_listingsOk {s : State} (hc : s.callsOk) (hs : s.settingsOk) (hl : s.listingsOk) : InOrder true none s := by
  obtain ⟨-, -, -, -, -, hprog⟩ := hs
  obtain ⟨hname, honce, hsw⟩ := hl
  refine ⟨fun i => (hc.1 i).1, fun i c _ => (hc.1 i).2 c, hc.2, fun _ g hg => (hprog g hg).1, fun _ e cl k hk => ?_,
    fun _ e cl => ?_, fun _ i c sw _ hr => hsw i c sw hr⟩
  · by_cases he : e < 176
    · rw [keys_eq] at hk
      obtain ⟨l, hl, rfl⟩ := List.mem_map.1 hk
      exact forall_ep hname he cl l hl
    · rw [keys_of_le (Nat.not_lt.1 he)] at hk; cases hk
  · by_cases he : e < 176
    · rw [← map_call_listings]; exact forall_ep honce he cl
    · rw [keys_of_le (Nat.not_lt.1 he)]; exact List.nodup_nil

theorem InOrder.listingsOk {s : State} (h : InOrder true none s) : s.listingsOk := by
  refine ⟨fun ep hep cl l hl => ?_, fun ep hep cl => ?_, fun i c sw hr => h.sweeps rfl i c sw nofun hr⟩ <;>
    obtain ⟨e, -, rfl⟩ := Table.exists_get_of_mem (Endpoint.initial 0) hep
  · exact h.named rfl e cl (keyOf l) (by rw [keys_eq]; exact List.mem_map_of_mem hl)
  · rw [map_call_listings]; exact h.once rfl e cl

theorem InOrder.skipping {b : Bool} {s : State} (h : InOrder b none s) (skip : Option Nat) : InOrder b skip s where
  gens := h.gens
  records i c _ := h.records i c nofun
  programs := h.programs
  targets := h.targets
  named := h.named
  once := h.once
  sweeps hb i c sw _ := h.sweeps hb i c sw nofun

/-- A listing names a record in its handle's slot. -/
theorem InOrder.slot_named {b : Bool} {skip : Option Nat} {s : State} (h : InOrder b skip s) (hb : b = true) {e : Nat}
    {cl : ListClass} {k : Handle × CallType × Nat} (hk : k ∈ keys cl (s.ep e)) :
    ∃ c, s.slot k.1.slot = ⟨k.1.gen, some c⟩ ∧ c.state.live = true ∧ c.type = k.2.1 ∧ c.level = k.2.2 := by
  obtain ⟨-, c, hc, hlive, ht, hl⟩ := h.named hb e cl k hk
  exact ⟨c, slot_of_call hc, hlive, ht, hl⟩

/-! ## Following a record -/

/-- The record `d` stands where `c` stood: of its type and level, live exactly if it was, in order if it was, and its delivering sweep
has no endpoint to visit that the old one had not. -/
structure Follows (c d : Call) : Prop where
  type : d.type = c.type
  level : d.level = c.level
  live : d.state.live = c.state.live
  ok : ∀ i, c.recordOk i → d.recordOk i
  sweep : ∀ sw', d.sweep = some sw' → sw'.kind ≠ .drop → ∃ sw, c.sweep = some sw ∧ sw.kind ≠ .drop ∧ sw'.rest.Sublist sw.rest

theorem Follows.refl (c : Call) : Follows c c :=
  ⟨rfl, rfl, rfl, fun _ => id, fun sw' h hk => ⟨sw', h, hk, List.Sublist.refl _⟩⟩

theorem Follows.trans {c d e : Call} (h : Follows c d) (h' : Follows d e) : Follows c e where
  type := h'.type.trans h.type
  level := h'.level.trans h.level
  live := h'.live.trans h.live
  ok i := h'.ok i ∘ h.ok i
  sweep sw'' hs hk := by
    obtain ⟨sw', hs', hk', hr'⟩ := h'.sweep sw'' hs hk
    obtain ⟨sw, hs, hk, hr⟩ := h.sweep sw' hs' hk'
    exact ⟨sw, hs, hk, hr'.trans hr⟩

/-- A change of the fields that the order does not speak of. -/
theorem follows_of_eq {c d : Call} (ht : d.type = c.type) (hl : d.level = c.level) (hr : d.ramp = c.ramp) (hk : d.locked = c.locked)
    (hs : d.state = c.state) (hn : d.reason = c.reason) (hw : d.sweep = c.sweep) : Follows c d where
  type := ht
  level := hl
  live := by rw [hs]
  ok i := by unfold Call.recordOk; rw [ht, hl, hr, hk, hs, hn, hw]; exact id
  sweep sw' h hd := ⟨sw', hw ▸ h, hd, List.Sublist.refl _⟩

/-- A sweep whose counts and rest are written, the rest to a part of what it was. -/
theorem follows_mapSweep {c : Call} {f : Sweep → Sweep} (hk : ∀ sw, (f sw).kind = sw.kind)
    (hr : ∀ sw, c.sweep = some sw → (f sw).rest.Sublist sw.rest) : Follows c { c with sweep := c.sweep.map f } where
  type := rfl
  level := rfl
  live := rfl
  ok i h := by
    obtain ⟨h1, h2, h3, h4, h5, h6, h7, h8⟩ := h
    refine ⟨h1, h2, h3, h4, h5, h6, h7.trans ?_, fun hl => by simp [h8 hl]⟩
    cases c.sweep <;> simp [hk]
  sweep sw' h hd := by
    obtain ⟨sw, hs, rfl⟩ := Option.map_eq_some_iff.1 h
    exact ⟨sw, hs, by rwa [hk] at hd, hr sw hs⟩

/-- The sweep of an ACTIVE call ends. -/
theorem follows_dropSweep {c : Call} (h : ∀ sw, c.sweep = some sw → sw.kind ≠ .opening) : Follows c { c with sweep := none } where
  type := rfl
  level := rfl
  live := rfl
  ok i hok := by
    obtain ⟨h1, h2, h3, h4, h5, h6, h7, h8⟩ := hok
    refine ⟨h1, h2, h3, h4, h5, h6, h7.trans ?_, fun _ => rfl⟩
    cases hc : c.sweep with
    | none => rfl
    | some sw => simpa using h sw hc
  sweep := nofun

/-- An opening sweep ends with listings: the call is ACTIVE. -/
theorem follows_activate {c : Call} (hl : c.state.live = true) :
    Follows c { c with state := .active, sweep := none } where
  type := rfl
  level := rfl
  live := hl.symm
  ok i hok := by
    obtain ⟨h1, h2, h3, h4, h5, h6, h7, h8⟩ := hok
    exact ⟨h1, h2, h3, h4, h5, h6.trans (by rw [hl]; rfl), by simp, nofun⟩
  sweep := nofun

/-- An ENDING call becomes ENDED. -/
theorem follows_ended {c : Call} (h : c.state = .ending) (n : Nat) : Follows c { c with state := .ended, endSeq := n } where
  type := rfl
  level := rfl
  live := by rw [h]; rfl
  ok i hok := by
    obtain ⟨h1, h2, h3, h4, h5, h6, h7, h8⟩ := hok
    have hs : c.sweep = none := h8 (by rw [h]; rfl)
    exact ⟨h1, h2, h3, h4, h5, h6.trans (by rw [h]; rfl), by simp [hs], fun _ => hs⟩
  sweep sw' hs hk := ⟨sw', hs, hk, List.Sublist.refl _⟩

/-! ## Following a state -/

/-- In `t` every record follows the one that stood in its slot in `s`, and no endpoint lists a call that it did not. -/
structure Follow (s t : State) : Prop where
  gens : ∀ i, (t.slot i).gen = (s.slot i).gen
  records : ∀ i, Option.Rel Follows (s.slot i).record (t.slot i).record
  programs : t.programs = s.programs
  keys : ∀ e cl, (keys cl (t.ep e)).Subperm (keys cl (s.ep e))

theorem rel_follows_refl (o : Option Call) : Option.Rel Follows o o := by
  cases o
  · exact .none
  · exact .some (.refl _)

theorem Follow.trans {s t u : State} (h : Follow s t) (h' : Follow t u) : Follow s u where
  gens i := (h'.gens i).trans (h.gens i)
  records i := by
    have h1 := h.records i
    have h2 := h'.records i
    revert h1 h2
    generalize (s.slot i).record = a, (t.slot i).record = b, (u.slot i).record = c
    rintro (hab | _) (hbc | _)
    · exact .some (hab.trans hbc)
    · exact .none
  programs := h'.programs.trans h.programs
  keys e cl := (h'.keys e cl).trans (h.keys e cl)

/-- Calls, endpoints and programs as they were. -/
theorem follow_of_eq {s t : State} (hc : t.calls = s.calls) (he : t.endpoints = s.endpoints) (hp : t.programs = s.programs) :
    Follow s t where
  gens i := by rw [State.slot, State.slot, hc]
  records i := by rw [show (t.slot i) = s.slot i by rw [State.slot, State.slot, hc]]; exact rel_follows_refl _
  programs := hp
  keys e cl := by rw [State.ep, State.ep, he]

theorem Follow.refl (s : State) : Follow s s := follow_of_eq rfl rfl rfl

theorem Follow.after {s t u : State} (h : Follow t u) (hc : t.calls = s.calls) (he : t.endpoints = s.endpoints)
    (hp : t.programs = s.programs) : Follow s u := (follow_of_eq hc he hp).trans h

theorem Follow.foldl {α : Type} {f : State → α → State} (hf : ∀ s x, Follow s (f s x)) (l : List α) (s : State) :
    Follow s (l.foldl f s) := by
  induction l generalizing s with
  | nil => exact .refl s
  | cons x l ih => exact (hf s x).trans (ih _)

/-- The record of one call is changed. -/
theorem follow_updCall {s : State} {h : Handle} {f : Call → Call} (hf : ∀ c, s.call h = some c → Follows c (f c)) :
    Follow s (s.updCall h f) where
  gens i := by rw [slot_updCall]; split <;> rfl
  records i := by
    rw [slot_updCall]
    split
    · rename_i hi
      obtain ⟨rfl, hg⟩ := hi
      rw [call_eq, if_pos hg] at hf
      cases hr : (s.slot h.slot).record with
      | none => exact .none
      | some c => exact .some (hf c hr)
    · exact rel_follows_refl _
  programs := by rw [updCall_only s h f]
  keys e cl := by rw [updCall_only s h f]; exact List.Subperm.refl _

/-- Endpoints are written, each with listings it had. -/
theorem follow_endpoints {s t : State} (hc : t.calls = s.calls) (hp : t.programs = s.programs)
    (hk : ∀ e cl, (keys cl (t.ep e)).Subperm (keys cl (s.ep e))) : Follow s t where
  gens i := by rw [State.slot, State.slot, hc]
  records i := by rw [show (t.slot i) = s.slot i by rw [State.slot, State.slot, hc]]; exact rel_follows_refl _
  programs := hp
  keys := hk

theorem ep_setEp (s : State) (e : Nat) (x : Endpoint) (j : Nat) : (s.setEp e x).ep j = if e = j ∧ e < 176 then x else s.ep j := by
  by_cases he : e < 176
  · simp only [he, and_true]; exact Table.get_set _ _ _ _ _ he
  · simp only [he, and_false, if_false]
    exact congrArg (fun t => Table.get t j (Endpoint.initial 0)) (Table.set_of_le _ _ _ (Nat.not_lt.1 he))

theorem follow_setEp {s : State} {e : Nat} {x : Endpoint} (hk : ∀ cl, (keys cl x).Subperm (keys cl (s.ep e))) :
    Follow s (s.setEp e x) := follow_endpoints rfl rfl fun j cl => by
  rw [ep_setEp]
  split
  · rename_i h; rw [← h.1]; exact hk cl
  · exact List.Subperm.refl _

/-- Every endpoint is written by its number and record, each with the listings it had. -/
theorem follow_mapIdx {s t : State} {f : Nat → Endpoint → Endpoint} (hc : t.calls = s.calls) (hp : t.programs = s.programs)
    (he : t.endpoints = s.endpoints.mapIdx f) (hk : ∀ e ep cl, (keys cl (f e ep)).Subperm (keys cl ep)) : Follow s t :=
  follow_endpoints hc hp fun e cl => by
    by_cases h : e < 176
    · have : t.ep e = f e (s.ep e) := by rw [State.ep, he]; exact Table.get_mapIdx _ _ _ _ _ h
      rw [this]; exact hk _ _ _
    · rw [keys_of_le (Nat.not_lt.1 h)]; exact List.nil_subperm

theorem follow_map {s t : State} {f : Endpoint → Endpoint} (hc : t.calls = s.calls) (hp : t.programs = s.programs)
    (he : t.endpoints = s.endpoints.map f) (hk : ∀ ep cl, (keys cl (f ep)).Subperm (keys cl ep)) : Follow s t :=
  follow_endpoints hc hp fun e cl => by
    by_cases h : e < 176
    · have : t.ep e = f (s.ep e) := by rw [State.ep, he]; exact Table.get_map _ _ _ _ _ h
      rw [this]; exact hk _ _
    · rw [keys_of_le (Nat.not_lt.1 h)]; exact List.nil_subperm

theorem SamePlaces.subperm {a b : Endpoint} (h : SamePlaces a b) (c : ListClass) : (Calls.keys c a).Subperm (Calls.keys c b) := by
  rw [h.keys_eq]

/-- A call that is listed nowhere stays so. -/
theorem Follow.lists_false {s t : State} (h : Follow s t) {e : Nat} {k : Handle} (hl : (s.ep e).lists k = false) :
    (t.ep e).lists k = false :=
  lists_false_iff.2 fun c q hq => lists_false_iff.1 hl c q ((h.keys e c).subset hq)

theorem Follow.call {s t : State} (h : Follow s t) {k : Handle} {c : Call} (hc : s.call k = some c) :
    ∃ d, t.call k = some d ∧ Follows c d := by
  have hs := slot_of_call hc
  have hr := h.records k.slot
  have hg := h.gens k.slot
  rw [hs] at hr hg
  generalize hd : (t.slot k.slot).record = o at hr
  cases hr with
  | some hf => exact ⟨_, by rw [call_eq, if_pos hg, hd], hf⟩

theorem Follow.record {s t : State} (h : Follow s t) {i : Nat} {d : Call} (hd : (t.slot i).record = some d) :
    ∃ c, (s.slot i).record = some c ∧ Follows c d := by
  have hr := h.records i
  rw [hd] at hr
  generalize hc : (s.slot i).record = o at hr
  cases hr with
  | some hf => exact ⟨_, rfl, hf⟩

theorem Follow.handleOf {s t : State} (h : Follow s t) (i : Nat) : t.handleOf i = s.handleOf i := by
  rw [State.handleOf, State.handleOf, h.gens]

/-- A change that follows keeps the order. -/
theorem Follow.inOrder {s t : State} (h : Follow s t) {b : Bool} {skip : Option Nat} (hs : InOrder b skip s) : InOrder b skip t where
  gens i := by rw [h.gens]; exact hs.gens i
  records i d hi hd := by
    obtain ⟨c, hc, hf⟩ := h.record hd
    exact hf.ok i (hs.records i c hi hc)
  programs := by rw [h.programs]; exact hs.programs
  targets := by rw [h.programs]; exact hs.targets
  named hb e cl k hk := by
    obtain ⟨hcl, c, hc, hlive, ht, hl⟩ := hs.named hb e cl k ((h.keys e cl).subset hk)
    obtain ⟨d, hd, hf⟩ := h.call hc
    exact ⟨hcl, d, hd, hf.live.trans hlive, hf.type.trans ht, hf.level.trans hl⟩
  once hb e cl := by
    obtain ⟨l, hp, hl⟩ := h.keys e cl
    exact (hp.map (·.1)).nodup_iff.1 ((hl.map _).nodup (hs.once hb e cl))
  sweeps hb i d sw' hi hd hsw hk := by
    obtain ⟨c, hc, hf⟩ := h.record hd
    obtain ⟨sw, hsw, hk, hr⟩ := hf.sweep sw' hsw hk
    obtain ⟨hn, hrest⟩ := hs.sweeps hb i c sw hi hc hsw hk
    refine ⟨hr.nodup hn, fun e he => ?_⟩
    obtain ⟨h1, h2⟩ := hrest e (hr.subset he)
    exact ⟨h1, h.handleOf i ▸ h.lists_false h2⟩

/-- Calls, endpoints and programs as they were. -/
theorem InOrder.same {b : Bool} {skip : Option Nat} {s t : State} (hs : InOrder b skip s) (hc : t.calls = s.calls)
    (he : t.endpoints = s.endpoints) (hp : t.programs = s.programs) : InOrder b skip t := (follow_of_eq hc he hp).inOrder hs

end Sys2Proof.Calls
end

section
/-! PROOFS. The operations that follow the records and move no listing in: the players, the faded calls, the counts, the sweeps' counts,
the spare pool and the frame boundary. -/

namespace Sys2Proof.Calls

open Sys2Proof.Machine

/-! ## Messages and players -/

theorem type_of_message {c : Call} {m : MessagePart} (h : c.message = some m) : c.type = .message := by
  unfold Call.message at h
  unfold Call.type
  split at h
  · rename_i hp; rw [hp]
  · cases h

/-- A MESSAGE takes a new message part. -/
theorem follows_messagePart {c : Call} {m : MessagePart} (h : c.message = some m) (m' : MessagePart) :
    Follows c { c with part := .message m' } := follows_of_eq (type_of_message h).symm rfl rfl rfl rfl rfl rfl

theorem follow_updMessage {s : State} {h : Handle} {c : Call} {m : MessagePart} (hc : s.call h = some c) (hm : c.message = some m)
    (m' : MessagePart) : Follow s (s.updCall h fun c => { c with part := .message m' }) :=
  follow_updCall fun d hd => by rw [hc] at hd; cases hd; exact follows_messagePart hm m'

theorem follow_setPlayer (s : State) (i : Nat) (x : Player) : Follow s (s.setPlayer i x) := follow_of_eq rfl rfl rfl

theorem follow_pauseMessage {s : State} {h : Handle} {c : Call} {m : MessagePart} (hc : s.call h = some c) (hm : c.message = some m) :
    Follow s (s.pauseMessage h m) := by
  unfold State.pauseMessage
  split
  · exact (follow_setPlayer _ _ _).trans (follow_updMessage (s := s.freePlayer _) hc hm _)
  · exact follow_updMessage hc hm _

theorem follow_pauseIfUnheard (s : State) (h : Handle) : Follow s (s.pauseIfUnheard h) := by
  unfold State.pauseIfUnheard
  split
  · rename_i c hc
    split
    · rename_i m hm
      split
      · exact follow_pauseMessage hc hm
      · exact .refl s
    · exact .refl s
  · exact .refl s

theorem follow_giveToMessage {s : State} {h : Handle} {c : Call} {m : MessagePart} (i : Nat) (hc : s.call h = some c)
    (hm : c.message = some m) : Follow s (s.giveToMessage i h m) :=
  (follow_setPlayer s i _).trans (follow_updMessage (s := s.setPlayer i _) hc hm _)

theorem follow_serveRounds (n : Nat) (s : State) : Follow s (State.serveRounds n s) := by
  induction n generalizing s with
  | zero => exact .refl s
  | succ n ih =>
    unfold State.serveRounds
    split
    · rename_i i h c _ hw
      split
      · rename_i m hm
        have hc : s.call h = some c := mem_records.1 (List.mem_filter.1 (pickBy_mem hw)).1
        exact (follow_giveToMessage i hc hm).trans (ih _)
      · exact .refl s
    · exact .refl s

theorem follow_servePlayers (s : State) : Follow s s.servePlayers := follow_serveRounds 4 s

theorem follow_releasePlayer (s : State) (i : Nat) : Follow s (s.releasePlayer i) :=
  (follow_setPlayer s i .idle).trans (follow_servePlayers _)

theorem follow_playerForAlarm (s : State) : Follow s s.playerForAlarm.1 := by
  unfold State.playerForAlarm
  split
  · exact .refl s
  · split
    · rename_i h c hv
      split
      · rename_i m hm
        exact follow_pauseMessage (mem_records.1 (List.mem_filter.1 (pickBy_mem hv)).1) hm
      · exact .refl s
    · exact .refl s

/-! ## Faded calls and counts -/

theorem follow_endFadedAt (s : State) (h : Handle) : Follow s (s.endFadedAt h) := by
  unfold State.endFadedAt
  split
  · rename_i c hc
    split
    · rename_i hf
      have hu : Follow s (s.updCall h fun c => { c with state := .ended, endSeq := s.seq }) :=
        follow_updCall fun d hd => by rw [hc] at hd; cases hd; exact follows_ended hf.1 _
      rw [State.updCall, hc] at hu
      exact hu.trans (follow_of_eq rfl rfl rfl)
    · exact .refl s
  · exact .refl s

theorem follow_settleCalls (s : State) : Follow s s.settleCalls :=
  ((Follow.foldl follow_pauseIfUnheard _ s).trans (Follow.foldl follow_endFadedAt _ _)).trans (follow_servePlayers _)

theorem follows_counted (s : State) (h : Handle) (c : Call) : Follows c (s.countedCall h c) := by
  refine follows_of_eq ?_ rfl rfl rfl rfl rfl rfl
  simp only [Call.type, State.countedCall]
  cases c.part <;> rfl

theorem slot_countCalls {s : State} {i : Nat} (hi : i < 64) :
    s.countCalls.slot i = ⟨(s.slot i).gen, (s.slot i).record.map (s.countedCall (s.handleOf i))⟩ :=
  Table.get_mapIdx _ _ _ _ _ hi

theorem follow_countCalls (s : State) : Follow s s.countCalls where
  gens i := by
    by_cases hi : i < 64
    · rw [slot_countCalls hi]
    · rw [slot_of_le (Nat.not_lt.1 hi), slot_of_le (Nat.not_lt.1 hi)]
  records i := by
    by_cases hi : i < 64
    · rw [slot_countCalls hi]
      cases (s.slot i).record
      · exact .none
      · exact .some (follows_counted _ _ _)
    · rw [slot_of_le (Nat.not_lt.1 hi), slot_of_le (Nat.not_lt.1 hi)]; exact .none
  programs := rfl
  keys _ _ := List.Subperm.refl _

theorem follow_refresh (s : State) : Follow s s.refresh := (follow_countCalls s).trans (follow_of_eq rfl rfl rfl)

/-! ## Ports and hold outputs -/

theorem follow_setPort (s : State) (p : Port) (r : PortRec) : Follow s (s.setPort p r) := by
  cases p <;> exact follow_of_eq rfl rfl rfl

theorem follow_answer (s : State) (p : Port) (a : AnswerCode) (d : List Byte) : Follow s (s.answer p a d) := follow_setPort _ _ _

theorem follow_enterPhase (s : State) (p : Port) (ph : Phase) : Follow s (s.enterPhase p ph) := follow_setPort _ _ _

theorem follow_serve (s : State) (p : Port) (o : Owner) : Follow s (s.serve p o) := follow_of_eq rfl rfl rfl

theorem follow_serveSweep (s : State) (sw : Sweep) : Follow s (s.serveSweep sw) := by
  unfold State.serveSweep
  split
  · exact follow_serve _ _ _
  · exact .refl s

theorem follow_answerSweep (s : State) (sw : Sweep) (a : AnswerCode) (d : List Byte) : Follow s (s.answerSweep sw a d) := by
  unfold State.answerSweep
  split
  · exact follow_answer _ _ _ _
  · exact .refl s

theorem follow_answerStopped (s : State) (h : Handle) (t : CallType) (sw : Sweep) (r : EndReason) :
    Follow s (s.answerStopped h t sw r) := by
  unfold State.answerStopped
  split
  · exact follow_answer _ _ _ _
  · exact .refl s

theorem follow_takeInterruption (e : Nat) (s : State) (r : Report) : Follow s (s.takeInterruption e r) := by
  unfold State.takeInterruption
  split <;> exact follow_of_eq rfl rfl rfl

theorem follow_bindHold (s : State) (h : Handle) (c : Call) : Follow s (s.bindHold h c) := by
  unfold State.bindHold
  split <;> exact follow_of_eq rfl rfl rfl

theorem follow_unbindHold (s : State) (h : Handle) (c : Call) : Follow s (s.unbindHold h c) := by
  unfold State.unbindHold
  split <;> exact follow_of_eq rfl rfl rfl

/-! ## Sweeps and participants -/

theorem follows_addParticipant (c : Call) (e : Nat) : Follows c (c.addParticipant e) := by
  unfold Call.addParticipant
  split
  · rename_i t ht
    exact follows_of_eq (by simp only [Call.type, ht]) rfl rfl rfl rfl rfl rfl
  · exact .refl c

theorem follows_dropParticipant (c : Call) (e : Nat) : Follows c (c.dropParticipant e) := by
  unfold Call.dropParticipant
  split
  · rename_i t ht
    exact follows_of_eq (by simp only [Call.type, ht]) rfl rfl rfl rfl rfl rfl
  · exact .refl c

theorem follows_countBump (c : Call) : Follows c c.countBump := by
  unfold Call.countBump
  split
  · exact follows_mapSweep (fun _ => rfl) fun _ _ => List.Sublist.refl _
  · exact .refl c

/-- The counts of a call's sweep are written, and its rest to a part of what it was. -/
theorem follow_updSweep {s : State} {h : Handle} {f : Sweep → Sweep} (hk : ∀ sw, (f sw).kind = sw.kind)
    (hr : ∀ c sw, s.call h = some c → c.sweep = some sw → (f sw).rest.Sublist sw.rest) : Follow s (s.updSweep h f) :=
  follow_updCall fun c hc => follows_mapSweep hk fun sw => hr c sw hc

/-- The sweep of a call that is not opening ends. -/
theorem follow_dropSweep {s : State} {h : Handle} (hk : ∀ c sw, s.call h = some c → c.sweep = some sw → sw.kind ≠ .opening) :
    Follow s (s.dropSweep h) :=
  follow_updCall fun c hc => follows_dropSweep fun sw => hk c sw hc

/-! ## The alarms' steps -/

theorem follow_markSubstituted (s : State) (h : Handle) : Follow s (s.markSubstituted h) :=
  follow_updCall fun c _ => by
    split
    · rename_i a ha
      exact follows_of_eq (by simp only [Call.type, ha]) rfl rfl rfl rfl rfl rfl
    · exact .refl c

theorem follow_setAlarmSeq (s : State) (i : Nat) (x : AlarmSeq) : Follow s (s.setAlarmSeq i x) := follow_of_eq rfl rfl rfl

theorem follow_beginPhrase (s : State) (h : Handle) (rep idx id : Nat) : Follow s (s.beginPhrase h rep idx id) := by
  refine (follow_playerForAlarm s).trans ?_
  unfold State.beginPhrase
  dsimp only
  split <;> exact follow_of_eq rfl rfl rfl

theorem follow_beginStep (s : State) (h : Handle) (g : AlarmProgram) (rep idx : Nat) : Follow s (s.beginStep h g rep idx) := by
  unfold State.beginStep
  split
  · exact .refl s
  · exact follow_setAlarmSeq _ _ _
  · exact follow_setAlarmSeq _ _ _
  · split
    · exact follow_beginPhrase _ _ _ _ _
    · exact (follow_setAlarmSeq _ _ _).trans (follow_markSubstituted _ _)

theorem follow_failStep (s : State) (h : Handle) (pl : Player) (n : Nat) : Follow s (s.failStep h pl n) := by
  unfold State.failStep
  split
  · exact (follow_setAlarmSeq _ _ _).trans (follow_markSubstituted _ _)
  · exact .refl s

theorem follow_failPlayer (id : Nat) (s : State) (i : Nat) : Follow s (State.failPlayer id s i) := by
  unfold State.failPlayer
  split
  · split
    · exact (follow_setPlayer s i .idle).trans (follow_failStep _ _ _ _)
    · exact .refl s
  · exact .refl s

/-! ## Faults and the spare pool -/

theorem follow_evalFaultOuts (s : State) : Follow s s.evalFaultOuts := follow_of_eq rfl rfl rfl

theorem follow_listFault (s : State) (f : ActiveFault) : Follow s (s.listFault f) := follow_of_eq rfl rfl rfl

theorem follow_recordFault (s : State) (src : FaultSource) (k : FaultKind) : Follow s (s.recordFault src k) := by
  unfold State.recordFault
  split <;> exact follow_of_eq rfl rfl rfl

theorem follow_refill (s : State) : Follow s s.refill :=
  Follow.foldl (fun s f => by unfold State.refillOne; split <;> exact follow_of_eq rfl rfl rfl) _ s

theorem follow_retireEntries (s : State) : Follow s s.retireEntries := (follow_refill _).after rfl rfl rfl

theorem follow_clearFault (s : State) (src : FaultSource) (k : FaultKind) : Follow s (s.clearFault src k) := by
  unfold State.clearFault
  split
  · exact .refl s
  · exact ((follow_retireEntries _).trans (follow_evalFaultOuts _)).after rfl rfl rfl

theorem follow_setService (s : State) (z : Nat) (v : ServiceState) (ch : Nat) (dest : Option Nat) (t : Timer) :
    Follow s (s.setService z v ch dest t) :=
  follow_setEp fun cl => (same_of_places rfl rfl rfl rfl : SamePlaces _ (s.ep z)).subperm cl

theorem follow_startMove (s : State) (z c : Nat) : Follow s (s.startMove z c) :=
  (follow_setService s z _ _ _ _).trans (follow_of_eq rfl rfl rfl)

theorem follow_giveSpare (s : State) (z c : Nat) : Follow s (s.giveSpare z c) :=
  (follow_of_eq rfl rfl rfl : Follow s (s.setSpare c (some z))).trans (follow_startMove _ _ _)

theorem follow_askPool (s : State) (z n : Nat) : Follow s (s.askPool z n) := by
  unfold State.askPool
  split
  · exact follow_giveSpare _ _ _
  · refine Follow.trans (t := if (s.ep z).channel = z then s else s.sendMove z z) ?_
      ((follow_setService _ z _ _ _ _).trans (follow_of_eq rfl rfl rfl))
    split
    · exact .refl s
    · exact follow_of_eq rfl rfl rfl

theorem follow_offerSpare (s : State) (c : Nat) : Follow s (s.offerSpare c) := by
  unfold State.offerSpare
  split
  · exact .refl s
  · split
    · exact (follow_giveSpare _ _ _).after rfl rfl rfl
    · exact .refl s

theorem follow_spareFails (s : State) (z c n : Nat) : Follow s (s.spareFails z c n) :=
  (follow_of_eq rfl rfl rfl : Follow s (s.setSpare c none)).trans (follow_askPool _ _ _)

theorem follow_actOnFault (s : State) (c n : Nat) : Follow s (s.actOnFault c n) := by
  unfold State.actOnFault
  split
  · split
    · exact follow_askPool _ _ _
    · exact .refl s
  · split
    · split
      · exact follow_spareFails _ _ _ _
      · exact .refl s
    · exact .refl s

theorem follow_confirmChannel (s : State) (c : Nat) (k : FaultKind) : Follow s (s.confirmChannel c k) := by
  unfold State.confirmChannel
  refine (follow_recordFault s (.channel c) k).trans ?_
  dsimp only
  split
  · split
    · exact follow_actOnFault _ _ _
    · exact .refl _
  · exact .refl _

theorem follow_channelRecovers (s : State) (c : Nat) (k : FaultKind) : Follow s (s.channelRecovers c k) := by
  unfold State.channelRecovers
  refine (follow_clearFault s (.channel c) k).trans ?_
  dsimp only
  split
  · split
    · exact follow_startMove _ _ _
    · exact (follow_setService _ c _ _ _ _).trans (follow_of_eq rfl rfl rfl)
    · exact .refl _
    · exact .refl _
  · exact follow_offerSpare _ _

theorem follow_actOnChannel (s : State) (c : Nat) (a : ChannelAction) : Follow s (s.actOnChannel c a) := by
  cases a with
  | nothing => exact .refl s
  | confirm k => exact follow_confirmChannel s c k
  | clear k => exact follow_channelRecovers s c k
  | change old k => exact (follow_clearFault s _ _).trans (follow_confirmChannel _ c k)

theorem follow_arriveHome (s : State) (z : Nat) : Follow s (s.arriveHome z) := by
  unfold State.arriveHome
  refine (follow_setService s z .inService z none .stopped).trans ?_
  dsimp only
  generalize s.setService z .inService z none .stopped = s1
  cases s1.spareFor z with
  | some c =>
    have h2 : Follow s1 ((s1.setSpare c none).offerSpare c) := (follow_offerSpare (s1.setSpare c none) c).after rfl rfl rfl
    refine h2.trans ?_
    dsimp only
    split
    · split
      · exact follow_askPool _ _ _
      · exact .refl _
    · exact .refl _
  | none =>
    dsimp only
    split
    · split
      · exact follow_askPool _ _ _
      · exact .refl _
    · exact .refl _

theorem follow_arriveSpare (s : State) (z c : Nat) : Follow s (s.arriveSpare z c) := by
  unfold State.arriveSpare
  refine (follow_setService s z .fallback c none .stopped).trans ?_
  simp only []
  split
  · exact follow_startMove _ _ _
  · split
    · split
      · exact follow_spareFails _ _ _ _
      · exact .refl _
    · exact .refl _

theorem follow_arrive (s : State) (z : Nat) : Follow s (s.arrive z) := by
  unfold State.arrive
  split
  · split
    · exact follow_arriveHome _ _
    · exact follow_arriveSpare _ _ _
  · exact .refl s

theorem follow_learnAt (s : State) (c code : Nat) (p : Port) : Follow s (s.learnAt c code p) := by
  unfold State.learnAt
  split
  · exact (follow_of_eq rfl rfl rfl : Follow s (s.setChannel c _)).trans (follow_answer _ _ _ _)
  · exact .refl s

theorem follow_linkFrame (s : State) : Follow s s.linkFrame :=
  (follow_of_eq rfl rfl rfl : Follow s { s with linkTimer := .ofMs 3000 }).trans (follow_clearFault _ _ _)

theorem follow_reading (s : State) (c code : Nat) (protect signal : Bool) : Follow s (s.reading c code protect signal) := by
  have h1 : Follow s { s with peak := s.peak.set c 0 } := follow_of_eq rfl rfl rfl
  refine ((h1.trans (follow_learnAt _ c code .system)).trans (follow_learnAt _ c code .bridge)).trans ?_
  exact (follow_actOnChannel _ c _).after rfl rfl rfl

/-! ## Gains, overrides and muted flags -/

theorem follow_refitCall (s : State) (h : Handle) (cl : ListClass) : Follow s (s.refitCall h cl) :=
  follow_map (f := fun ep => if ep.admits h then ep.refit s.ctx cl else ep) rfl rfl rfl fun ep d => by
    split
    · exact (refit_same _ _ _).subperm d
    · exact List.Subperm.refl _

theorem follow_setGain (s : State) (h : Handle) (c : Call) (g : Nat) : Follow s (s.setGain h c g) :=
  (follow_updCall (f := fun c => { c with gain := g }) fun _ _ => follows_of_eq rfl rfl rfl rfl rfl rfl rfl).trans (follow_refitCall _ _ _)

theorem follow_setOverride (s : State) (h : Handle) (c : Call) (e : Nat) (g : Option Nat) : Follow s (s.setOverride h c e g) := by
  have hu : SamePlaces ((s.ep e).updListing h fun l => { l with override := g }) (s.ep e) := 
    updListing_same h (f := fun l => { l with override := g }) (fun _ => rfl) _
  unfold State.setOverride
  refine follow_setEp fun cl => ?_
  split
  · exact ((refit_same _ _ _).trans hu).subperm cl
  · exact hu.subperm cl

theorem follow_setMuted {s : State} {h : Handle} {c : Call} {t : TalkPart} (hc : s.call h = some c) (ht : c.part = .talk t) (e : Nat)
    (f : Bool) : Follow s (s.setMuted h t e f) := by
  unfold State.setMuted
  refine (follow_updCall fun d hd => ?_).trans (follow_setEp fun cl =>
    (updListing_same h (f := fun l => { l with muted := f }) (fun _ => rfl) _).subperm cl)
  rw [hc] at hd
  cases hd
  exact follows_of_eq (by simp only [Call.type, ht]) rfl rfl rfl rfl rfl rfl

/-! ## The frame boundary -/

theorem follow_inputBoundary (f : FrameInput) (s : State) (i : Nat) : Follow s (State.inputBoundary f s i) := by
  unfold State.inputBoundary State.reportFraming
  refine (follow_of_eq rfl rfl rfl : Follow s (s.setInput i ((s.input i).boundary (f.markers.getD i false)))).trans ?_
  dsimp only
  split
  · exact follow_recordFault _ _ _
  · split
    · exact follow_clearFault _ _ _
    · exact .refl _

theorem follow_answerSwap (s : State) (p : Port) : Follow s (s.answerSwap p) := by
  unfold State.answerSwap
  split
  · exact follow_answer _ _ _ _
  · exact .refl s

theorem follow_refitEndpoints (s : State) : Follow s s.refitEndpoints :=
  follow_map (f := Endpoint.refitAll s.ctx) rfl rfl rfl fun _ cl => (refitAll_same _ _).subperm cl

theorem follow_applyPending (s : State) : Follow s s.applyPending := by
  unfold State.applyPending
  split
  · exact (((follow_of_eq rfl rfl rfl : Follow s s.applyMode.applySwap).trans (follow_refitEndpoints _)).trans
      (follow_answerSwap _ _)).trans (follow_answerSwap _ _)
  · exact .refl s

theorem follow_stepTerms (s : State) : Follow s s.stepTerms :=
  follow_map (f := Endpoint.stepTerms) rfl rfl rfl fun _ cl => (stepTerms_same _).subperm cl

theorem follow_clips (mixes : List Int) (es : List Nat) (s : State) : Follow s (es.foldl (State.clipAt mixes) s) :=
  Follow.foldl (fun s e => by unfold State.clipAt; split <;> exact follow_of_eq rfl rfl rfl) es s

theorem follow_mixFrame (s : State) (f : FrameInput) : Follow s (s.mixFrame f) := by
  unfold State.mixFrame
  dsimp only
  have h := follow_clips ((List.range Config.endpoints).map (s.mixOf (s.sources f))) (List.range Config.endpoints) s
  generalize (List.range Config.endpoints).foldl _ s = u at h ⊢
  exact h.trans (follow_of_eq rfl rfl rfl)

theorem follow_advance (s : State) : Follow s s.advance :=
  follow_map (f := fun ep => { ep with switchTimer := ep.switchTimer.tick }) rfl rfl rfl fun ep cl =>
    (same_of_places rfl rfl rfl rfl : SamePlaces _ ep).subperm cl

theorem follow_boundary (s : State) (f : FrameInput) : Follow s (s.boundary f) :=
  ((((Follow.foldl (follow_inputBoundary f) _ s : Follow s (s.inputsBoundary f)).trans (follow_applyPending _)).trans
    (follow_stepTerms _)).trans (follow_mixFrame _ f)).trans (follow_advance _)

end Sys2Proof.Calls
end

section
/-! PROOFS. A call's entry to ENDING (02 R26): the fields it writes, the record it leaves, and the endpoints its listings have left. -/

namespace Sys2Proof.Calls

open Sys2Proof.Machine

/-! ## The withdrawal of a call's listings -/

/-- From `s` to `t` no field but the endpoints and the hold outputs differs. -/
def OnlyListings (s t : State) : Prop := t = { s with endpoints := t.endpoints, holds := t.holds }

theorem OnlyListings.refl (s : State) : OnlyListings s s := rfl
theorem OnlyListings.trans {s t u : State} (h : OnlyListings s t) (h' : OnlyListings t u) : OnlyListings s u := by
  unfold OnlyListings at *; rw [h', h]

/-- From `s` to `t` no field but the hold outputs differs. -/
def OnlyHolds (s t : State) : Prop := t = { s with holds := t.holds }

theorem OnlyHolds.refl (s : State) : OnlyHolds s s := rfl
theorem OnlyHolds.trans {s t u : State} (h : OnlyHolds s t) (h' : OnlyHolds t u) : OnlyHolds s u := by
  unfold OnlyHolds at *; rw [h', h]
theorem OnlyHolds.listings {s t : State} (h : OnlyHolds s t) : OnlyListings s t := by
  unfold OnlyListings; rw [h]

theorem takeInterruption_only (e : Nat) (s : State) (r : Report) : OnlyHolds s (s.takeInterruption e r) := by
  unfold State.takeInterruption; split <;> rfl

theorem takeInterruptions_only (e : Nat) (rs : List Report) (s : State) : OnlyHolds s (rs.foldl (State.takeInterruption e) s) := by
  induction rs generalizing s with
  | nil => rfl
  | cons r rs ih => exact (takeInterruption_only e s r).trans (ih _)

/-- Endpoint `e` without the listing of a call that ends. -/
def withdrawn (x : EpCtx) (h : Handle) (cl : ListClass) (ep : Endpoint) : Endpoint :=
  if ep.lists h then (ep.remove x cl h .ending).1 else ep

theorem withdrawAt_only (h : Handle) (cl : ListClass) (s : State) (e : Nat) : OnlyListings s (s.withdrawAt h cl e) := by
  unfold State.withdrawAt
  split
  · exact OnlyListings.trans (t := s.setEp e _) rfl (takeInterruptions_only _ _ _).listings
  · rfl

theorem ep_withdrawAt (h : Handle) (cl : ListClass) (s : State) {e : Nat} (he : e < 176) (j : Nat) :
    (s.withdrawAt h cl e).ep j = if e = j then withdrawn s.ctx h cl (s.ep e) else s.ep j := by
  unfold State.withdrawAt withdrawn
  split
  · rw [takeInterruptions_only]
    show (s.setEp e _).ep j = _
    rw [ep_setEp]
    simp [he]
  · split
    · rename_i hj; rw [hj]
    · rfl

theorem lists_initial (h : Handle) (n : Nat) : (Endpoint.initial n).lists h = false := rfl

theorem withdraw_upto (h : Handle) (cl : ListClass) (s : State) {n : Nat} (hn : n ≤ 176) :
    OnlyListings s ((List.range n).foldl (State.withdrawAt h cl) s) ∧
      ∀ j, ((List.range n).foldl (State.withdrawAt h cl) s).ep j = if j < n then withdrawn s.ctx h cl (s.ep j) else s.ep j := by
  induction n with
  | zero => exact ⟨rfl, fun j => rfl⟩
  | succ n ih =>
    obtain ⟨ho, he⟩ := ih (by omega)
    rw [List.range_succ, List.foldl_append]
    generalize (List.range n).foldl (State.withdrawAt h cl) s = t at ho he ⊢
    refine ⟨ho.trans (withdrawAt_only _ _ _ _), fun j => ?_⟩
    have hx : t.ctx = s.ctx := by rw [ho]; rfl
    show (t.withdrawAt h cl n).ep j = _
    rw [ep_withdrawAt h cl t (by omega), hx, he, he]
    by_cases hj : n = j
    · subst hj; simp
    · by_cases hl : j < n
      · simp [hj, hl, Nat.lt_succ_of_lt hl]
      · have : ¬ j < n + 1 := by omega
        simp [hj, hl, this]

theorem withdraw_only (s : State) (h : Handle) (cl : ListClass) : OnlyListings s (s.withdraw h cl) :=
  (withdraw_upto h cl s (Nat.le_refl 176)).1

/-- Every endpoint loses the call's listing. -/
theorem ep_withdraw (s : State) (h : Handle) (cl : ListClass) (e : Nat) :
    (s.withdraw h cl).ep e = withdrawn s.ctx h cl (s.ep e) := by
  rw [State.withdraw, show Config.endpoints = 176 from rfl, (withdraw_upto h cl s (Nat.le_refl 176)).2]
  split
  · rfl
  · rename_i he
    rw [show s.ep e = Endpoint.initial 0 from Table.get_of_le _ _ _ (Nat.not_lt.1 he), withdrawn, lists_initial]
    rfl

/-! ## Entry to ENDING -/

/-- From `s` to `t` no field differs but those that the end of a call writes. -/
def OnlyEnding (s t : State) : Prop :=
  t = { s with
    system := t.system, bridge := t.bridge, endpoints := t.endpoints, calls := t.calls, holds := t.holds, players := t.players,
    triggers := t.triggers, alarms := t.alarms }

theorem OnlyEnding.refl (s : State) : OnlyEnding s s := rfl
theorem OnlyEnding.trans {s t u : State} (h : OnlyEnding s t) (h' : OnlyEnding t u) : OnlyEnding s u := by
  unfold OnlyEnding at *; rw [h', h]
theorem OnlyEnding.foldl {α : Type} {f : State → α → State} (hf : ∀ s x, OnlyEnding s (f s x)) (l : List α) (s : State) :
    OnlyEnding s (l.foldl f s) := by
  induction l generalizing s with
  | nil => rfl
  | cons x l ih => exact (hf s x).trans (ih _)

theorem OnlyListings.ending {s t : State} (h : OnlyListings s t) : OnlyEnding s t := by
  unfold OnlyEnding; rw [h]

/-- The record that a call's entry to ENDING leaves (02 R26). -/
def endingRecord (s : State) (h : Handle) (c : Call) (r : EndReason) : Call :=
  { c with state := .ending, reason := some r, sweep := none, part := s.endingPart h c.part }

/-- From `s` to `t` no field but the command ports differs. -/
def OnlyPorts (s t : State) : Prop := t = { s with system := t.system, bridge := t.bridge }

theorem OnlyPorts.refl (s : State) : OnlyPorts s s := rfl
theorem OnlyPorts.trans {s t u : State} (h : OnlyPorts s t) (h' : OnlyPorts t u) : OnlyPorts s u := by
  unfold OnlyPorts at *; rw [h', h]
theorem OnlyPorts.ending {s t : State} (h : OnlyPorts s t) : OnlyEnding s t := by
  unfold OnlyEnding; rw [h]

theorem setPort_only (s : State) (p : Port) (r : PortRec) : OnlyPorts s (s.setPort p r) := by cases p <;> rfl
theorem answer_only (s : State) (p : Port) (a : AnswerCode) (d : List Byte) : OnlyPorts s (s.answer p a d) := setPort_only _ _ _
theorem answerSweep_only (s : State) (sw : Sweep) (a : AnswerCode) (d : List Byte) : OnlyPorts s (s.answerSweep sw a d) := by
  unfold State.answerSweep; split
  · exact answer_only _ _ _ _
  · rfl
theorem answerStopped_only (s : State) (h : Handle) (t : CallType) (sw : Sweep) (r : EndReason) :
    OnlyPorts s (s.answerStopped h t sw r) := by
  unfold State.answerStopped; split
  · exact answer_only _ _ _ _
  · rfl

theorem freePlayerOf_only (s : State) (h : Handle) : OnlyPlay s (s.freePlayerOf h) := by
  unfold State.freePlayerOf; split <;> rfl

theorem unbindHold_only (s : State) (h : Handle) (c : Call) : OnlyHolds s (s.unbindHold h c) := by
  unfold State.unbindHold; split <;> rfl

/-- From `s` to `t` no field but the alarms' positions and the triggers differs. -/
def OnlyAlarms (s t : State) : Prop := t = { s with alarms := t.alarms, triggers := t.triggers }

theorem endAlarm_only (s : State) (h : Handle) : OnlyAlarms s (s.endAlarm h) := rfl

theorem OnlyPorts.calls {s t : State} (h : OnlyPorts s t) : t.calls = s.calls := by rw [h]
theorem OnlyPorts.endpoints {s t : State} (h : OnlyPorts s t) : t.endpoints = s.endpoints := by rw [h]
theorem OnlyHolds.calls {s t : State} (h : OnlyHolds s t) : t.calls = s.calls := by rw [h]
theorem OnlyHolds.endpoints {s t : State} (h : OnlyHolds s t) : t.endpoints = s.endpoints := by rw [h]
theorem OnlyListings.calls {s t : State} (h : OnlyListings s t) : t.calls = s.calls := by rw [h]
theorem OnlyAlarms.calls {s t : State} (h : OnlyAlarms s t) : t.calls = s.calls := by rw [h]
theorem OnlyAlarms.endpoints {s t : State} (h : OnlyAlarms s t) : t.endpoints = s.endpoints := by rw [h]
theorem OnlyPlay.endpoints {s t : State} (h : OnlyPlay s t) : t.endpoints = s.endpoints := by rw [h]
theorem OnlyPlay.ending {s t : State} (h : OnlyPlay s t) : OnlyEnding s t := by
  unfold OnlyEnding; rw [h]
theorem OnlyHolds.ending {s t : State} (h : OnlyHolds s t) : OnlyEnding s t := h.listings.ending
theorem OnlyAlarms.ending {s t : State} (h : OnlyAlarms s t) : OnlyEnding s t := by
  unfold OnlyEnding; rw [h]

/-! The stages of an entry to ENDING: the record, the player, the listings, the hold output, the alarm's position, the answer. -/

/-- The record is written and the player freed. -/
def endingFreed (s : State) (h : Handle) (c : Call) (r : EndReason) : State :=
  (s.setRecord h.slot (some (endingRecord s h c r))).freePlayerOf h

/-- The listings have left as well, and the hold output is unbound. -/
def endingUnbound (s : State) (h : Handle) (c : Call) (r : EndReason) : State :=
  ((endingFreed s h c r).withdraw h c.type.listClass).unbindHold h c

/-- The Sequencer has ended an ALARM as well. -/
def endingSilent (s : State) (h : Handle) (c : Call) (r : EndReason) : State :=
  if c.type = .alarm then (endingUnbound s h c r).endAlarm h else endingUnbound s h c r

theorem enterEnding_idle {s : State} {h : Handle} {c : Call} (hs : c.sweep = none) (r : EndReason) :
    s.enterEnding h c r = endingSilent s h c r := by
  simp only [State.enterEnding, hs]; rfl

theorem enterEnding_sweeping {s : State} {h : Handle} {c : Call} {sw : Sweep} (hs : c.sweep = some sw) (r : EndReason) :
    s.enterEnding h c r = (endingSilent s h c r).answerStopped h c.type sw r := by
  simp only [State.enterEnding, hs]; rfl

theorem enterEnding_ports (s : State) (h : Handle) (c : Call) (r : EndReason) :
    OnlyPorts (endingSilent s h c r) (s.enterEnding h c r) := by
  cases hs : c.sweep with
  | none => rw [enterEnding_idle hs]; exact .refl _
  | some sw => rw [enterEnding_sweeping hs]; exact answerStopped_only _ _ _ _ _

theorem endingSilent_only (s : State) (h : Handle) (c : Call) (r : EndReason) :
    OnlyAlarms (endingUnbound s h c r) (endingSilent s h c r) := by
  unfold endingSilent
  split
  · exact endAlarm_only _ _
  · rfl

theorem endingFreed_only (s : State) (h : Handle) (c : Call) (r : EndReason) : OnlyPlay s (endingFreed s h c r) :=
  OnlyPlay.trans (t := s.setRecord h.slot (some (endingRecord s h c r))) rfl (freePlayerOf_only _ _)

theorem endingFreed_calls (s : State) (h : Handle) (c : Call) (r : EndReason) :
    (endingFreed s h c r).calls = s.calls.set h.slot ⟨(s.slot h.slot).gen, some (endingRecord s h c r)⟩ := by
  unfold endingFreed State.freePlayerOf
  split <;> rfl

theorem endingUnbound_calls (s : State) (h : Handle) (c : Call) (r : EndReason) :
    (endingUnbound s h c r).calls = s.calls.set h.slot ⟨(s.slot h.slot).gen, some (endingRecord s h c r)⟩ :=
  (unbindHold_only _ _ _).calls.trans ((withdraw_only _ _ _).calls.trans (endingFreed_calls s h c r))

/-- The call table after an entry to ENDING. -/
theorem enterEnding_calls (s : State) (h : Handle) (c : Call) (r : EndReason) :
    (s.enterEnding h c r).calls = s.calls.set h.slot ⟨(s.slot h.slot).gen, some (endingRecord s h c r)⟩ :=
  (enterEnding_ports s h c r).calls.trans ((endingSilent_only s h c r).calls.trans (endingUnbound_calls s h c r))

theorem ep_congr {s t : State} (h : t.endpoints = s.endpoints) (e : Nat) : t.ep e = s.ep e := by rw [State.ep, State.ep, h]

/-- What the endpoints read of the part while a call ends. -/
def endingCtx (s : State) (h : Handle) (c : Call) (r : EndReason) : EpCtx :=
  ⟨s.mixMode, s.bank, s.calls.set h.slot ⟨(s.slot h.slot).gen, some (endingRecord s h c r)⟩⟩

theorem endingFreed_ctx (s : State) (h : Handle) (c : Call) (r : EndReason) : (endingFreed s h c r).ctx = endingCtx s h c r := by
  unfold State.ctx endingCtx
  rw [endingFreed_calls, endingFreed_only]

/-- The endpoints after an entry to ENDING. -/
theorem ep_enterEnding (s : State) (h : Handle) (c : Call) (r : EndReason) (e : Nat) :
    (s.enterEnding h c r).ep e = withdrawn (endingCtx s h c r) h c.type.listClass (s.ep e) := by
  rw [ep_congr (enterEnding_ports s h c r).endpoints, ep_congr (endingSilent_only s h c r).endpoints, endingUnbound,
    ep_congr (unbindHold_only _ _ _).endpoints, ep_withdraw, endingFreed_ctx, ep_congr (endingFreed_only s h c r).endpoints]

theorem enterEnding_only (s : State) (h : Handle) (c : Call) (r : EndReason) : OnlyEnding s (s.enterEnding h c r) :=
  (((endingFreed_only s h c r).ending.trans (withdraw_only _ h c.type.listClass).ending).trans
    (unbindHold_only _ h c).ending).trans ((endingSilent_only s h c r).ending.trans (enterEnding_ports s h c r).ending)

theorem endCall_only (s : State) (h : Handle) (r : EndReason) : OnlyEnding s (s.endCall h r) := by
  unfold State.endCall
  split
  · split
    · exact enterEnding_only _ _ _ _
    · rfl
  · rfl

/-! ## What an endpoint holds without the call -/

theorem withdrawn_subperm (x : EpCtx) (h : Handle) (cl d : ListClass) (ep : Endpoint) :
    (keys d (withdrawn x h cl ep)).Subperm (keys d ep) := by
  unfold withdrawn
  split
  · by_cases hd : d = cl
    · subst hd; exact (keys_remove_sublist x d h .ending ep).subperm
    · rw [keys_remove_ne hd]
  · exact List.Subperm.refl _

/-- Where the call is listed only in its class, and once, no listing of it remains. -/
theorem withdrawn_unlisted {ep : Endpoint} {h : Handle} {cl : ListClass} (honce : ((keys cl ep).map (·.1)).Nodup)
    (hcl : ∀ d, ∀ k ∈ keys d ep, k.1 = h → d = cl) (x : EpCtx) (d : ListClass) : ∀ k ∈ keys d (withdrawn x h cl ep), k.1 ≠ h := by
  intro k hk hkh
  have hd : d = cl := hcl d k ((withdrawn_subperm x h cl d ep).subset hk) hkh
  subst hd
  unfold withdrawn at hk
  split at hk
  · rw [keys_remove honce] at hk
    simpa [hkh] using (List.mem_filter.1 hk).2
  · rename_i hl
    exact lists_false_iff.1 (Bool.not_eq_true _ ▸ hl) d k hk hkh

end Sys2Proof.Calls
end

section
/-! PROOFS. The order of the call table through the events that change which calls are live and which are listed: a slot taken or freed,
an end, an arrival, the sweeps and the start of an alarm (02 R21, R26 to R36; 03 R45; 08 R143 to R147). -/

namespace Sys2Proof.Calls

open Sys2Proof.Machine

/-! ## Writing a slot that no listing names -/

/-- No listing names a call in slot `i`. -/
def SlotUnlisted (s : State) (i : Nat) : Prop := ∀ e cl, ∀ k ∈ keys cl (s.ep e), k.1.slot ≠ i

theorem SlotUnlisted.lists {s : State} {i : Nat} (h : SlotUnlisted s i) (e : Nat) (k : Handle) (hk : k.slot = i) :
    (s.ep e).lists k = false := lists_false_iff.2 fun c q hq hqk => h e c q hq (by rw [hqk, hk])

/-- A slot without a live record is named by no listing. -/
theorem InOrder.unlisted {b : Bool} {skip : Option Nat} {s : State} (h : InOrder b skip s) {i : Nat}
    (hi : ∀ c, (s.slot i).record = some c → c.state.live = false) : b = true → SlotUnlisted s i := by
  rintro hb e cl k hk rfl
  obtain ⟨c, hc, hlive, -⟩ := h.slot_named hb hk
  rw [hi c (by rw [hc])] at hlive
  cases hlive

/-- A slot that no listing names is written with a record in order, or none. -/
theorem InOrder.setSlot {b : Bool} {s t : State} {i g : Nat} {o : Option Call} (h : InOrder b (some i) s)
    (hcalls : t.calls = s.calls.set i ⟨g, o⟩) (hends : t.endpoints = s.endpoints) (hprog : t.programs = s.programs) (hi : i < 64)
    (hu : b = true → SlotUnlisted s i) (hg : g < 256) (ho : ∀ c, o = some c → c.recordOk i)
    (hsw : b = true → ∀ c sw, o = some c → c.sweep = some sw → sw.kind ≠ .drop → sw.rest.Nodup ∧ ∀ e ∈ sw.rest, e < 176) :
    InOrder b none t := by
  have hslot : ∀ j, t.slot j = if i = j then ⟨g, o⟩ else s.slot j := fun j => by
    rw [State.slot, hcalls]; exact Table.get_set _ _ _ _ _ hi
  have hep := ep_congr hends
  refine ⟨fun j => ?_, fun j c _ hc => ?_, hprog ▸ h.programs, hprog ▸ h.targets, fun hb e cl k hk => ?_,
    fun hb e cl => by rw [hep]; exact h.once hb e cl, fun hb j c sw _ hc hs hk => ?_⟩
  · rw [hslot]; split
    · exact hg
    · exact h.gens j
  · rw [hslot] at hc
    split at hc
    · rename_i hij; exact hij ▸ ho c hc
    · rename_i hij; exact h.records j c (by simpa using fun he => hij he.symm) hc
  · rw [hep] at hk
    obtain ⟨hcl, c, hc, hrest⟩ := h.named hb e cl k hk
    refine ⟨hcl, c, ?_, hrest⟩
    rw [call_congr (s := s) (by rw [hslot, if_neg (hu hb e cl k hk).symm]), hc]
  · rw [hslot] at hc
    unfold RestOk
    split at hc
    · rename_i hij
      obtain ⟨hn, hr⟩ := hsw hb c sw hc hs hk
      exact ⟨hn, fun e he => ⟨hr e he, by rw [hep]; exact (hu hb).lists e _ hij.symm⟩⟩
    · rename_i hij
      obtain ⟨hn, hr⟩ := h.sweeps hb j c sw (by simpa using fun he => hij he.symm) hc hs hk
      refine ⟨hn, fun e he => ?_⟩
      rw [hep, State.handleOf, hslot, if_neg hij]
      exact hr e he

/-- A record becomes FREE. -/
theorem InOrder.freeRecord {b : Bool} {s : State} {h : Handle} (hs : InOrder b (some h.slot) s) (hi : h.slot < 64)
    (hu : b = true → SlotUnlisted s h.slot) : InOrder b none (s.freeRecord h) :=
  hs.setSlot (g := (s.slot h.slot).gen) (o := none) rfl rfl rfl hi hu (hs.gens _) (fun _ hc => nomatch hc) fun _ _ _ hc => nomatch hc

/-- A FREE slot is taken. -/
theorem InOrder.takeSlot {b : Bool} {s : State} {i : Nat} {c : Call} {sw : Sweep} (hs : InOrder b none s) (hi : i < 64)
    (hfree : (s.slot i).record = none) (hok : c.recordOk i) (hsw : c.sweep = some sw)
    (hrest : b = true → sw.rest.Nodup ∧ ∀ e ∈ sw.rest, e < 176) : InOrder b none (s.takeSlot i c) := by
  refine (hs.skipping (some i)).setSlot (g := ((s.slot i).gen + 1) % 256) (o := some { c with openSeq := s.seq }) rfl rfl rfl hi ?_
    (Nat.mod_lt _ (by decide)) ?_ ?_
  · exact hs.unlisted fun c hc => by rw [hfree] at hc; cases hc
  · rintro d ⟨⟩; exact hok
  · rintro hb d sw' ⟨⟩ hd -
    rw [show sw' = sw from Option.some.inj (hd.symm.trans hsw)]
    exact hrest hb

/-! ## The end of a call -/

/-- The fields of a record that its type and slot fix. -/
structure FieldsOk (i : Nat) (c : Call) : Prop where
  type : c.type = .alarm ↔ 60 ≤ i
  low : (levelRange c.type).1 ≤ c.level
  high : c.level ≤ (levelRange c.type).2
  ramp : c.ramp ≤ 7
  locked : c.locked = true ↔ c.type = .alarm

theorem fieldsOk_of_recordOk {i : Nat} {c : Call} (h : c.recordOk i) : FieldsOk i c := by
  obtain ⟨h1, h2, h3, h4, h5, -⟩ := h
  exact ⟨h1, h2, h3, h4, h5⟩

theorem endingPart_type (s : State) (h : Handle) (c : Call) (r : EndReason) : (endingRecord s h c r).type = c.type := by
  simp only [endingRecord, Call.type]
  cases c.part <;> rfl

theorem endingRecord_ok {s : State} {h : Handle} {i : Nat} {c : Call} {r : EndReason} (hf : FieldsOk i c) :
    (endingRecord s h c r).recordOk i := by
  unfold Call.recordOk
  rw [endingPart_type]
  exact ⟨hf.type, hf.low, hf.high, hf.ramp, hf.locked, by simp [endingRecord, CallState.live], by simp [endingRecord], fun _ => rfl⟩

/-- The record keeps the handle's generation. -/
theorem InOrder.enterEnding {b : Bool} {s : State} {h : Handle} {c : Call} {r : EndReason} (hs : InOrder b (some h.slot) s)
    (hc : s.call h = some c) (hf : FieldsOk h.slot c) : InOrder b none (s.enterEnding h c r) := by
  have hep := ep_enterEnding s h c r
  have hslot := slot_of_call hc
  have hfollow : Follow s { s with endpoints := (s.enterEnding h c r).endpoints } := follow_endpoints rfl rfl fun e cl => by
    show (keys cl ((s.enterEnding h c r).ep e)).Subperm _
    rw [hep]; exact withdrawn_subperm _ _ _ _ _
  refine (hfollow.inOrder hs).setSlot (enterEnding_calls s h c r) rfl (by rw [enterEnding_only]) (slot_lt_of_call hc) ?_
    (hs.gens h.slot) ?_ ?_
  · intro hb e cl k hk hslotk
    have hk' : k ∈ keys cl ((s.enterEnding h c r).ep e) := hk
    rw [hep] at hk'
    have hcl : ∀ d, ∀ q ∈ keys d (s.ep e), q.1 = h → d = c.type.listClass := by
      intro d q hq hqh
      obtain ⟨hd, c', hc', -, ht, -⟩ := hs.named hb e d q hq
      rw [hqh, hc] at hc'
      cases hc'
      rw [← hd, ht]
    have hne : k.1 ≠ h := withdrawn_unlisted (hs.once hb e _) hcl _ cl k hk'
    obtain ⟨c', hc', -⟩ := hs.slot_named hb ((withdrawn_subperm _ _ _ _ _).subset hk')
    rw [hslotk, hslot] at hc'
    exact hne (by cases h; cases hk1 : k.1; simp_all)
  · rintro d ⟨⟩; exact endingRecord_ok hf
  · rintro - d sw ⟨⟩ hd; cases hd

theorem InOrder.recordOk {b : Bool} {s : State} (hs : InOrder b none s) {h : Handle} {c : Call} (hc : s.call h = some c) :
    c.recordOk h.slot := hs.records _ _ nofun (record_of_call hc)

theorem InOrder.endCall {b : Bool} {s : State} (hs : InOrder b none s) (h : Handle) (r : EndReason) :
    InOrder b none (s.endCall h r) := by
  unfold State.endCall
  split
  · rename_i c hc
    split
    · exact (hs.skipping _).enterEnding hc (fieldsOk_of_recordOk (hs.recordOk hc))
    · exact hs
  · exact hs

theorem InOrder.foldl {α : Type} {b : Bool} {f : State → α → State} (hf : ∀ s x, InOrder b none s → InOrder b none (f s x)) (l : List α)
    {s : State} (hs : InOrder b none s) : InOrder b none (l.foldl f s) := by
  induction l generalizing s with
  | nil => exact hs
  | cons x l ih => exact ih (hf s x hs)

/-! ## Reports -/

theorem InOrder.lastLoss {b : Bool} {s : State} (hs : InOrder b none s) (h : Handle) (k : Cause) : InOrder b none (s.lastLoss h k) := by
  unfold State.lastLoss
  split
  · exact hs
  · split
    · split
      · exact (follow_updSweep (f := fun sw => { sw with lastLoss := some k.reason }) (fun _ => rfl)
          fun _ _ _ _ => List.Sublist.refl _).inOrder hs
      · exact hs.endCall _ _
    · exact hs

theorem InOrder.takeReport {b : Bool} {s : State} (hs : InOrder b none s) (e : Nat) (r : Report) :
    InOrder b none (State.takeReport e s r) := by
  unfold State.takeReport
  split
  · exact (follow_takeInterruption _ _ _).inOrder hs
  · exact ((follow_updCall fun c _ => (follows_dropParticipant c e).trans (follows_countBump _)).inOrder hs).lastLoss _ _
  · exact ((follow_updCall fun c _ => follows_dropParticipant c e).inOrder hs).lastLoss _ _
  · exact (follow_updCall fun c _ => follows_dropParticipant c e).inOrder hs
  · exact hs

/-- An event of an endpoint keeps the order if the endpoint's new record does. -/
theorem InOrder.atEndpoint {b : Bool} {s : State} {e : Nat} {f : EpCtx → Endpoint → Endpoint × List Report}
    (hs : InOrder b none (s.setEp e (f s.ctx (s.ep e)).1)) : InOrder b none (s.atEndpoint e f) :=
  InOrder.foldl (fun _ r h => h.takeReport e r) _ hs

/-- A removal at an endpoint. -/
theorem InOrder.removeAt {b : Bool} {s : State} (hs : InOrder b none s) (e : Nat) (cl : ListClass) (h : Handle) (k : Cause) :
    InOrder b none (s.atEndpoint e fun x ep => ep.remove x cl h k) :=
  InOrder.atEndpoint (Follow.inOrder (follow_setEp fun d => by
    by_cases hd : d = cl
    · subst hd; exact (keys_remove_sublist _ _ _ _ _).subperm
    · rw [keys_remove_ne hd]) hs)

/-! ## Arrival -/

/-- A listing of a live call arrives at an endpoint that does not list it and that its sweep does not visit again. -/
theorem InOrder.arrival {b : Bool} {s : State} (hs : InOrder b none s) {l : Listing} {c : Call} {e : Nat} {x : Endpoint}
    (hc : s.call l.call = some c) (hlive : c.state.live = true) (ht : c.type = l.type) (hl : c.level = l.level)
    (hun : b = true → (s.ep e).lists l.call = false)
    (hrest : b = true → ∀ sw, c.sweep = some sw → sw.kind ≠ .drop → e ∉ sw.rest)
    (hx : (keys l.type.listClass x).Subperm (keyOf l :: keys l.type.listClass (s.ep e)))
    (hx' : ∀ d, d ≠ l.type.listClass → keys d x = keys d (s.ep e)) : InOrder b none (s.setEp e x) := by
  have hmem : ∀ d, ∀ k ∈ keys d x, (k = keyOf l ∧ d = l.type.listClass) ∨ k ∈ keys d (s.ep e) := by
    intro d k hk
    by_cases hd : d = l.type.listClass
    · subst hd
      exact (List.mem_cons.1 (hx.subset hk)).imp_left fun h => ⟨h, rfl⟩
    · rw [hx' d hd] at hk; exact .inr hk
  refine ⟨hs.gens, hs.records, hs.programs, hs.targets, fun hb j d k hk => ?_, fun hb j d => ?_, fun hb i c' sw _ hc' hsw hkind => ?_⟩
  · rw [ep_setEp] at hk
    split at hk
    · rcases hmem d k hk with ⟨rfl, rfl⟩ | hk
      · exact ⟨rfl, c, hc, hlive, ht, hl⟩
      · exact hs.named hb e d k hk
    · exact hs.named hb j d k hk
  · rw [ep_setEp]
    split
    · by_cases hd : d = l.type.listClass
      · subst hd
        obtain ⟨m, hp, hm⟩ := hx
        refine (hp.map (·.1)).nodup_iff.1 ((hm.map _).nodup (List.nodup_cons.2 ⟨?_, hs.once hb e _⟩))
        intro hmem
        obtain ⟨q, hq, hql⟩ := List.mem_map.1 hmem
        exact lists_false_iff.1 (hun hb) _ q hq hql
      · rw [hx' d hd]; exact hs.once hb e d
    · exact hs.once hb j d
  · obtain ⟨hn, hr⟩ := hs.sweeps hb i c' sw nofun hc' hsw hkind
    refine ⟨hn, fun j hj => ⟨(hr j hj).1, ?_⟩⟩
    show ((s.setEp e x).ep j).lists (s.handleOf i) = false
    rw [ep_setEp]
    split
    · rename_i hej
      obtain ⟨rfl, -⟩ := hej
      refine lists_false_iff.2 fun d k hk hki => ?_
      rcases hmem d k hk with ⟨rfl, -⟩ | hk
      · have hh : l.call = s.handleOf i := hki
        have : s.call l.call = some c' := by rw [hh]; exact call_handleOf hc'
        rw [hc] at this
        cases this
        exact hrest hb sw hsw hkind hj
      · exact lists_false_iff.1 (hr e hj).2 d k hk hki
    · exact (hr j hj).2

end Sys2Proof.Calls
end

section
/-! PROOFS. What the reports of a removal do (03 R52, R58; 05 R102, R103): the hold outputs hear of the interruptions, and a TALK loses
the station. -/

namespace Sys2Proof.Calls

open Sys2Proof.Machine

/-- The hold outputs after a report of endpoint `e`. -/
def hear (e : Nat) (hs : Table Hold 4) : Report → Table Hold 4
  | .interruption h o true => hs.set o ((hs.get o .initial).begins h e)
  | .interruption h o false => hs.set o ((hs.get o .initial).ends h e)
  | .lost _ _ => hs

theorem takeInterruption_eq (e : Nat) (s : State) (r : Report) : s.takeInterruption e r = { s with holds := hear e s.holds r } := by
  rcases r with ⟨h, k⟩ | ⟨h, o, b⟩
  · rfl
  · cases b <;> rfl

theorem takeInterruptions_eq (e : Nat) (rs : List Report) (s : State) :
    rs.foldl (State.takeInterruption e) s = { s with holds := rs.foldl (hear e) s.holds } := by
  induction rs generalizing s with
  | nil => rfl
  | cons r rs ih => rw [List.foldl_cons, takeInterruption_eq, ih]; rfl

/-- The report is of an interruption, or of the loss of a call with a cause. -/
def LossOnly (h : Handle) (k : Cause) (r : Report) : Prop := r = .lost h k ∨ ∃ h' o b, r = .interruption h' o b

theorem leaveReports_lossOnly {x : EpCtx} {h : Handle} {k : Cause} {l : Listing} (hl : l.call = h) :
    ∀ r ∈ leaveReports x k l, LossOnly h k r := by
  intro r hr
  rcases List.mem_cons.1 hr with rfl | hr
  · exact .inl (by rw [hl])
  · split at hr
    · split at hr
      · exact .inr ⟨_, _, _, List.mem_singleton.1 hr⟩
      · cases hr
    · cases hr

theorem markReports_lossOnly {x : EpCtx} {ep : Endpoint} {h : Handle} {k : Cause} : ∀ r ∈ (ep.evalMarks x).2, LossOnly h k r := by
  intro r hr
  obtain ⟨l, -, hl⟩ := List.mem_flatMap.1 hr
  unfold markReport at hl
  split at hl
  · split at hl
    · cases hl
    · exact .inr ⟨_, _, _, List.mem_singleton.1 hl⟩
  · cases hl

/-- A removal reports no loss but the call's, with its cause. -/
theorem remove_lossOnly (x : EpCtx) (cl : ListClass) (h : Handle) (k : Cause) (ep : Endpoint) :
    ∀ r ∈ (ep.remove x cl h k).2, LossOnly h k r := by
  have hwait : ∀ r ∈ ((ep.wait cl).filter (·.call = h)).flatMap (leaveReports x k), LossOnly h k r := by
    intro r hr
    obtain ⟨l, hl, hr⟩ := List.mem_flatMap.1 hr
    exact leaveReports_lossOnly (by simpa using (List.mem_filter.1 hl).2) r hr
  intro r hr
  rcases List.mem_append.1 hr with hr | hr
  · split at hr
    · split at hr
      · rename_i a _ ha
        exact leaveReports_lossOnly ha r hr
      · exact hwait r hr
    · exact hwait r hr
  · exact markReports_lossOnly r hr

theorem dropParticipant_eq (c : Call) (e : Nat) : c.dropParticipant e = { c with part := withoutStation e c.part } := by
  obtain ⟨_, _, _, _, _, _, _, _, _, _, _, part, _, _⟩ := c
  cases part <;> rfl

theorem withoutStation_idem (e : Nat) (p : CallPart) : withoutStation e (withoutStation e p) = withoutStation e p := by
  cases p <;> simp [withoutStation, List.filter_filter]

theorem dropParticipant_idem (c : Call) (e : Nat) : (c.dropParticipant e).dropParticipant e = c.dropParticipant e := by
  simp only [dropParticipant_eq, withoutStation_idem]

@[simp] theorem dropParticipant_sweep (c : Call) (e : Nat) : (c.dropParticipant e).sweep = c.sweep := by rw [dropParticipant_eq]

/-- The reports of a DROP's removal: the station leaves the call's list, and the hold outputs hear the rest. -/
theorem takeDrops {h : Handle} {rs : List Report} (hrs : ∀ r ∈ rs, LossOnly h .drop r) (e : Nat) (s : State) :
    rs.foldl (State.takeReport e) s = { s with
      calls := if .lost h .drop ∈ rs then (s.updCall h fun c => c.dropParticipant e).calls else s.calls,
      holds := rs.foldl (hear e) s.holds } := by
  induction rs generalizing s with
  | nil => rfl
  | cons r rs ih =>
    rw [List.foldl_cons, ih fun r' hr' => hrs r' (List.mem_cons_of_mem _ hr')]
    rcases hrs r (List.mem_cons_self ..) with rfl | ⟨h', o, b, rfl⟩
    · have hu : State.takeReport e s (.lost h .drop) = s.updCall h fun c => c.dropParticipant e := rfl
      rw [hu, updCall_updCall]
      simp only [dropParticipant_idem, List.mem_cons, true_or, if_true, ite_self, List.foldl_cons]
      rw [show hear e s.holds (.lost h .drop) = s.holds from rfl, updCall_only]
    · have hu : State.takeReport e s (.interruption h' o b) = s.takeInterruption e (.interruption h' o b) := rfl
      rw [hu, takeInterruption_eq]
      have hc : ∀ hs, (State.updCall { s with holds := hs } h fun c => c.dropParticipant e).calls =
          (s.updCall h fun c => c.dropParticipant e).calls := fun hs => by
        unfold State.updCall
        rw [show State.call { s with holds := hs } h = s.call h from rfl]
        split <;> rfl
      simp only [hc, List.mem_cons, List.foldl_cons, reduceCtorEq, false_or]

/-- The record of a call after a removal with cause DROP: its sweep is as it was. -/
theorem call_dropAt {s : State} {h : Handle} {c : Call} (hc : s.call h = some c) (e : Nat) (cl : ListClass) :
    ∃ d, (s.atEndpoint e fun x ep => ep.remove x cl h .drop).call h = some d ∧ (d = c ∨ d = c.dropParticipant e) := by
  unfold State.atEndpoint
  rw [takeDrops (remove_lossOnly _ _ _ _ _)]
  have hc' : (s.setEp e ((s.ep e).remove s.ctx cl h .drop).1).call h = some c := hc
  split
  · exact ⟨_, call_updCall_self hc' _, .inr rfl⟩
  · exact ⟨_, hc', .inl rfl⟩

end Sys2Proof.Calls
end

section
/-! PROOFS. The order of the call table through the sweeps, the start of alarms, the settling of an event and every command (02 R20 to
R26; 03 R45). -/

namespace Sys2Proof.Calls

open Sys2Proof.Machine

/-! ## Sweeps -/

theorem live_of_sweep {i : Nat} {c : Call} {sw : Sweep} (hok : c.recordOk i) (hs : c.sweep = some sw) : c.state.live = true := by
  obtain ⟨-, -, -, -, -, -, -, h8⟩ := hok
  by_contra hl
  rw [h8 (by simpa using hl)] at hs
  cases hs

@[simp] theorem addParticipant_sweep (c : Call) (e : Nat) : (c.addParticipant e).sweep = c.sweep := by
  unfold Call.addParticipant; split <;> rfl

/-- The record of a call whose sweep delivers a listing to endpoint `e` and has `rest` to visit. -/
def deliveredCall (e : Nat) (rest : List Nat) (c : Call) : Call :=
  ({ c with sweep := c.sweep.map fun sw => { sw with rest, taken := sw.taken + 1, lastLoss := none } } : Call).addParticipant e

theorem deliver_skips {s : State} {c : Call} {e : Nat} (h : c.skips (s.ep e) = true) (k : Handle) (rest : List Nat) :
    s.deliver k c e rest = s.updSweep k fun sw => { sw with rest, skipped := sw.skipped + 1 } := by
  simp [State.deliver, h]

theorem deliver_arrives {s : State} {c : Call} {e : Nat} (h : c.skips (s.ep e) = false) (k : Handle) (rest : List Nat) :
    s.deliver k c e rest = (s.updCall k (deliveredCall e rest)).atEndpoint e fun x ep => ep.arrive x c.type.listClass (c.newListing k) := by
  simp only [State.deliver, h, Bool.false_eq_true, if_false, State.updSweep, updCall_updCall]
  rfl

theorem deliveredCall_sweep {c : Call} {sw : Sweep} (h : c.sweep = some sw) (e : Nat) (rest : List Nat) :
    (deliveredCall e rest c).sweep = some { sw with rest, taken := sw.taken + 1, lastLoss := none } := by
  simp [deliveredCall, h]

theorem follows_deliveredCall {c : Call} {e : Nat} {rest : List Nat} (h : ∀ sw, c.sweep = some sw → rest.Sublist sw.rest) :
    Follows c (deliveredCall e rest c) :=
  (follows_mapSweep (f := fun sw => { sw with rest, taken := sw.taken + 1, lastLoss := none }) (fun _ => rfl) h).trans
    (follows_addParticipant _ e)

/-- One endpoint of a delivering sweep. -/
theorem InOrder.deliver {b : Bool} {s : State} (hs : InOrder b none s) {h : Handle} {c : Call} {sw : Sweep} {e : Nat} {es : List Nat}
    (hc : s.call h = some c) (hsw : c.sweep = some sw) (hk : sw.kind ≠ .drop) (hr : sw.rest = e :: es) :
    InOrder b none (s.deliver h c e es) := by
  have hrest : ∀ c' sw', s.call h = some c' → c'.sweep = some sw' → es.Sublist sw'.rest := by
    intro c' sw' hc' hsw'
    rw [hc] at hc'; cases hc'
    rw [hsw] at hsw'; cases hsw'
    rw [hr]; exact List.sublist_cons_self _ _
  cases hskip : c.skips (s.ep e) with
  | true =>
    rw [deliver_skips hskip]
    exact (follow_updSweep (f := fun sw => { sw with rest := es, skipped := sw.skipped + 1 }) (fun _ => rfl) hrest).inOrder hs
  | false =>
    rw [deliver_arrives hskip]
    have hf : Follow s (s.updCall h (deliveredCall e es)) := follow_updCall fun c' hc' => follows_deliveredCall fun sw' => hrest c' sw' hc'
    have hfc : Follows c (deliveredCall e es c) := follows_deliveredCall fun sw' => hrest c sw' hc
    have hep : (s.updCall h (deliveredCall e es)).ep e = s.ep e := by rw [updCall_only]; rfl
    have hok : b = true → RestOk s h.slot sw := fun hb => hs.sweeps hb _ c sw nofun (record_of_call hc) hsw hk
    refine InOrder.atEndpoint ((hf.inOrder hs).arrival (l := c.newListing h) (call_updCall_self hc _)
      (hfc.live.trans (live_of_sweep (hs.recordOk hc) hsw)) hfc.type hfc.level (fun hb => ?_) (fun hb sw' hsw' _ => ?_)
      (keys_arrive _ _ _ _) fun d hd => keys_arrive_ne hd _ _ _)
    · obtain ⟨-, hun⟩ := hok hb
      rw [handleOf_eq hc, hr] at hun
      rw [hep]
      exact (hun e (List.mem_cons_self ..)).2
    · obtain ⟨hn, -⟩ := hok hb
      rw [deliveredCall_sweep hsw] at hsw'
      cases hsw'
      rw [hr] at hn
      exact (List.nodup_cons.1 hn).1

theorem lists_of_count {s : State} {h : Handle} (hn : s.listingCount h = 0) (e : Nat) : (s.ep e).lists h = false := by
  by_cases he : e < 176
  · simpa [State.ep] using List.countP_eq_zero.1 hn _ (Table.get_mem s.endpoints e (Endpoint.initial 0) he)
  · rw [show s.ep e = Endpoint.initial 0 from Table.get_of_le _ _ _ (Nat.not_lt.1 he)]; rfl

/-- The slot of a call that is listed nowhere. -/
theorem InOrder.unlisted_of_count {b : Bool} {skip : Option Nat} {s : State} (hs : InOrder b skip s) {h : Handle} {c : Call}
    (hc : s.call h = some c) (hn : s.listingCount h = 0) : b = true → SlotUnlisted s h.slot := by
  intro hb e cl k hk hkh
  obtain ⟨c', hc', -⟩ := hs.slot_named hb hk
  rw [hkh, slot_of_call hc] at hc'
  have hkh' : k.1 = h := by
    cases h; cases hk1 : k.1; simp_all
  exact lists_false_iff.1 (lists_of_count hn e) cl k hk hkh'

/-- A record that keeps its type, level and liveness, in whatever order it is. -/
theorem InOrder.updCall_skipping {b : Bool} {s : State} (hs : InOrder b none s) {h : Handle} {f : Call → Call}
    (ht : ∀ c, (f c).type = c.type) (hl : ∀ c, (f c).level = c.level) (hv : ∀ c, (f c).state.live = c.state.live) :
    InOrder b (some h.slot) (s.updCall h f) := by
  have hep : ∀ e, (s.updCall h f).ep e = s.ep e := fun e => by rw [updCall_only]; rfl
  have hgen : ∀ i, ((s.updCall h f).slot i).gen = (s.slot i).gen := fun i => by rw [slot_updCall]; split <;> rfl
  have hne : ∀ i, some i ≠ some h.slot → (s.updCall h f).slot i = s.slot i := fun i hi => slot_updCall_ne (by simpa using Ne.symm hi) f
  have hprog : (s.updCall h f).programs = s.programs := by rw [updCall_only]
  refine ⟨fun i => by rw [hgen]; exact hs.gens i, fun i c hi hc => hs.records i c nofun (by rwa [hne i hi] at hc), hprog ▸ hs.programs,
    hprog ▸ hs.targets, fun hb e cl k hk => ?_, fun hb e cl => by rw [hep]; exact hs.once hb e cl, fun hb i c sw hi hc hsw hk => ?_⟩
  · rw [hep] at hk
    obtain ⟨hcl, c, hc, hlive, htype, hlevel⟩ := hs.named hb e cl k hk
    by_cases hkh : k.1 = h
    · exact ⟨hcl, f c, by rw [hkh] at hc ⊢; exact call_updCall_self hc f, (hv c).trans hlive, (ht c).trans htype, (hl c).trans hlevel⟩
    · exact ⟨hcl, c, by rw [call_updCall_ne hkh]; exact hc, hlive, htype, hlevel⟩
  · obtain ⟨hn, hr⟩ := hs.sweeps hb i c sw nofun (by rwa [hne i hi] at hc) hsw hk
    refine ⟨hn, fun e he => ?_⟩
    rw [hep, State.handleOf, hgen]
    exact hr e he

/-- The end of a live call whose sweep field alone may be out of order. -/
theorem InOrder.endCall_skipping {b : Bool} {s : State} {h : Handle} {c : Call} (hs : InOrder b (some h.slot) s) (hc : s.call h = some c)
    (hlive : c.state.live = true) (hf : FieldsOk h.slot c) (r : EndReason) : InOrder b none (s.endCall h r) := by
  simp only [State.endCall, hc, hlive, if_true]
  exact hs.enterEnding hc hf

theorem InOrder.endOpening {b : Bool} {s : State} (hs : InOrder b none s) {h : Handle} {c : Call} {sw : Sweep} (hc : s.call h = some c)
    (hsw : c.sweep = some sw) : InOrder b none (s.endOpening h c sw) := by
  have hok := hs.recordOk hc
  have hlive := live_of_sweep hok hsw
  unfold State.endOpening
  split
  · refine (follow_answerSweep _ _ _ _).inOrder ((follow_updCall fun d hd => ?_).inOrder hs)
    rw [hc] at hd; cases hd
    exact follows_activate hlive
  · rename_i hn
    split
    · refine (follow_answerSweep _ _ _ _).inOrder (InOrder.freeRecord ?_ (slot_lt_of_call hc) ?_)
      · exact (follow_unbindHold _ _ _).inOrder (hs.skipping _)
      · exact ((follow_unbindHold s h c).inOrder hs).unlisted_of_count (by rw [unbindHold_only]; exact hc)
          (by rw [unbindHold_only]; exact Nat.eq_zero_of_not_pos hn)
    · have hs1 : InOrder b (some h.slot) (s.dropSweep h) := hs.updCall_skipping (fun _ => rfl) (fun _ => rfl) fun _ => rfl
      have hc1 : (s.dropSweep h).call h = some { c with sweep := none } := call_updCall_self hc _
      obtain ⟨h1, h2, h3, h4, h5⟩ := fieldsOk_of_recordOk hok
      exact ((follow_answerSweep _ _ _ _).inOrder hs1).endCall_skipping (c := { c with sweep := none })
        (by rw [answerSweep_only]; exact hc1) hlive ⟨h1, h2, h3, h4, h5⟩ _

theorem InOrder.endAdd {b : Bool} {s : State} (hs : InOrder b none s) {h : Handle} {c : Call} {sw : Sweep} (hc : s.call h = some c)
    (hsw : c.sweep = some sw) (hk : sw.kind ≠ .opening) : InOrder b none (s.endAdd h c sw) := by
  have h1 : InOrder b none ((s.dropSweep h).answerSweep sw .ok (sw.okData h c.type (s.heardCount h))) := by
    refine ((follow_dropSweep fun c' sw' hc' hsw' => ?_).trans (follow_answerSweep _ _ _ _)).inOrder hs
    rw [hc] at hc'; cases hc'
    rw [hsw] at hsw'; cases hsw'
    exact hk
  unfold State.endAdd
  dsimp only
  split
  · exact h1
  · exact h1.endCall _ _

theorem InOrder.endDelivery {b : Bool} {s : State} (hs : InOrder b none s) (h : Handle) : InOrder b none (s.endDelivery h) := by
  unfold State.endDelivery
  split
  · exact hs
  · rename_i c hc
    split
    · exact hs
    · rename_i sw hsw
      split
      · split
        · exact hs.endOpening hc hsw
        · rename_i hk
          exact hs.endAdd hc hsw (by rw [hk]; decide)
        · exact hs
      · exact hs

theorem InOrder.sweepTurn {b : Bool} {s : State} (hs : InOrder b none s) {h : Handle} {c : Call} {sw : Sweep} (hc : s.call h = some c)
    (hsw : c.sweep = some sw) (hk : sw.kind ≠ .drop) : InOrder b none (s.sweepTurn h c sw.rest) := by
  unfold State.sweepTurn
  split
  · exact hs.endDelivery h
  · rename_i hr
    exact (hs.deliver hc hsw hk hr).endDelivery h

/-- A DROP sweep ends. -/
theorem InOrder.endDrop {b : Bool} {s : State} (hs : InOrder b none s) {h : Handle}
    (hk : ∀ c sw, s.call h = some c → c.sweep = some sw → sw.kind ≠ .opening) (st : CallState) : InOrder b none (s.endDrop h st) := by
  unfold State.endDrop
  split
  · exact hs
  · exact ((follow_dropSweep hk).trans (follow_answerSweep _ _ _ _)).inOrder hs

theorem InOrder.dropTurn {b : Bool} {s : State} (hs : InOrder b none s) {h : Handle} {c : Call} {sw : Sweep} (hc : s.call h = some c)
    (hsw : c.sweep = some sw) (hk : sw.kind = .drop) : InOrder b none (s.dropTurn h c sw.rest) := by
  have hkind : ∀ f : Sweep → Sweep, (∀ x, (f x).kind = x.kind) → ∀ d sw', (s.updSweep h f).call h = some d → d.sweep = some sw' →
      sw'.kind ≠ .opening := by
    intro f hf d sw' hd hsw'
    rw [State.updSweep, call_updCall_self hc] at hd
    cases hd
    simp only [hsw, Option.map_some, Option.some.injEq] at hsw'
    rw [← hsw', hf, hk]; decide
  have hupd : ∀ f : Sweep → Sweep, (∀ x, (f x).kind = x.kind) → (f sw).rest.Sublist sw.rest → InOrder b none (s.updSweep h f) := by
    refine fun f hf hr => (follow_updSweep hf fun c' sw' hc' hsw' => ?_).inOrder hs
    rw [hc] at hc'; cases hc'
    rw [hsw] at hsw'; cases hsw'
    exact hr
  unfold State.dropTurn
  split
  · refine hs.endDrop (fun c' sw' hc' hsw' => ?_) _
    rw [hc] at hc'; cases hc'
    rw [hsw] at hsw'; cases hsw'
    rw [hk]; decide
  · rename_i e es hr
    have hsub : es.Sublist sw.rest := hr ▸ List.sublist_cons_self _ _
    split
    · have h1 := hupd (fun sw => { sw with rest := es, removed := sw.removed + 1 }) (fun _ => rfl) hsub
      have hk1 := hkind (fun sw => { sw with rest := es, removed := sw.removed + 1 }) (fun _ => rfl)
      have hc1 : (s.updSweep h fun sw => { sw with rest := es, removed := sw.removed + 1 }).call h = _ := call_updCall_self hc _
      generalize s.updSweep h (fun sw => { sw with rest := es, removed := sw.removed + 1 }) = u at h1 hk1 hc1 ⊢
      have h2 := h1.removeAt e c.type.listClass h .drop
      have hk2 : ∀ d sw', (u.atEndpoint e fun x ep => ep.remove x c.type.listClass h .drop).call h = some d → d.sweep = some sw' →
          sw'.kind ≠ .opening := by
        intro d sw' hd hsw'
        obtain ⟨d', hd', hdd⟩ := call_dropAt hc1 e c.type.listClass
        rw [hd'] at hd
        cases hd
        refine hk1 _ sw' hc1 ?_
        rcases hdd with rfl | rfl
        · exact hsw'
        · rwa [dropParticipant_sweep] at hsw'
      dsimp only
      split
      · exact (h2.endDrop hk2 _).endCall _ _
      · split
        · exact h2.endDrop hk2 _
        · exact h2
    · have h1 := hupd (fun sw => { sw with rest := es, notListed := sw.notListed + 1 }) (fun _ => rfl) hsub
      have hk1 := hkind (fun sw => { sw with rest := es, notListed := sw.notListed + 1 }) (fun _ => rfl)
      dsimp only
      split
      · exact h1.endDrop hk1 _
      · exact h1

end Sys2Proof.Calls
end

section
/-! PROOFS. The order of the call table through the start of alarms, the settling of an event, the events that are due and every command
(02 R20 to R26; 03 R45; 08 R143 to R147). -/

namespace Sys2Proof.Calls

open Sys2Proof.Machine

/-! ## The slot of a new alarm -/

theorem mem_alarmSlots {i : Nat} (h : i ∈ alarmSlots) : 60 ≤ i ∧ i < 64 := by
  simp only [alarmSlots, List.mem_cons, List.not_mem_nil, or_false] at h
  omega

theorem mem_alarmRecords {s : State} {h : Handle} {c : Call} (hm : (h, c) ∈ s.alarmRecords) :
    s.call h = some c ∧ 60 ≤ h.slot ∧ h.slot < 64 := by
  obtain ⟨i, hi, hr⟩ := List.mem_filterMap.1 hm
  obtain ⟨d, hd, he⟩ := Option.map_eq_some_iff.1 hr
  cases he
  exact ⟨call_handleOf hd, mem_alarmSlots hi⟩

theorem mem_of_toDisplace {s : State} {n : Nat} {h : Handle} {c : Call} (ht : s.toDisplace n = some (h, c)) :
    (h, c) ∈ s.alarmRecords ∧ (c.state = .ended ∨ c.state.live = true) := by
  unfold State.toDisplace at ht
  split at ht
  · rename_i r hr
    cases ht
    obtain ⟨h1, h2⟩ := List.mem_filter.1 (pickBy_mem hr)
    exact ⟨h1, .inl (by simpa using h2)⟩
  · obtain ⟨h1, -⟩ := Option.filter_eq_some_iff.1 ht
    obtain ⟨h1, h2⟩ := List.mem_filter.1 (pickBy_mem h1)
    exact ⟨h1, .inr h2⟩

/-- A slot that is FREE stays so while records follow. -/
theorem Follow.free {s t : State} (h : Follow s t) {i : Nat} (hi : (s.slot i).record = none) : (t.slot i).record = none := by
  have hr := h.records i
  rw [hi] at hr
  generalize (t.slot i).record = o at hr
  cases hr
  rfl

theorem record_freeRecord {s : State} {h : Handle} (hi : h.slot < 64) : ((s.freeRecord h).slot h.slot).record = none := by
  rw [State.freeRecord, slot_setRecord _ hi]; simp

/-- The record that an entry to ENDING leaves. -/
theorem call_enterEnding {s : State} {h : Handle} {c : Call} (hc : s.call h = some c) (r : EndReason) :
    (s.enterEnding h c r).call h = some (endingRecord s h c r) := by
  refine call_of_slot ?_
  rw [State.slot, enterEnding_calls, Table.get_set_self _ _ _ _ (slot_lt_of_call hc), slot_of_call hc]

theorem endCall_live {s : State} {h : Handle} {c : Call} (hc : s.call h = some c) (hlive : c.state.live = true) (r : EndReason) :
    s.endCall h r = s.enterEnding h c r := by simp [State.endCall, hc, hlive]

theorem InOrder.displace {b : Bool} {s : State} (hs : InOrder b none s) {h : Handle} {c : Call} (hc : s.call h = some c)
    (hst : c.state = .ended ∨ c.state.live = true) :
    InOrder b none (s.displace h c).1 ∧ ((s.displace h c).1.slot h.slot).record = none := by
  unfold State.displace
  split
  · rename_i he
    have hf : Follow s (s.stopExpiry h) := follow_of_eq rfl rfl rfl
    refine ⟨((hf.inOrder hs).skipping _).freeRecord (slot_lt_of_call hc) ?_, record_freeRecord (slot_lt_of_call hc)⟩
    refine (hf.inOrder hs).unlisted fun d hd => ?_
    have hd' : (s.slot h.slot).record = some d := hd
    rw [record_of_call hc] at hd'
    cases hd'
    rw [he]; rfl
  · rename_i hne
    have hlive := hst.resolve_left hne
    have h1 := hs.endCall h .displaced
    have hc1 := call_enterEnding hc .displaced
    rw [← endCall_live hc hlive] at hc1
    refine ⟨(follow_servePlayers _).inOrder ((h1.skipping _).freeRecord (slot_lt_of_call hc) ?_),
      (follow_servePlayers _).free (record_freeRecord (slot_lt_of_call hc))⟩
    refine h1.unlisted fun d hd => ?_
    rw [record_of_call hc1] at hd
    cases hd
    rfl

theorem InOrder.obtainAlarmSlot {b : Bool} {s s1 : State} (hs : InOrder b none s) {n i : Nat} {d : Option (Handle × EndReason)}
    (h : s.obtainAlarmSlot n = some (s1, i, d)) : InOrder b none s1 ∧ (s1.slot i).record = none ∧ 60 ≤ i ∧ i < 64 := by
  unfold State.obtainAlarmSlot at h
  split at h
  · rename_i j hj
    cases h
    exact ⟨hs, by simpa using List.find?_some hj, mem_alarmSlots (List.mem_of_find?_eq_some hj)⟩
  · split at h
    · rename_i k c ht
      cases h
      obtain ⟨hm, hst⟩ := mem_of_toDisplace ht
      obtain ⟨hc, hi⟩ := mem_alarmRecords hm
      obtain ⟨h1, h2⟩ := hs.displace hc hst
      exact ⟨h1, h2, hi⟩
    · cases h

/-! ## The start of an alarm -/

theorem newAlarm_ok {p : Port} {id : Nat} {g : AlarmProgram} {sw : Sweep} {i : Nat} (hi : 60 ≤ i) (hg : 12 ≤ g.level ∧ g.level ≤ 15)
    (hk : sw.kind = .opening) : (Call.newAlarm p id g sw).recordOk i := by
  have ht : (Call.newAlarm p id g sw).type = .alarm := rfl
  unfold Call.recordOk
  rw [ht]
  exact ⟨by simp [hi], hg.1, hg.2, by simp [Call.newAlarm], by simp [Call.newAlarm], by simp [Call.newAlarm, CallState.live],
    by simp [Call.newAlarm, hk], fun h => by cases h⟩

theorem program_mem {s : State} {id : Nat} {g : AlarmProgram} (h : s.program id = some g) : some g ∈ s.programs.cells := by
  by_cases hi : id < 8
  · rw [← h]; exact Table.get_mem _ _ _ hi
  · rw [State.program, Table.get_of_le _ _ _ (Nat.not_lt.1 hi)] at h; cases h

theorem InOrder.openAlarm {b : Bool} {s : State} (hs : InOrder b none s) {p : Port} {id : Nat} {g : AlarmProgram} {sw : Sweep} {i : Nat}
    (hi : 60 ≤ i ∧ i < 64) (hfree : (s.slot i).record = none) (hg : 12 ≤ g.level ∧ g.level ≤ 15) (hk : sw.kind = .opening)
    (hrest : b = true → sw.rest.Nodup ∧ ∀ e ∈ sw.rest, e < 176) : InOrder b none (s.openAlarm p id g sw i) :=
  (follow_beginStep _ _ _ _ _).inOrder (hs.takeSlot hi.2 hfree (newAlarm_ok hi.1 hg hk) rfl hrest)

theorem InOrder.startProgram {b : Bool} {s : State} (hs : InOrder b none s) {p : Port} {id : Nat} {ans : Bool} {g : AlarmProgram}
    (hg : some g ∈ s.programs.cells) : InOrder b none (s.startProgram p id ans g).state := by
  unfold State.startProgram
  split
  · exact hs
  · dsimp only
    split
    · exact hs
    · split
      · exact hs
      · rename_i s1 i d ho
        obtain ⟨h1, hfree, hi⟩ := hs.obtainAlarmSlot ho
        refine h1.openAlarm hi hfree (hs.programs g hg) rfl fun hb => ?_
        obtain ⟨hn, hr⟩ := expand_spec s .alarm [] (fun _ => false) (hs.targets hb g hg)
        exact ⟨hn, fun e he => (hr e he).1⟩

theorem InOrder.startAlarm {b : Bool} {s : State} (hs : InOrder b none s) (p : Port) (id : Nat) (ans : Bool) :
    InOrder b none (s.startAlarm p id ans).state := by
  unfold State.startAlarm
  split
  · exact hs
  · rename_i g hg
    split
    · exact hs
    · exact hs.startProgram (program_mem hg)

theorem follow_setTrigger (s : State) (i : Nat) (x : Trigger) : Follow s (s.setTrigger i x) := follow_of_eq rfl rfl rfl

theorem InOrder.tryTrigger {b : Bool} {s : State} (hs : InOrder b none s) (i : Nat) : InOrder b none (s.tryTrigger i) :=
  (hs.startAlarm .bridge (s.trigger i).program false).same rfl rfl rfl

/-- The end of an event. -/
theorem InOrder.settle {b : Bool} {s : State} (hs : InOrder b none s) (s0 : State) : InOrder b none (settle s0 s) := by
  refine (follow_refresh _).inOrder ?_
  have h1 := (follow_settleCalls s).inOrder hs
  split
  · exact (follow_settleCalls _).inOrder (InOrder.foldl (fun _ i h => h.tryTrigger i) _ h1)
  · exact h1

/-! ## Messages and alarms that come to an end -/

theorem InOrder.messageMovesOn {b : Bool} {s : State} (hs : InOrder b none s) {h : Handle} {c : Call} {m : MessagePart}
    (hc : s.call h = some c) (hm : c.message = some m) (i : Nat) : InOrder b none (s.messageMovesOn i h m) := by
  have hmove : ∀ m' gap, InOrder b none (s.movePlayback i h m' gap) := fun m' gap =>
    ((follow_setPlayer s i _).trans (follow_updMessage (s := s.setPlayer i _) hc hm m')).inOrder hs
  unfold State.messageMovesOn
  split
  · exact hmove _ _
  · split
    · exact hmove _ _
    · exact hs.endCall _ _

theorem call_of_served {s : State} {i : Nat} {h : Handle} {c : Call} (hv : s.served i = some (h, c)) : s.call h = some c := by
  obtain ⟨k, -, hk⟩ := Option.bind_eq_some_iff.1 hv
  obtain ⟨d, hd, he⟩ := Option.map_eq_some_iff.1 hk
  cases he
  exact hd

theorem InOrder.messagePhraseEnd {b : Bool} {s : State} (hs : InOrder b none s) (i : Nat) : InOrder b none (s.messagePhraseEnd i) := by
  unfold State.messagePhraseEnd
  split
  · rename_i h c hv
    split
    · rename_i m hm
      split
      · exact hs.messageMovesOn (call_of_served hv) hm i
      · exact hs
    · exact hs
  · exact hs

theorem follow_repeatGapEnd (s : State) (i : Nat) : Follow s (s.repeatGapEnd i) := by
  unfold State.repeatGapEnd
  split
  · split
    · split
      · exact follow_setPlayer _ _ _
      · exact .refl s
    · exact .refl s
  · exact .refl s

theorem InOrder.nextStep {b : Bool} {s : State} (hs : InOrder b none s) (h : Handle) (g : AlarmProgram) (x : StepPosition) :
    InOrder b none (s.nextStep h g x) := by
  unfold State.nextStep
  split
  · exact (follow_beginStep _ _ _ _ _).inOrder hs
  · split
    · exact (follow_beginStep _ _ _ _ _).inOrder hs
    · exact hs.endCall _ _

theorem InOrder.alarmStepEnd {b : Bool} {s : State} (hs : InOrder b none s) (i : Nat) : InOrder b none (s.alarmStepEnd i) := by
  unfold State.alarmStepEnd
  split
  · split
    · exact hs.nextStep _ _ _
    · exact hs
  · exact hs

theorem InOrder.alarmPhraseComplete {b : Bool} {s : State} (hs : InOrder b none s) (i : Nat) :
    InOrder b none (s.alarmPhraseComplete i) := by
  unfold State.alarmPhraseComplete
  split
  · split
    · split
      · exact ((follow_releasePlayer _ _).inOrder hs).nextStep _ _ _
      · exact hs
    · exact hs
  · exact hs

theorem follow_warbleSwitch (s : State) (i : Nat) : Follow s (s.warbleSwitch i) := by
  unfold State.warbleSwitch
  split
  · split
    · exact follow_setAlarmSeq _ _ _
    · exact .refl s
  · exact .refl s

theorem InOrder.takeDue {b : Bool} {s : State} (hs : InOrder b none s) : InOrder b none s.takeDue := by
  refine InOrder.foldl (fun s i h => ?_) _ (InOrder.foldl (fun s i h => ?_) _ hs)
  · exact (follow_warbleSwitch _ _).inOrder ((h.alarmStepEnd i).settle _)
  · exact (InOrder.alarmPhraseComplete ((follow_repeatGapEnd _ i).inOrder ((h.messagePhraseEnd i).settle _)) i).settle _

/-! ## Trigger inputs and the Verify Unit -/

theorem InOrder.debounce {b : Bool} {s : State} (hs : InOrder b none s) (i : Nat) : InOrder b none (s.debounce i) := by
  have h1 := (follow_setTrigger s i { s.trigger i with debounced := (s.trigger i).pin, timer := .stopped }).inOrder hs
  unfold State.debounce
  dsimp only
  generalize s.setTrigger i { s.trigger i with debounced := (s.trigger i).pin, timer := .stopped } = u at h1 ⊢
  split
  · exact h1
  · split
    · unfold State.activate
      split
      · exact h1
      · exact h1.tryTrigger i
      · exact h1.tryTrigger i
    · unfold State.release
      split
      · have h2 := (follow_setTrigger u i { u.trigger i with owned := none, pending := none }).inOrder h1
        dsimp only
        split
        · exact h2.endCall _ _
        · exact h2
      · exact h1

theorem follow_beginCheck (s : State) : Follow s s.beginCheck := by
  unfold State.beginCheck
  dsimp only
  split <;> exact follow_of_eq rfl rfl rfl

theorem InOrder.failMessages {b : Bool} {s : State} (hs : InOrder b none s) (id : Nat) : InOrder b none (s.failMessages id) :=
  InOrder.foldl (fun s h hs => by
    split
    · exact hs.endCall _ _
    · exact hs) _ hs

theorem InOrder.endCheck {b : Bool} {s : State} (hs : InOrder b none s) (id : Nat) : InOrder b none (s.endCheck id) := by
  unfold State.endCheck
  refine (follow_beginCheck _).inOrder ?_
  have h1 : InOrder b none { s with verifyQueue := s.verifyQueue.drop 1 } := hs.same rfl rfl rfl
  generalize ({ s with verifyQueue := s.verifyQueue.drop 1 } : State) = u at h1 ⊢
  split
  · exact ((follow_clearFault _ _ _).after rfl rfl rfl : Follow u (u.checkPassed id)).inOrder h1
  · have h2 : InOrder b none ((u.setPhrase id { u.phrase id with state := .bad }).recordFault (.phrase id) .phraseBad) :=
      (follow_recordFault _ _ _).inOrder (h1.same rfl rfl rfl)
    exact InOrder.foldl (fun s i h => (follow_failPlayer id s i).inOrder h) _ (h2.failMessages id)

theorem InOrder.readBlock {b : Bool} {s : State} (hs : InOrder b none s) (id n : Nat) : InOrder b none (s.readBlock id n) := by
  unfold State.readBlock
  dsimp only
  split
  · refine InOrder.endCheck ?_ id
    exact hs.same rfl rfl rfl
  · exact hs.same rfl rfl rfl

/-! ## The requests -/

/-- A request keeps the order if what its owner does keeps it. -/
theorem InOrder.request {b : Bool} {s : State} (hs : InOrder b none s) (p : Port) (o : Owner) (c : Instr) {take : State → State}
    (ht : ∀ u, InOrder b none u → InOrder b none (take u)) : InOrder b none (s.request p o c take) := by
  have h1 := (follow_setPort s p ((s.port p).present c)).inOrder hs
  unfold State.request
  dsimp only
  split
  · exact ht _ ((follow_serve _ p o).inOrder h1)
  · exact h1

theorem follow_refuse (s : State) (p : Port) (a : AnswerCode) : Follow s (s.refuse p a) := follow_answer _ _ _ _

theorem InOrder.refuse {b : Bool} {s : State} (hs : InOrder b none s) (p : Port) (a : AnswerCode) : InOrder b none (s.refuse p a) :=
  (follow_refuse _ _ _).inOrder hs

theorem InOrder.answer {b : Bool} {s : State} (hs : InOrder b none s) (p : Port) (a : AnswerCode) (d : List Byte) :
    InOrder b none (s.answer p a d) := (follow_answer _ _ _ _).inOrder hs

/-- The call a request names, with the checks it has passed. -/
theorem callFor_spec {s : State} {p : Port} {h : Handle} {gate : Call → Option AnswerCode} {ch : Bool} {c : Call}
    (hc : s.callFor p h gate ch = .ok c) : s.call h = some c ∧ gate c = none := by
  unfold State.callFor at hc
  split at hc
  · cases hc
  · split at hc
    · cases hc
    · rename_i c' hc'
      split at hc
      · cases hc
      · rename_i hg
        split at hc
        · cases hc
        · cases hc; exact ⟨hc', hg⟩

theorem openSource_type {f : OpenFields} {t : CallType} {lanes : List Nat} {part : CallPart} (ho : openSource f t = some (lanes, part))
    {p : Port} {sw : Sweep} : (openRecord f p t lanes part sw).type = t ∧ t ≠ .alarm := by
  cases t <;> simp only [openSource] at ho
  case page => split at ho <;> cases ho; exact ⟨rfl, by decide⟩
  case program => split at ho <;> cases ho; exact ⟨rfl, by decide⟩
  case message => split at ho <;> cases ho; exact ⟨rfl, by decide⟩
  case talk =>
    obtain ⟨d, -, hd⟩ := Option.map_eq_some_iff.1 ho
    cases hd
    exact ⟨rfl, by decide⟩
  case alarm => cases ho

theorem levelRange_le (t : CallType) : (levelRange t).1 ≤ (levelRange t).2 := by cases t <;> decide

theorem openRecord_ok {f : OpenFields} {t : CallType} {lanes : List Nat} {part : CallPart} (ho : openSource f t = some (lanes, part))
    (hr : f.ramp.getD 0 ≤ 7) {p : Port} {sw : Sweep} (hk : sw.kind = .opening) {i : Nat} (hi : i < 60) :
    (openRecord f p t lanes part sw).recordOk i := by
  obtain ⟨ht, hna⟩ := openSource_type ho (p := p) (sw := sw)
  have hle := levelRange_le t
  have hlevel : (openRecord f p t lanes part sw).level = max (levelRange t).1 (min (levelRange t).2 f.level) := clampTo_eq hle
  unfold Call.recordOk
  rw [ht, hlevel]
  refine ⟨⟨fun h => absurd h hna, by omega⟩, by omega, by omega, ?_, by simp [openRecord, hna], by simp [openRecord, CallState.live],
    by simp [openRecord, hk], fun h => by cases h⟩
  cases hf : f.ramp with
  | none => cases t <;> simp [openRecord, hf, defaultRamp]
  | some n => simpa [openRecord, hf] using hr

theorem InOrder.openWith {b : Bool} {s : State} (hs : InOrder b none s) {p : Port} {f : OpenFields} {t : CallType} {lanes : List Nat}
    {part : CallPart} {ts : List Target} (ho : openSource f t = some (lanes, part)) (hr : f.ramp.getD 0 ≤ 7)
    (hts : ∀ x ∈ ts, x.inRange = true) : InOrder b none (s.openWith p f t lanes part ts) := by
  unfold State.openWith
  split
  · exact hs.refuse _ _
  · dsimp only
    split
    · exact hs.answer _ _ _
    · split
      · exact hs.refuse _ _
      · rename_i i hi
        have hfree : (s.slot i).record = none := by simpa using List.find?_some hi
        have hlt : i < 60 := List.mem_range.1 (List.mem_of_find?_eq_some hi)
        obtain ⟨hn, hrest⟩ := expand_spec s t lanes (fun _ => false) hts
        unfold State.openIn
        refine (follow_enterPhase _ _ _).inOrder ((follow_bindHold _ _ _).inOrder (hs.takeSlot (by omega) hfree
          (openRecord_ok ho hr rfl hlt) rfl fun _ => ⟨hn, fun e he => (hrest e he).1⟩))

theorem InOrder.openCall {b : Bool} {s : State} (hs : InOrder b none s) (p : Port) (f : OpenFields) :
    InOrder b none (takeOpenCall p f s) := by
  unfold takeOpenCall
  split
  · exact hs.refuse _ _
  · split
    · exact hs.refuse _ _
    · rename_i ho
      split
      · exact hs.refuse _ _
      · rename_i hr
        split
        · exact hs.refuse _ _
        · rename_i hts
          exact hs.openWith ho (Nat.not_lt.1 hr) (checkTargets_inRange hts)

/-- A sweep that is no opening begins on an ACTIVE call that has none. -/
theorem InOrder.beginSweep {b : Bool} {s : State} (hs : InOrder b none s) {p : Port} {h : Handle} {c : Call} {sw : Sweep}
    (hc : s.call h = some c) (hst : c.state = .active) (hk : sw.kind ≠ .opening)
    (hrest : b = true → sw.kind ≠ .drop → sw.rest.Nodup ∧ ∀ e ∈ sw.rest, e < 176 ∧ (s.ep e).lists h = false) :
    InOrder b none (s.beginSweep p h sw) := by
  have h1 := hs.updCall_skipping (h := h) (f := fun c => { c with sweep := some sw }) (fun _ => rfl) (fun _ => rfl) fun _ => rfl
  have hself := slot_updCall_self hc fun c => { c with sweep := some sw }
  have hep : ∀ e, (s.updCall h fun c => { c with sweep := some sw }).ep e = s.ep e := fun e => by rw [updCall_only]; rfl
  refine (follow_enterPhase _ _ _).inOrder ?_
  generalize (s.updCall h fun c => { c with sweep := some sw }) = u at h1 hself hep
  refine ⟨h1.gens, fun i d _ hd => ?_, h1.programs, h1.targets, h1.named, h1.once, fun hb i d sw' _ hd hsw hkind => ?_⟩
  · by_cases hi : i = h.slot
    · subst hi
      rw [hself] at hd
      cases hd
      obtain ⟨g1, g2, g3, g4, g5, g6, g7, g8⟩ := hs.recordOk hc
      exact ⟨g1, g2, g3, g4, g5, g6, by simp [hst, hk], fun hl => by simp [hst, CallState.live] at hl⟩
    · exact h1.records i d (by simpa using hi) hd
  · by_cases hi : i = h.slot
    · subst hi
      rw [hself] at hd
      cases hd
      cases hsw
      obtain ⟨hn, hr⟩ := hrest hb hkind
      refine ⟨hn, fun e he => ?_⟩
      rw [hep, State.handleOf, hself]
      exact hr e he
    · exact h1.sweeps hb i d sw' (by simpa using hi) hd hsw hkind

theorem active_of_gateSweep {c : Call} (h : gateSweep c = none) : c.state = .active := by
  unfold gateSweep at h
  cases hs : c.state <;> simp_all

theorem InOrder.addTargets {b : Bool} {s : State} (hs : InOrder b none s) (p : Port) (h : Handle) (ds : List Descriptor) :
    InOrder b none (takeAddTargets p h ds s) := by
  unfold takeAddTargets
  split
  · exact hs.refuse _ _
  · rename_i c hcf
    obtain ⟨hc, hg⟩ := callFor_spec hcf
    split
    · exact hs.refuse _ _
    · rename_i ts hts
      dsimp only
      split
      · exact hs.answer _ _ _
      · exact hs.beginSweep hc (active_of_gateSweep hg) (by simp [Sweep.start]) fun _ _ =>
          expand_spec s c.type c.lanes (fun e => (s.ep e).lists h) (checkTargets_inRange hts)

theorem InOrder.dropTargets {b : Bool} {s : State} (hs : InOrder b none s) (p : Port) (h : Handle) (ds : List Descriptor) :
    InOrder b none (takeDropTargets p h ds s) := by
  unfold takeDropTargets
  split
  · exact hs.refuse _ _
  · rename_i c hcf
    obtain ⟨hc, hg⟩ := callFor_spec hcf
    split
    · exact hs.refuse _ _
    · dsimp only
      split
      · exact hs.answer _ _ _
      · exact hs.beginSweep hc (active_of_gateSweep hg) (by simp [Sweep.start]) fun _ hd => absurd rfl hd

theorem follow_setCallGain (s : State) (p : Port) (h : Handle) (a g e : Nat) : Follow s (takeSetCallGain p h a g e s) := by
  unfold takeSetCallGain
  split
  · exact follow_refuse _ _ _
  · split
    · exact (follow_setGain _ _ _ _).trans (follow_answer _ _ _ _)
    · split
      · exact (follow_setOverride _ _ _ _ _).trans (follow_answer _ _ _ _)
      · exact follow_refuse _ _ _
    · split
      · exact (follow_setOverride _ _ _ _ _).trans (follow_answer _ _ _ _)
      · exact follow_refuse _ _ _
    · exact follow_refuse _ _ _

theorem InOrder.retireCall {b : Bool} {s : State} (hs : InOrder b none s) (p : Port) (h : Handle) :
    InOrder b none (takeRetireCall p h s) := by
  unfold takeRetireCall
  split
  · exact hs.refuse _ _
  · split
    · exact hs.refuse _ _
    · exact ((hs.answer p .ok []).endCall h _).settle _

/-- An ENDED record becomes FREE. -/
theorem InOrder.freeEnded {b : Bool} {s : State} (hs : InOrder b none s) {h : Handle} {c : Call} (hc : s.call h = some c)
    (he : c.state = .ended) : InOrder b none (s.freeRecord h) :=
  (hs.skipping _).freeRecord (slot_lt_of_call hc) (hs.unlisted fun d hd => by
    rw [record_of_call hc] at hd; cases hd; rw [he]; rfl)

theorem ended_of_gateCollect {c : Call} (h : gateCollect c = none) : c.state = .ended := by
  unfold gateCollect at h
  by_contra hne
  simp [hne] at h

theorem InOrder.collectEnd {b : Bool} {s : State} (hs : InOrder b none s) (p : Port) (h : Handle) :
    InOrder b none (takeCollectEnd p h s) := by
  unfold takeCollectEnd
  split
  · exact hs.refuse _ _
  · rename_i c hcf
    obtain ⟨hc, hg⟩ := callFor_spec hcf
    dsimp only
    split
    · exact ((hs.answer p .ok (c.endData p)).freeEnded (by rw [answer_only]; exact hc) (ended_of_gateCollect hg)).settle _
    · exact hs.answer _ _ _

theorem InOrder.clearCalls {b : Bool} {s : State} (hs : InOrder b none s) (p : Port) : InOrder b none (takeClearCalls p s) :=
  ((InOrder.foldl (fun _ h hs => hs.endCall h .cleared) s.clearable hs).answer _ _ _).settle _

theorem follow_setParticipant (s : State) (p : Port) (h : Handle) (e muted : Nat) : Follow s (takeSetParticipant p h e muted s) := by
  unfold takeSetParticipant
  split
  · exact follow_refuse _ _ _
  · rename_i c hcf
    obtain ⟨hc, -⟩ := callFor_spec hcf
    split
    · rename_i t f ht _
      split
      · split
        · exact (follow_setMuted hc ht e f).trans (follow_answer _ _ _ _)
        · exact follow_refuse _ _ _
      · exact follow_refuse _ _ _
    · exact follow_refuse _ _ _

theorem InOrder.endExpiry {b : Bool} {s : State} (hs : InOrder b none s) (slot gen : Nat) :
    ∃ t, exec (.endExpiry slot gen) s = .next t ∧ InOrder b none t := by
  refine ⟨_, rfl, ?_⟩
  have h1 : InOrder b none (s.stopExpiry ⟨slot, gen⟩) := hs.same rfl rfl rfl
  split
  · dsimp only
    split
    · rename_i he
      obtain ⟨c, hc, hce⟩ := (Option.any_eq_true _ _).1 he
      exact (h1.freeEnded (h := ⟨slot, gen⟩) (c := c) hc (by simpa using hce)).settle _
    · exact h1
  · exact hs

/-! ## The other requests -/

theorem follow_store (s : State) (e : Nat) (fireZone : Option Nat) (role : Option Role) (enabled : Option Bool) (alarmTrim : Option Nat) :
    Follow s (s.setEp e (((s.ep e).store fireZone role enabled alarmTrim).refitAlarm s.ctx)) := by
  have hst : SamePlaces ((s.ep e).store fireZone role enabled alarmTrim) (s.ep e) := same_of_places rfl rfl rfl rfl
  refine follow_setEp fun cl => SamePlaces.subperm ?_ cl
  unfold Endpoint.refitAlarm
  split
  · exact (refit_same _ _ _).trans hst
  · exact hst

theorem InOrder.setEndpoint {b : Bool} {s : State} (hs : InOrder b none s) (p : Port) (e : Nat) (fireZone role enabled alarmTrim : Option Nat) :
    InOrder b none (takeSetEndpoint p e fireZone role enabled alarmTrim s) := by
  unfold takeSetEndpoint
  split
  · exact hs.refuse _ _
  · split
    · exact hs.refuse _ _
    · split
      · exact hs.refuse _ _
      · split
        · split
          · exact hs.refuse _ _
          · refine InOrder.settle (InOrder.answer ?_ _ _ _) _
            unfold State.storeEndpoint
            dsimp only
            have h1 := fun r n => (follow_store s e fireZone r n alarmTrim).inOrder hs
            split
            · exact InOrder.atEndpoint ((follow_setEp fun cl => (keys_disable _ _ _).subperm).inOrder (h1 _ _))
            · exact h1 _ _
        · exact hs.refuse _ _

theorem follow_setLocalTrim (s : State) (p : Port) (e trim : Nat) : Follow s (takeSetLocalTrim p e trim s) := by
  unfold takeSetLocalTrim
  split
  · refine (follow_setEp fun cl => ?_).trans (follow_answer _ _ _ _)
    have h1 : SamePlaces { s.ep e with localTrim := min trim Config.unity } (s.ep e) := same_of_places rfl rfl rfl rfl
    exact ((refit_same _ _ _).trans h1).subperm cl
  · exact follow_refuse _ _ _

theorem follow_setDeck (s : State) (p : Port) (d first count : Nat) : Follow s (takeSetDeck p d first count s) := by
  have h1 : ∀ x, Follow s (s.setDeck d x) := fun x => follow_of_eq rfl rfl rfl
  unfold takeSetDeck
  split
  · exact follow_refuse _ _ _
  · split
    · exact (h1 _).trans (follow_answer _ _ _ _)
    · split
      · exact follow_refuse _ _ _
      · split
        · exact follow_refuse _ _ _
        · exact (h1 _).trans (follow_answer _ _ _ _)

theorem follow_queryEndpoint (s : State) (p : Port) (e : Nat) : Follow s (takeQueryEndpoint p e s) := by
  unfold takeQueryEndpoint
  split
  · exact follow_refuse _ _ _
  · exact (follow_answer _ _ _ _).after rfl rfl rfl

theorem writeBank_same (bk : Bank) (trim depth : Option Nat) (ep : Endpoint) : SamePlaces (ep.writeBank bk trim depth) ep := by
  cases bk <;> exact same_of_places rfl rfl rfl rfl

theorem follow_setBank (s : State) (p : Port) (bank : Nat) (ds : List Descriptor) (trim depth : Option Nat) :
    Follow s (takeSetBank p bank ds trim depth s) := by
  unfold takeSetBank
  split
  · exact follow_refuse _ _ _
  · split
    · exact follow_refuse _ _ _
    · split
      · exact follow_refuse _ _ _
      · rename_i bk _ _ _ ts _
        split
        · exact follow_refuse _ _ _
        · refine Follow.trans ?_ (follow_answer _ _ _ _)
          refine follow_mapIdx (f := fun e ep => if (s.expandAll ts).contains e then ep.writeBank bk trim depth else ep) rfl rfl rfl ?_
          intro e ep cl
          split
          · exact (writeBank_same _ _ _ _).subperm cl
          · exact List.Subperm.refl _

theorem follow_bankSwap (s : State) (p : Port) : Follow s (takeBankSwap p s) := by
  unfold takeBankSwap
  split
  · exact follow_refuse _ _ _
  · exact (follow_enterPhase _ _ _).after rfl rfl rfl

theorem follow_setMixMode (s : State) (p : Port) (mode : Nat) : Follow s (takeSetMixMode p mode s) := by
  unfold takeSetMixMode
  split
  · exact follow_refuse _ _ _
  · exact (follow_answer _ _ _ _).after rfl rfl rfl

theorem follow_setHold (s : State) (p : Port) (o : Nat) (delay : Option Nat) : Follow s (takeSetHold p o delay s) := by
  unfold takeSetHold
  split
  · exact follow_refuse _ _ _
  · exact (follow_answer _ _ _ _).after rfl rfl rfl

theorem follow_definePhrase (s : State) (p : Port) (id start length check : Nat) :
    Follow s (takeDefinePhrase p id start length check s) := by
  unfold takeDefinePhrase
  split
  · exact follow_refuse _ _ _
  · split
    · exact follow_refuse _ _ _
    · split
      · exact follow_refuse _ _ _
      · exact (((follow_clearFault _ _ _).trans (follow_answer _ _ _ _)).trans (follow_refresh _)).after rfl rfl rfl

theorem follow_unqueue (s : State) (id : Nat) : Follow s (s.unqueue id) := by
  unfold State.unqueue
  dsimp only
  split
  · exact (follow_beginCheck _).after rfl rfl rfl
  · exact follow_of_eq rfl rfl rfl

theorem follow_retirePhrase (s : State) (p : Port) (id : Nat) : Follow s (takeRetirePhrase p id s) := by
  unfold takeRetirePhrase
  split
  · exact follow_refuse _ _ _
  · split
    · exact follow_refuse _ _ _
    · split
      · exact follow_answer _ _ _ _
      · exact (follow_answer s p .ok []).trans ((((follow_unqueue _ _).trans (follow_clearFault _ _ _)).trans
          (follow_refresh _)).after rfl rfl rfl)

theorem follow_verifyPhrase (s : State) (p : Port) (id : Nat) : Follow s (takeVerifyPhrase p id s) := by
  have hq : Follow s (s.queuePhrase id) := by
    unfold State.queuePhrase
    dsimp only
    split
    · exact (follow_beginCheck _).after rfl rfl rfl
    · exact follow_of_eq rfl rfl rfl
  unfold takeVerifyPhrase
  split
  · exact follow_refuse _ _ _
  · split
    · exact follow_refuse _ _ _
    · split
      · exact follow_answer _ _ _ _
      · split
        · exact follow_refuse _ _ _
        · exact hq.trans (follow_answer _ _ _ _)

/-- A program is stored whose fields are in their ranges, or none. -/
theorem InOrder.defineAlarm {b : Bool} {s : State} (hs : InOrder b none s) (p : Port) (id mark : Nat) (fields : Option AlarmFields) :
    InOrder b none (takeDefineAlarm p id mark fields s) := by
  unfold takeDefineAlarm
  split
  · exact hs.refuse _ _
  · split
    · exact hs.refuse _ _
    · split
      · exact hs.refuse _ _
      · rename_i o ho
        split
        · exact hs.refuse _ _
        · refine InOrder.answer ?_ _ _ _
          have hg : ∀ g, some g ∈ (s.programs.set id o).cells → some g ∈ s.programs.cells ∨
              ((12 ≤ g.level ∧ g.level ≤ 15) ∧ ∀ t ∈ g.targets, t.inRange = true) := by
            intro g hg
            rcases Table.mem_set hg with h | h
            · subst h; exact .inr (parseDefinition_ok ho)
            · exact .inl h
          exact ⟨hs.gens, hs.records, fun g h => (hg g h).elim (hs.programs g) fun h => h.1,
            fun hb g h => (hg g h).elim (hs.targets hb g) fun h => h.2, hs.named, hs.once, hs.sweeps⟩

theorem InOrder.takeStart {b : Bool} {s : State} (hs : InOrder b none s) (p : Port) (id : Nat) : InOrder b none (takeStartAlarm p id s) := by
  unfold takeStartAlarm
  dsimp only
  split
  · exact ((follow_enterPhase _ _ _).inOrder (hs.startAlarm p id true)).settle _
  · exact hs.answer _ _ _

theorem follow_takeSetTrigger (s : State) (p : Port) (i program mode : Nat) : Follow s (takeSetTrigger p i program mode s) := by
  unfold takeSetTrigger
  split
  · exact follow_refuse _ _ _
  · split
    · exact follow_refuse _ _ _
    · split
      · exact follow_refuse _ _ _
      · exact (follow_setTrigger _ _ _).trans (follow_answer _ _ _ _)

theorem follow_setSupervision (s : State) (p : Port) (tolerance confirm recover forget : Option Nat) :
    Follow s (takeSetSupervision p tolerance confirm recover forget s) := by
  unfold takeSetSupervision
  split
  · exact follow_refuse _ _ _
  · split
    · exact follow_refuse _ _ _
    · dsimp only
      refine Follow.after (follow_answer _ _ _ _) ?_ ?_ ?_ <;> cases forget <;> rfl

theorem follow_learnLine (s : State) (p : Port) (c : Nat) : Follow s (takeLearnLine p c s) := by
  unfold takeLearnLine
  split
  · exact follow_refuse _ _ _
  · split
    · exact follow_refuse _ _ _
    · exact follow_enterPhase _ _ _

theorem follow_setSeverity (s : State) (p : Port) (kind severity : Nat) : Follow s (takeSetSeverity p kind severity s) := by
  unfold takeSetSeverity
  split
  · exact follow_refuse _ _ _
  · split
    · exact follow_refuse _ _ _
    · exact (follow_answer _ _ _ _).after rfl rfl rfl

theorem follow_setActions (s : State) (p : Port) (severity : Nat) (fallback attention : Option Nat) :
    Follow s (takeSetActions p severity fallback attention s) := by
  unfold takeSetActions
  split
  · split
    · exact follow_refuse _ _ _
    · exact (follow_answer _ _ _ _).after rfl rfl rfl
  · exact follow_refuse _ _ _

theorem follow_faultNext (s : State) (p : Port) (restart : Nat) : Follow s (takeFaultNext p restart s) := by
  unfold takeFaultNext
  split
  · exact follow_refuse _ _ _
  · exact ((follow_answer _ _ _ _).trans (follow_refresh _)).after rfl rfl rfl

theorem follow_faultAck (s : State) (p : Port) (source number kind : Nat) : Follow s (takeFaultAck p source number kind s) := by
  unfold takeFaultAck
  split
  · split
    · exact (((follow_retireEntries _).trans (follow_answer _ _ _ _)).trans (follow_refresh _)).after rfl rfl rfl
    · exact follow_refuse _ _ _
  · exact follow_refuse _ _ _

theorem follow_setPin (s : State) (p : Port) (o mode severity level : Nat) : Follow s (takeSetPin p o mode severity level s) := by
  unfold takeSetPin
  split
  · exact follow_refuse _ _ _
  · split
    · exact follow_refuse _ _ _
    · split
      · exact follow_refuse _ _ _
      · exact (follow_answer _ _ _ _).after rfl rfl rfl

theorem follow_pinAck (s : State) (p : Port) (o : Nat) : Follow s (takePinAck p o s) := by
  unfold takePinAck
  split
  · exact follow_refuse _ _ _
  · exact (follow_answer _ _ _ _).after rfl rfl rfl

/-! ## The ports and the resets -/

theorem follow_takeStatus (s : State) (p : Port) : Follow s (s.takeStatus p) := (follow_answer _ _ _ _).trans (follow_setPort _ _ _)

theorem follow_frameIn (s : State) (p : Port) (bytes : List Byte) : Follow s (s.frameIn p bytes) := by
  unfold State.frameIn
  dsimp only
  split
  · exact (follow_setPort _ _ _).trans (follow_takeStatus _ _)
  · exact follow_setPort _ _ _

/-- A state with no records and no listings is in order if its generations and programs are. -/
theorem inOrder_empty {b : Bool} {s : State} (hg : ∀ i, (s.slot i).gen < 256) (hr : ∀ i, (s.slot i).record = none)
    (hp : ∀ g, some g ∈ s.programs.cells → (12 ≤ g.level ∧ g.level ≤ 15) ∧ (b = true → ∀ t ∈ g.targets, t.inRange = true))
    (hk : ∀ e cl, keys cl (s.ep e) = []) : InOrder b none s where
  gens := hg
  records i c _ h := by rw [hr] at h; cases h
  programs g h := (hp g h).1
  targets hb g h := (hp g h).2 hb
  named _ e cl k h := by rw [hk] at h; cases h
  once _ e cl := by rw [hk]; exact List.nodup_nil
  sweeps _ i c sw _ h := by rw [hr] at h; cases h

theorem keys_initial (cl : ListClass) (n : Nat) : keys cl (Endpoint.initial n) = [] := by cases cl <;> rfl

theorem initial_programs {g : AlarmProgram} (h : some g ∈ AlarmProgram.initialTable.cells) : g = .general := by
  rcases Table.mem_set h with h | h
  · exact Option.some.inj h
  · exact absurd (List.mem_replicate.1 h).2 (by simp)

theorem slot_initial {s : State} (h : s.calls = .fill 64 .initial) (i : Nat) : s.slot i = .initial := by
  by_cases hi : i < 64
  · rw [State.slot, h]; exact Table.get_fill _ _ _ hi
  · exact slot_of_le (Nat.not_lt.1 hi)

theorem general_ok (b : Bool) : (12 ≤ AlarmProgram.general.level ∧ AlarmProgram.general.level ≤ 15) ∧
    (b = true → ∀ t ∈ AlarmProgram.general.targets, t.inRange = true) :=
  ⟨by decide, fun _ => by decide⟩

theorem inOrder_powerOn (b : Bool) (s : State) : ∃ t, exec .powerOn s = .next t ∧ InOrder b none t := by
  refine ⟨_, rfl, ?_⟩
  refine inOrder_empty (fun i => ?_) (fun i => ?_) (fun g hg => ?_) fun e cl => ?_
  · rw [slot_initial rfl]; decide
  · rw [slot_initial rfl]; rfl
  · rw [initial_programs hg]; exact general_ok b
  · by_cases he : e < 176
    · exact (congrArg (keys cl) (Table.get_build (fun e => Endpoint.initial (if e < 144 then e else 0)) e (Endpoint.initial 0) he)).trans
        (keys_initial _ _)
    · exact keys_of_le (Nat.not_lt.1 he) cl

theorem inOrder_resetInput {b : Bool} {s : State} (hs : InOrder b none s) : ∃ t, exec .resetInput s = .next t ∧ InOrder b none t := by
  refine ⟨_, rfl, ?_⟩
  have hslot : ∀ {t : State}, t.calls = s.calls.map (fun sl => ⟨sl.gen, none⟩) → ∀ i, t.slot i = ⟨(s.slot i).gen, none⟩ := by
    intro t ht i
    by_cases hi : i < 64
    · rw [State.slot, ht]; exact Table.get_map _ _ _ _ _ hi
    · rw [slot_of_le (Nat.not_lt.1 hi), slot_of_le (Nat.not_lt.1 hi)]; rfl
  refine inOrder_empty (fun i => ?_) (fun i => ?_) (fun g hg => ⟨hs.programs g hg, fun hb => hs.targets hb g hg⟩) fun e cl => ?_
  · rw [hslot rfl]; exact hs.gens i
  · rw [hslot rfl]
  · by_cases he : e < 176
    · exact (congrArg (keys cl) (Table.get_mapIdx Endpoint.reset s.endpoints e (Endpoint.initial 0) (Endpoint.initial 0) he)).trans
        (by cases cl <;> rfl)
    · exact keys_of_le (Nat.not_lt.1 he) cl

/-! ## Every command -/

theorem call_serveSweep (s : State) (sw : Sweep) (h : Handle) : (s.serveSweep sw).call h = s.call h := by
  unfold State.serveSweep; split <;> rfl

/-- A request whose owner's work follows the records and moves no listing in. -/
theorem InOrder.requested {b : Bool} {s : State} (hs : InOrder b none s) (p : Port) (o : Owner) (c : Instr) {take : State → State}
    (ht : ∀ u, Follow u (take u)) : InOrder b none (s.request p o c take) := hs.request p o c fun u hu => (ht u).inOrder hu

/-- An event that happens only under a condition. -/
theorem InOrder.ite {b q : Bool} {s t : State} (hs : InOrder b none s) (ht : InOrder b none t) : InOrder b none (if q = true then t else s) := by
  split
  · exact ht
  · exact hs

/-- Every command keeps the call table and the listings in order. -/
theorem exec_inOrder {b : Bool} {s : State} (hs : InOrder b none s) (c : Instr) : ∃ t, exec c s = .next t ∧ InOrder b none t := by
  cases c with
  | powerOn => exact inOrder_powerOn b s
  | resetInput => exact inOrder_resetInput hs
  | bridgeByteReceived byte err =>
    refine ⟨_, rfl, ?_⟩
    split
    · exact (follow_frameIn _ _ _).inOrder ((follow_setPort _ _ _).inOrder hs)
    · exact (follow_setPort _ _ _).inOrder hs
  | bridgeInterbyteTimeout => exact ⟨_, rfl, (follow_setPort _ _ _).inOrder hs⟩
  | bridgeAnswerSent => exact ⟨_, rfl, (follow_setPort _ _ _).inOrder hs⟩
  | systemPeriodEnd inward shown =>
    refine ⟨_, rfl, ?_⟩
    split
    · exact (follow_setPort _ _ _).inOrder hs
    · exact ((follow_setPort _ _ _).trans (follow_setPort _ _ _)).inOrder hs
    · exact (follow_frameIn _ _ _).inOrder ((follow_setPort _ _ _).inOrder hs)
  | status p tag =>
    exact ⟨_, rfl, ((follow_setPort s p _).inOrder hs).ite ((follow_takeStatus _ _).inOrder ((follow_setPort s p _).inOrder hs))⟩
  | setEndpoint p tag e f r n a => exact ⟨_, rfl, hs.request _ _ _ fun _ h => h.setEndpoint _ _ _ _ _ _⟩
  | setLocalTrim p tag e t => exact ⟨_, rfl, hs.requested _ _ _ fun _ => follow_setLocalTrim _ _ _ _⟩
  | setDeck p tag d f n => exact ⟨_, rfl, hs.requested _ _ _ fun _ => follow_setDeck _ _ _ _ _⟩
  | queryEndpoint p tag e => exact ⟨_, rfl, hs.requested _ _ _ fun _ => follow_queryEndpoint _ _ _⟩
  | setBank p tag k ds t d => exact ⟨_, rfl, hs.requested _ _ _ fun _ => follow_setBank _ _ _ _ _ _⟩
  | bankSwap p tag => exact ⟨_, rfl, hs.requested _ _ _ fun _ => follow_bankSwap _ _⟩
  | openCall p tag f => exact ⟨_, rfl, hs.request _ _ _ fun _ h => h.openCall _ _⟩
  | addTargets p tag h ds => exact ⟨_, rfl, hs.request _ _ _ fun _ h => h.addTargets _ _ _⟩
  | dropTargets p tag h ds => exact ⟨_, rfl, hs.request _ _ _ fun _ h => h.dropTargets _ _ _⟩
  | setCallGain p tag h a g e => exact ⟨_, rfl, hs.requested _ _ _ fun _ => follow_setCallGain _ _ _ _ _ _⟩
  | retireCall p tag h => exact ⟨_, rfl, hs.request _ _ _ fun _ h => h.retireCall _ _⟩
  | queryCall p tag h => exact ⟨_, rfl, hs.requested _ _ _ fun u => by
      unfold takeQueryCall; split <;> exact follow_answer _ _ _ _⟩
  | collectEnd p tag h => exact ⟨_, rfl, hs.request _ _ _ fun _ h => h.collectEnd _ _⟩
  | clearCalls p tag => exact ⟨_, rfl, hs.request _ _ _ fun _ h => h.clearCalls _⟩
  | setParticipant p tag h e m => exact ⟨_, rfl, hs.requested _ _ _ fun _ => follow_setParticipant _ _ _ _ _⟩
  | setMixMode p tag m => exact ⟨_, rfl, hs.requested _ _ _ fun _ => follow_setMixMode _ _ _⟩
  | setHold p tag o d => exact ⟨_, rfl, hs.requested _ _ _ fun _ => follow_setHold _ _ _ _⟩
  | definePhrase p tag i st n k => exact ⟨_, rfl, hs.requested _ _ _ fun _ => follow_definePhrase _ _ _ _ _ _⟩
  | retirePhrase p tag i => exact ⟨_, rfl, hs.requested _ _ _ fun _ => follow_retirePhrase _ _ _⟩
  | queryPhrase p tag i => exact ⟨_, rfl, hs.requested _ _ _ fun u => by
      unfold takeQueryPhrase; split <;> exact follow_answer _ _ _ _⟩
  | verifyPhrase p tag i => exact ⟨_, rfl, hs.requested _ _ _ fun _ => follow_verifyPhrase _ _ _⟩
  | defineAlarm p tag i m f => exact ⟨_, rfl, hs.request _ _ _ fun _ h => h.defineAlarm _ _ _ _⟩
  | queryAlarm p tag i => exact ⟨_, rfl, hs.requested _ _ _ fun u => by
      unfold takeQueryAlarm; split <;> exact follow_answer _ _ _ _⟩
  | startAlarm p tag i => exact ⟨_, rfl, hs.request _ _ _ fun _ h => h.takeStart _ _⟩
  | setTrigger p tag i g m => exact ⟨_, rfl, hs.requested _ _ _ fun _ => follow_takeSetTrigger _ _ _ _ _⟩
  | setSupervision p tag a b c d => exact ⟨_, rfl, hs.requested _ _ _ fun _ => follow_setSupervision _ _ _ _ _ _⟩
  | learnLine p tag c => exact ⟨_, rfl, hs.requested _ _ _ fun _ => follow_learnLine _ _ _⟩
  | queryChannel p tag c => exact ⟨_, rfl, hs.requested _ _ _ fun u => by
      unfold takeQueryChannel; split <;> exact follow_answer _ _ _ _⟩
  | setSeverity p tag k v => exact ⟨_, rfl, hs.requested _ _ _ fun _ => follow_setSeverity _ _ _ _⟩
  | setActions p tag v f a => exact ⟨_, rfl, hs.requested _ _ _ fun _ => follow_setActions _ _ _ _ _⟩
  | faultNext p tag r => exact ⟨_, rfl, hs.requested _ _ _ fun _ => follow_faultNext _ _ _⟩
  | faultAck p tag a n k => exact ⟨_, rfl, hs.requested _ _ _ fun _ => follow_faultAck _ _ _ _ _⟩
  | setPin p tag o m v l => exact ⟨_, rfl, hs.requested _ _ _ fun _ => follow_setPin _ _ _ _ _ _⟩
  | pinAck p tag o => exact ⟨_, rfl, hs.requested _ _ _ fun _ => follow_pinAck _ _ _⟩
  | sweepDelivery i =>
    refine ⟨_, rfl, ?_⟩
    split
    · exact hs
    · rename_i c hc
      split
      · exact hs
      · rename_i sw hsw
        split
        · rename_i hk
          exact InOrder.settle (((follow_serveSweep s sw).inOrder hs).sweepTurn ((call_serveSweep _ _ _).trans (call_handleOf hc)) hsw hk.1) _
        · exact hs
  | dropSweepRemoval i =>
    refine ⟨_, rfl, ?_⟩
    split
    · exact hs
    · rename_i c hc
      split
      · exact hs
      · rename_i sw hsw
        split
        · rename_i hk
          exact InOrder.settle (((follow_serveSweep s sw).inOrder hs).dropTurn ((call_serveSweep _ _ _).trans (call_handleOf hc)) hsw hk.1) _
        · exact hs
  | audioFrameBoundary f => exact ⟨_, rfl, InOrder.settle ((follow_boundary _ f).inOrder hs.takeDue) _⟩
  | acquireTimeout i =>
    refine ⟨_, rfl, ?_⟩
    split
    · refine (follow_refresh _).inOrder ?_
      exact (follow_recordFault _ _ _).inOrder (hs.same rfl rfl rfl)
    · exact hs
  | messagePhraseEnd i => exact ⟨_, rfl, hs.ite ((hs.messagePhraseEnd i).settle _)⟩
  | repeatGapEnd i => exact ⟨_, rfl, (follow_repeatGapEnd _ _).inOrder hs⟩
  | alarmPhraseComplete i => exact ⟨_, rfl, hs.ite ((hs.alarmPhraseComplete i).settle _)⟩
  | alarmStepEnd i => exact ⟨_, rfl, hs.ite ((hs.alarmStepEnd i).settle _)⟩
  | warbleSwitch i => exact ⟨_, rfl, (follow_warbleSwitch _ _).inOrder hs⟩
  | endExpiry i g => exact hs.endExpiry i g
  | holdReleaseTimeout o => exact ⟨_, rfl, hs.ite (hs.same rfl rfl rfl)⟩
  | triggerPinChange i a => exact ⟨_, rfl, hs.same rfl rfl rfl⟩
  | debounceExpiry i => exact ⟨_, rfl, hs.ite ((hs.debounce i).settle _)⟩
  | verifyBlockRead n =>
    refine ⟨_, rfl, ?_⟩
    split
    · exact hs
    · exact (hs.readBlock _ n).settle _
  | supervisionReading c code pr sg =>
    refine ⟨_, rfl, InOrder.settle ?_ _⟩
    split
    · exact ((follow_linkFrame s).trans (follow_reading _ _ _ _ _)).inOrder hs
    · exact (follow_linkFrame s).inOrder hs
  | learnTimeout p => exact ⟨_, rfl, hs.ite (hs.answer _ _ _)⟩
  | scanTimeoutExpiry =>
    refine ⟨_, rfl, hs.ite ?_⟩
    exact ((follow_recordFault _ _ _).trans (follow_refresh _)).inOrder (hs.same rfl rfl rfl)
  | switchTimerExpiry z =>
    refine ⟨_, rfl, ?_⟩
    split
    · exact ((follow_arrive s z).inOrder hs).settle _
    · exact hs

/-- One step keeps the call table and the listings in order. -/
theorem step_inOrder {b : Bool} {s t : State} (hs : InOrder b none s) (h : step s = .next t) : InOrder b none t := by
  unfold step at h
  split at h
  · cases h; exact hs
  · rename_i c rest _
    obtain ⟨u, hu, ho⟩ := exec_inOrder (s := { s with pending := rest }) (hs.same rfl rfl rfl) c
    rw [hu] at h
    cases h
    exact ho

/-- Settles O33: the records' part of the invariant. -/
theorem callRecordsStayInOrder : Obligations.CallRecordsStayInOrder := fun _ _ hs h => (step_inOrder (inOrder_of_callsOk hs) h).callsOk

/-- Settles O34: the invariant with the listings. -/
theorem listingsNameLiveCalls : Obligations.ListingsNameLiveCalls := fun _ _ hc hset hl h =>
  (step_inOrder (inOrder_of_listingsOk hc hset hl) h).listingsOk

end Sys2Proof.Calls
end

section
/-! PROOFS. The pins and counts that follow the records (02 R23; 03 R58; 08 R156; 09 R166; 10 R187, R189): a refresh makes them follow, and
the commands without one change nothing that they read. -/

namespace Sys2Proof.Calls

open Sys2Proof.Machine

/-! ## Tables seen through a function -/

/-- Two tables whose records look the same through `f` are mapped to one table. -/
theorem map_eq_of_get {α β : Type} {n : Nat} {t u : Table α n} {f : α → β} (d : α)
    (h : ∀ i, i < n → f (t.get i d) = f (u.get i d)) : t.cells.map f = u.cells.map f := by
  refine List.ext_getElem (by simp [t.size, u.size]) fun i h1 h2 => ?_
  have hi : i < n := by simpa [t.size] using h1
  have := h i hi
  rw [Table.get_eq_getElem t i d hi, Table.get_eq_getElem u i d hi] at this
  simpa using this

theorem any_eq_of_get {α : Type} {n : Nat} {t u : Table α n} {f : α → Bool} (d : α)
    (h : ∀ i, i < n → f (t.get i d) = f (u.get i d)) : t.cells.any f = u.cells.any f := by
  have hm := congrArg (List.any · id) (map_eq_of_get d h)
  simpa using hm

theorem countP_eq_of_get {α : Type} {n : Nat} {t u : Table α n} {f : α → Bool} (d : α)
    (h : ∀ i, i < n → f (t.get i d) = f (u.get i d)) : t.cells.countP f = u.cells.countP f := by
  have hm := congrArg (List.countP id) (map_eq_of_get d h)
  simpa using hm

/-! ## What a refresh leaves -/

theorem refresh_pinsFollow (s : State) : s.refresh.pinsFollow := ⟨rfl, rfl, fun p => by cases p <;> exact ⟨rfl, rfl⟩⟩

theorem slot_refresh {s : State} {i : Nat} (hi : i < 64) :
    s.refresh.slot i = ⟨(s.slot i).gen, (s.slot i).record.map (s.countedCall (s.handleOf i))⟩ := slot_countCalls hi

theorem handleOf_refresh (s : State) (i : Nat) : s.refresh.handleOf i = s.handleOf i := (follow_refresh s).handleOf i

theorem refresh_countsFollow (s : State) : s.refresh.countsFollow := by
  intro i c hc
  rw [slot_refresh (lt_of_record hc)] at hc
  obtain ⟨c', -, rfl⟩ := Option.map_eq_some_iff.1 hc
  rw [handleOf_refresh]
  refine ⟨rfl, rfl, fun a ha => ?_⟩
  simp only [State.countedCall] at ha
  cases hp : c'.part <;> rw [hp] at ha <;> cases ha
  rfl

/-! ## What changes nothing that the pins and counts read -/

/-- The record `d` reads to the pins and counts as `c`. -/
structure ReadsAs (c d : Call) : Prop where
  degrades : d.degrades = c.degrades
  state : d.state = c.state
  opener : d.opener = c.opener
  listed : d.listingCount = c.listingCount
  heard : d.heardCount = c.heardCount
  unserved : ∀ a, d.part = .alarm a → ∃ a', c.part = .alarm a' ∧ a'.unserved = a.unserved

theorem ReadsAs.refl (c : Call) : ReadsAs c c := ⟨rfl, rfl, rfl, rfl, rfl, fun a h => ⟨a, h, rfl⟩⟩

theorem ReadsAs.trans {c d e : Call} (h : ReadsAs c d) (h' : ReadsAs d e) : ReadsAs c e where
  degrades := h'.degrades.trans h.degrades
  state := h'.state.trans h.state
  opener := h'.opener.trans h.opener
  listed := h'.listed.trans h.listed
  heard := h'.heard.trans h.heard
  unserved a ha := by
    obtain ⟨a', ha', hu'⟩ := h'.unserved a ha
    obtain ⟨a'', ha'', hu''⟩ := h.unserved a' ha'
    exact ⟨a'', ha'', hu''.trans hu'⟩

/-- From `s` to `t` nothing changes that the flags and pins read beside the records, nor they themselves. -/
structure SameFlags (s t : State) : Prop where
  degraded : t.degraded = s.degraded
  overflow : t.overflow = s.overflow
  faults : t.faults = s.faults
  active : t.activeFaults = s.activeFaults
  ends : ∀ p, (t.port p).endsToCollect = (s.port p).endsToCollect
  attention : ∀ p, (t.port p).attention = (s.port p).attention

theorem SameFlags.trans {s t u : State} (h : SameFlags s t) (h' : SameFlags t u) : SameFlags s u where
  degraded := h'.degraded.trans h.degraded
  overflow := h'.overflow.trans h.overflow
  faults := h'.faults.trans h.faults
  active := h'.active.trans h.active
  ends p := (h'.ends p).trans (h.ends p)
  attention p := (h'.attention p).trans (h.attention p)

/-- From `s` to `t` nothing changes that the pins and counts read, nor they themselves. -/
structure Quiet (s t : State) : Prop where
  flags : SameFlags s t
  gens : ∀ i, (t.slot i).gen = (s.slot i).gen
  records : ∀ i, Option.Rel ReadsAs (s.slot i).record (t.slot i).record
  places : ∀ e, SamePlaces (t.ep e) (s.ep e)
  service : ∀ e, (t.ep e).service = (s.ep e).service

theorem Quiet.trans {s t u : State} (h : Quiet s t) (h' : Quiet t u) : Quiet s u where
  flags := h.flags.trans h'.flags
  gens i := (h'.gens i).trans (h.gens i)
  records i := by
    have h1 := h.records i
    have h2 := h'.records i
    revert h1 h2
    generalize (s.slot i).record = a, (t.slot i).record = b, (u.slot i).record = c
    rintro (hab | _) (hbc | _)
    · exact .some (hab.trans hbc)
    · exact .none
  places e := (h'.places e).trans (h.places e)
  service e := (h'.service e).trans (h.service e)

theorem rel_readsAs_refl (o : Option Call) : Option.Rel ReadsAs o o := by
  cases o
  · exact .none
  · exact .some (.refl _)

/-- Calls and endpoints as they were. -/
theorem quiet_of_flags {s t : State} (hf : SameFlags s t) (hc : t.calls = s.calls) (he : t.endpoints = s.endpoints) : Quiet s t where
  flags := hf
  gens i := by rw [State.slot, State.slot, hc]
  records i := by rw [show (t.slot i) = s.slot i by rw [State.slot, State.slot, hc]]; exact rel_readsAs_refl _
  places e := by rw [ep_congr he]; exact .refl _
  service e := by rw [ep_congr he]

/-- The ports and fault records too as they were. -/
theorem quiet_of_eq {s t : State} (hd : t.degraded = s.degraded) (ho : t.overflow = s.overflow) (hf : t.faults = s.faults)
    (ha : t.activeFaults = s.activeFaults) (hs : t.system = s.system) (hb : t.bridge = s.bridge) (hc : t.calls = s.calls)
    (he : t.endpoints = s.endpoints) : Quiet s t :=
  quiet_of_flags ⟨hd, ho, hf, ha, fun p => by cases p <;> simp [hs, hb], fun p => by cases p <;> simp [hs, hb]⟩ hc he

theorem Quiet.refl (s : State) : Quiet s s := quiet_of_eq rfl rfl rfl rfl rfl rfl rfl rfl

theorem sameFlags_setPort {s : State} {p : Port} {r : PortRec} (he : r.endsToCollect = (s.port p).endsToCollect)
    (ha : r.attention = (s.port p).attention) : SameFlags s (s.setPort p r) := by
  refine ⟨by simp, by simp, by simp, by simp, fun q => ?_, fun q => ?_⟩ <;>
    cases p <;> cases q <;> simp_all [State.setPort, State.port]

theorem quiet_setPort {s : State} {p : Port} {r : PortRec} (he : r.endsToCollect = (s.port p).endsToCollect)
    (ha : r.attention = (s.port p).attention) : Quiet s (s.setPort p r) :=
  quiet_of_flags (sameFlags_setPort he ha) (by simp) (by simp)

theorem quiet_setEp {s : State} {e : Nat} {x : Endpoint} (hk : SamePlaces x (s.ep e)) (hv : x.service = (s.ep e).service) :
    Quiet s (s.setEp e x) where
  flags := ⟨rfl, rfl, rfl, rfl, fun p => by cases p <;> rfl, fun p => by cases p <;> rfl⟩
  gens _ := rfl
  records _ := rel_readsAs_refl _
  places j := by
    rw [ep_setEp]
    split
    · rename_i h; rw [← h.1]; exact hk
    · exact .refl _
  service j := by
    rw [ep_setEp]
    split
    · rename_i h; rw [← h.1]; exact hv
    · rfl

/-- The record of one call is changed. -/
theorem quiet_updCall {s : State} {h : Handle} {f : Call → Call} (hf : ∀ c, s.call h = some c → ReadsAs c (f c)) :
    Quiet s (s.updCall h f) where
  flags := by
    rw [updCall_only s h f]
    exact ⟨rfl, rfl, rfl, rfl, fun p => by cases p <;> rfl, fun p => by cases p <;> rfl⟩
  gens i := by rw [slot_updCall]; split <;> rfl
  records i := by
    rw [slot_updCall]
    split
    · rename_i hi
      obtain ⟨rfl, hg⟩ := hi
      rw [call_eq, if_pos hg] at hf
      cases hr : (s.slot h.slot).record with
      | none => exact .none
      | some c => exact .some (hf c hr)
    · exact rel_readsAs_refl _
  places e := by rw [updCall_only s h f]; exact .refl _
  service e := by rw [updCall_only s h f]; rfl

/-- Every endpoint is written by its number and record. -/
theorem quiet_endpoints {s t : State} (ht : t = { s with endpoints := t.endpoints })
    (hk : ∀ e, e < 176 → SamePlaces (t.ep e) (s.ep e) ∧ (t.ep e).service = (s.ep e).service) : Quiet s t where
  flags := by
    rw [ht]
    exact ⟨rfl, rfl, rfl, rfl, fun p => by cases p <;> rfl, fun p => by cases p <;> rfl⟩
  gens i := by rw [ht]; rfl
  records i := by rw [ht]; exact rel_readsAs_refl _
  places e := by
    by_cases he : e < 176
    · exact (hk e he).1
    · rw [show t.ep e = Endpoint.initial 0 from Table.get_of_le _ _ _ (Nat.not_lt.1 he),
        show s.ep e = Endpoint.initial 0 from Table.get_of_le _ _ _ (Nat.not_lt.1 he)]
      exact .refl _
  service e := by
    by_cases he : e < 176
    · exact (hk e he).2
    · rw [show t.ep e = Endpoint.initial 0 from Table.get_of_le _ _ _ (Nat.not_lt.1 he),
        show s.ep e = Endpoint.initial 0 from Table.get_of_le _ _ _ (Nat.not_lt.1 he)]

theorem rel_any {c d : Option Call} (h : Option.Rel ReadsAs c d) {f : Call → Bool} (hf : ∀ c d, ReadsAs c d → f d = f c) :
    d.any f = c.any f := by
  cases h with
  | none => rfl
  | some h => exact hf _ _ h

/-- The pins of the records. -/
theorem pins_of_records {s t : State} (h : ∀ i, (t.slot i).record.any Call.degrades = (s.slot i).record.any Call.degrades)
    (h' : ∀ i p, ((t.slot i).record.any fun c => c.state == .ended && c.opener == p) =
      (s.slot i).record.any fun c => c.state == .ended && c.opener == p) :
    t.degradedNow = s.degradedNow ∧ ∀ p, t.endsNow p = s.endsNow p :=
  ⟨any_eq_of_get .initial fun i _ => h i, fun p => countP_eq_of_get .initial fun i _ => h' i p⟩

theorem pinsFollow_of_records {s t : State} (hf : SameFlags s t) (hd : t.degradedNow = s.degradedNow)
    (he : ∀ p, t.endsNow p = s.endsNow p) (hs : s.pinsFollow) : t.pinsFollow := by
  obtain ⟨h1, h2, h3⟩ := hs
  have hover : t.overflowNow = s.overflowNow := by simp [State.overflowNow, State.isListed, hf.faults, hf.active]
  have hatt : ∀ p, t.attentionNow p = s.attentionNow p := fun p => by
    simp [State.attentionNow, hf.ends, hf.faults, hf.degraded]
  refine ⟨by rw [hf.degraded, hd, h1], by rw [hf.overflow, hover, h2], fun p => ?_⟩
  rw [hf.ends, hf.attention, he, hatt]
  exact h3 p

theorem Quiet.pinsFollow {s t : State} (h : Quiet s t) (hs : s.pinsFollow) : t.pinsFollow := by
  obtain ⟨hd, he⟩ := pins_of_records (s := s) (t := t) (fun i => rel_any (h.records i) fun _ _ h => h.degrades)
    fun i p => rel_any (h.records i) fun _ _ h => by rw [h.state, h.opener]
  exact pinsFollow_of_records h.flags hd he hs

/-- The counts of endpoints that hold the same calls in the same places. -/
theorem counts_congr {s t : State} (hk : ∀ e, SamePlaces (t.ep e) (s.ep e)) (hv : ∀ e, (t.ep e).service = (s.ep e).service) (h : Handle) :
    t.listingCount h = s.listingCount h ∧ t.heardCount h = s.heardCount h ∧ t.unservedCount h = s.unservedCount h := by
  have hl : ∀ e, (t.ep e).lists h = (s.ep e).lists h := fun e => lists_congr (hk e).keys_eq
  have ha : ∀ e, (t.ep e).admits h = (s.ep e).admits h := fun e => by
    have hslot : ∀ (ep : Endpoint) c, (ep.slot c).any (·.listing.call == h) = (slotKeys c ep).any (·.1 == h) := fun ep c => by
      cases hc : ep.slot c <;> simp [slotKeys, hc, keyOf]
    have hf := (hslot (t.ep e) .foreground).trans ((congrArg (List.any · (·.1 == h)) (hk e .foreground).1).trans
      (hslot (s.ep e) .foreground).symm)
    have hb := (hslot (t.ep e) .background).trans ((congrArg (List.any · (·.1 == h)) (hk e .background).1).trans
      (hslot (s.ep e) .background).symm)
    simp only [Endpoint.slot] at hf hb
    rw [Endpoint.admits, Endpoint.admits, hf, hb]
  refine ⟨countP_eq_of_get (Endpoint.initial 0) fun e _ => hl e, countP_eq_of_get (Endpoint.initial 0) fun e _ => ?_,
    countP_eq_of_get (Endpoint.initial 0) fun e _ => ?_⟩
  · show ((t.ep e).admits h && (t.ep e).service != .outOfService) = ((s.ep e).admits h && (s.ep e).service != .outOfService)
    rw [ha, hv]
  · show ((t.ep e).lists h && (t.ep e).service == .outOfService) = ((s.ep e).lists h && (s.ep e).service == .outOfService)
    rw [hl, hv]

theorem Quiet.handleOf {s t : State} (h : Quiet s t) (i : Nat) : t.handleOf i = s.handleOf i := by
  rw [State.handleOf, State.handleOf, h.gens]

theorem Quiet.countsFollow {s t : State} (h : Quiet s t) (hs : s.countsFollow) : t.countsFollow := by
  intro i d hd
  have hr := h.records i
  rw [hd] at hr
  generalize hc : (s.slot i).record = o at hr
  cases hr with
  | some hcd =>
    obtain ⟨h1, h2, h3⟩ := hs i _ hc
    obtain ⟨e1, e2, e3⟩ := counts_congr h.places h.service (s.handleOf i)
    rw [h.handleOf, e1, e2, e3, hcd.listed, hcd.heard]
    refine ⟨h1, h2, fun a ha => ?_⟩
    obtain ⟨a', ha', hu⟩ := hcd.unserved a ha
    rw [← hu]; exact h3 a' ha'

end Sys2Proof.Calls
end

section
/-! PROOFS. Every command keeps the pins and counts following the records: it ends in a refresh, or nothing changes that they read, or a
call is opened that is listed nowhere (02 R23, R31; 03 R58; 10 R187, R189). -/

namespace Sys2Proof.Calls

open Sys2Proof.Machine

/-- No listing names a FREE slot. -/
def FreeUnlisted (s : State) : Prop := ∀ i, (s.slot i).record = none → SlotUnlisted s i

theorem freeUnlisted_of_listingsOk {s : State} (h : s.listingsOk) : FreeUnlisted s := by
  rintro i hi e cl k hk rfl
  by_cases he : e < 176
  · rw [keys_eq] at hk
    obtain ⟨l, hl, rfl⟩ := List.mem_map.1 hk
    obtain ⟨-, c, hc, -⟩ := forall_ep h.1 he cl l hl
    have := record_of_call hc
    rw [show l.call.slot = (keyOf l).1.slot from rfl, hi] at this
    cases this
  · rw [keys_of_le (Nat.not_lt.1 he)] at hk; cases hk

theorem Quiet.freeUnlisted {s t : State} (h : Quiet s t) (hs : FreeUnlisted s) : FreeUnlisted t := by
  intro i hi e cl k hk
  rw [(h.places e).keys_eq] at hk
  have hr := h.records i
  rw [hi] at hr
  generalize hc : (s.slot i).record = o at hr
  cases hr
  exact hs i hc e cl k hk

/-- If the pins follow in `s`, they follow in `t`; and so do the counts, if no listing of `s` names a FREE slot. -/
def KeepsUp (s t : State) : Prop := (s.pinsFollow → t.pinsFollow) ∧ (FreeUnlisted s → s.countsFollow → t.countsFollow)

theorem Quiet.keepsUp {s t : State} (h : Quiet s t) : KeepsUp s t := ⟨h.pinsFollow, fun _ => h.countsFollow⟩

theorem keepsUp_refresh (s u : State) : KeepsUp s u.refresh := ⟨fun _ => refresh_pinsFollow u, fun _ _ => refresh_countsFollow u⟩

theorem keepsUp_settle (s s0 u : State) : KeepsUp s (settle s0 u) := keepsUp_refresh _ _

theorem Quiet.then {s t u : State} (h : Quiet s t) (h' : KeepsUp t u) : KeepsUp s u :=
  ⟨h'.1 ∘ h.pinsFollow, fun hf hc => h'.2 (h.freeUnlisted hf) (h.countsFollow hc)⟩

theorem KeepsUp.then {s t u : State} (h : KeepsUp s t) (h' : Quiet t u) : KeepsUp s u :=
  ⟨h'.pinsFollow ∘ h.1, fun hf hc => h'.countsFollow (h.2 hf hc)⟩

theorem Quiet.ite {s t : State} {q : Bool} (h : Quiet s t) : Quiet s (if q = true then t else s) := by
  split
  · exact h
  · exact .refl s

theorem keepsUp_ite {s t : State} {q : Bool} (h : KeepsUp s t) : KeepsUp s (if q = true then t else s) := by
  split
  · exact h
  · exact (Quiet.refl s).keepsUp

/-! ## Ports -/

@[simp] theorem discard_pins (r : PortRec) : r.discard.endsToCollect = r.endsToCollect ∧ r.discard.attention = r.attention := ⟨rfl, rfl⟩

theorem command_pins (r : PortRec) (code tag : Nat) (q : Option Instr) :
    (r.command code tag q).endsToCollect = r.endsToCollect ∧ (r.command code tag q).attention = r.attention := by
  unfold PortRec.command
  split
  · exact ⟨rfl, rfl⟩
  · split
    · exact ⟨rfl, rfl⟩
    · split <;> exact ⟨rfl, rfl⟩

theorem present_pins (r : PortRec) (c : Instr) :
    (r.present c).endsToCollect = r.endsToCollect ∧ (r.present c).attention = r.attention := by
  unfold PortRec.present
  split
  · exact ⟨rfl, rfl⟩
  · exact command_pins _ _ _ _

theorem quiet_present (s : State) (p : Port) (c : Instr) : Quiet s (s.setPort p ((s.port p).present c)) :=
  quiet_setPort (present_pins _ _).1 (present_pins _ _).2

theorem quiet_answer (s : State) (p : Port) (a : AnswerCode) (d : List Byte) : Quiet s (s.answer p a d) := by
  refine quiet_setPort ?_ ?_ <;> unfold PortRec.result <;> split <;> rfl

theorem quiet_refuse (s : State) (p : Port) (a : AnswerCode) : Quiet s (s.refuse p a) := quiet_answer _ _ _ _

theorem quiet_enterPhase (s : State) (p : Port) (ph : Phase) : Quiet s (s.enterPhase p ph) := quiet_setPort rfl rfl

theorem quiet_serve (s : State) (p : Port) (o : Owner) : Quiet s (s.serve p o) := quiet_of_eq rfl rfl rfl rfl rfl rfl rfl rfl

/-- A request keeps up if what its owner does keeps up. -/
theorem keepsUp_request {s : State} {p : Port} {o : Owner} {c : Instr} {take : State → State} (h : ∀ u, KeepsUp u (take u)) :
    KeepsUp s (s.request p o c take) := by
  unfold State.request
  dsimp only
  split
  · exact ((quiet_present s p c).trans (quiet_serve _ p o)).then (h _)
  · exact (quiet_present s p c).keepsUp

theorem quiet_takeStatus (s : State) (p : Port) : Quiet s (s.takeStatus p) := (quiet_answer _ _ _ _).trans (quiet_setPort rfl rfl)

theorem quiet_frameIn (s : State) (p : Port) (bytes : List Byte) : Quiet s (s.frameIn p bytes) := by
  unfold State.frameIn
  dsimp only
  have h1 := fun code tag q => quiet_setPort (s := s) (p := p) (command_pins (s.port p) code tag q).1 (command_pins (s.port p) code tag q).2
  split
  · exact (h1 _ _ _).trans (quiet_takeStatus _ _)
  · exact h1 _ _ _

theorem assembled_pins (r : PortRec) (x : Assembled) :
    (r.assembled x).endsToCollect = r.endsToCollect ∧ (r.assembled x).attention = r.attention := by
  unfold PortRec.assembled
  dsimp only
  split <;> exact ⟨rfl, rfl⟩

theorem gap_pins (r : PortRec) : r.gap.endsToCollect = r.endsToCollect ∧ r.gap.attention = r.attention := by
  unfold PortRec.gap
  split <;> exact ⟨rfl, rfl⟩

theorem readAnswer_pins (r : PortRec) (n : Nat) (b : Bool) :
    (r.readAnswer n b).endsToCollect = r.endsToCollect ∧ (r.readAnswer n b).attention = r.attention := by
  unfold PortRec.readAnswer
  split
  · exact ⟨rfl, rfl⟩
  · split <;> exact ⟨rfl, rfl⟩

/-! ## Calls -/

/-- A call's sweep, gain or stamps are written. -/
theorem readsAs_of_eq {c d : Call} (hp : d.part = c.part) (hs : d.state = c.state) (ho : d.opener = c.opener)
    (hl : d.listingCount = c.listingCount) (hh : d.heardCount = c.heardCount) : ReadsAs c d :=
  ⟨by simp only [Call.degrades, hp, hs], hs, ho, hl, hh, fun a ha => ⟨a, hp ▸ ha, rfl⟩⟩

theorem quiet_bindHold (s : State) (h : Handle) (c : Call) : Quiet s (s.bindHold h c) := by
  unfold State.bindHold
  split <;> exact quiet_of_eq rfl rfl rfl rfl rfl rfl rfl rfl

/-- A call of another type than ALARM opens in a FREE slot: nothing collects it, and it is listed nowhere. -/
theorem keepsUp_takeSlot {s : State} {i : Nat} {c : Call} (hi : i < 64) (hfree : (s.slot i).record = none) (hna : ∀ a, c.part ≠ .alarm a)
    (ho : c.state = .opening) (hl : c.listingCount = 0) (hh : c.heardCount = 0) : KeepsUp s (s.takeSlot i c) := by
  have hslot : ∀ j, (s.takeSlot i c).slot j = if i = j then ⟨((s.slot i).gen + 1) % 256, some { c with openSeq := s.seq }⟩ else s.slot j :=
    fun j => slot_set _ hi j
  have hdeg : Call.degrades { c with openSeq := s.seq } = false := by
    unfold Call.degrades
    split
    · rename_i a ha; exact absurd ha (hna a)
    · rfl
  refine ⟨fun hs => ?_, fun hf hs j d hd => ?_⟩
  · have hflags : SameFlags s (s.takeSlot i c) :=
      ⟨rfl, rfl, rfl, rfl, fun p => by cases p <;> rfl, fun p => by cases p <;> rfl⟩
    obtain ⟨h1, h2⟩ := pins_of_records (s := s) (t := s.takeSlot i c)
      (fun j => by
        rw [hslot]; split
        · rename_i hij; rw [← hij, hfree]; exact hdeg
        · rfl)
      (fun j p => by
        rw [hslot]; split
        · rename_i hij; rw [← hij, hfree]; simp [ho]
        · rfl)
    exact pinsFollow_of_records hflags h1 h2 hs
  · obtain ⟨e1, e2, e3⟩ := counts_congr (s := s) (t := s.takeSlot i c) (fun _ => .refl _) (fun _ => rfl) ((s.takeSlot i c).handleOf j)
    rw [e1, e2, e3]
    rw [hslot] at hd
    split at hd
    · rename_i hij
      cases hd
      have hun := hf i hfree
      have hnone : ∀ ep ∈ s.endpoints.cells, ep.lists ((s.takeSlot i c).handleOf j) = false := fun ep hep => by
        obtain ⟨e, -, rfl⟩ := Table.exists_get_of_mem (Endpoint.initial 0) hep
        exact hun.lists e _ hij.symm
      have hlist : s.listingCount ((s.takeSlot i c).handleOf j) = 0 := List.countP_eq_zero.2 fun ep hep => by rw [hnone ep hep]; simp
      have hheard : s.heardCount ((s.takeSlot i c).handleOf j) = 0 := List.countP_eq_zero.2 fun ep hep => by
        have h0 := hnone ep hep
        have hadm : ep.admits ((s.takeSlot i c).handleOf j) = false := by
          unfold Endpoint.lists at h0
          unfold Endpoint.admits
          simp only [Bool.or_eq_false_iff] at h0 ⊢
          exact h0.1.1
        simp [hadm]
      exact ⟨hl.trans hlist.symm, hh.trans hheard.symm, fun a ha => absurd ha (hna a)⟩
    · rename_i hij
      rw [State.handleOf, hslot, if_neg hij]
      exact hs j d hd

theorem openSource_part {f : OpenFields} {t : CallType} {lanes : List Nat} {part : CallPart} (ho : openSource f t = some (lanes, part)) :
    ∀ a, part ≠ .alarm a := by
  rintro a rfl
  obtain ⟨ht, hna⟩ := openSource_type ho (p := .system) (sw := Sweep.start .opening .system true [] 0)
  exact hna (ht.symm.trans rfl)

theorem keepsUp_openCall (s : State) (p : Port) (f : OpenFields) : KeepsUp s (takeOpenCall p f s) := by
  unfold takeOpenCall
  split
  · exact (quiet_refuse _ _ _).keepsUp
  · split
    · exact (quiet_refuse _ _ _).keepsUp
    · rename_i ho
      split
      · exact (quiet_refuse _ _ _).keepsUp
      · split
        · exact (quiet_refuse _ _ _).keepsUp
        · unfold State.openWith
          split
          · exact (quiet_refuse _ _ _).keepsUp
          · dsimp only
            split
            · exact (quiet_answer _ _ _ _).keepsUp
            · split
              · exact (quiet_refuse _ _ _).keepsUp
              · rename_i i hi
                have hfree : (s.slot i).record = none := by simpa using List.find?_some hi
                have hlt : i < 60 := List.mem_range.1 (List.mem_of_find?_eq_some hi)
                refine KeepsUp.then (keepsUp_takeSlot ?_ hfree ?_ rfl rfl rfl) ((quiet_bindHold _ _ _).trans (quiet_enterPhase _ _ _))
                · omega
                · exact openSource_part ho

theorem quiet_beginSweep (s : State) (p : Port) (h : Handle) (sw : Sweep) : Quiet s (s.beginSweep p h sw) :=
  (quiet_updCall (f := fun c => { c with sweep := some sw }) fun _ _ => readsAs_of_eq rfl rfl rfl rfl rfl).trans (quiet_enterPhase _ _ _)

theorem quiet_addTargets (s : State) (p : Port) (h : Handle) (ds : List Descriptor) : Quiet s (takeAddTargets p h ds s) := by
  unfold takeAddTargets
  split
  · exact quiet_refuse _ _ _
  · split
    · exact quiet_refuse _ _ _
    · dsimp only
      split
      · exact quiet_answer _ _ _ _
      · exact quiet_beginSweep _ _ _ _

theorem quiet_dropTargets (s : State) (p : Port) (h : Handle) (ds : List Descriptor) : Quiet s (takeDropTargets p h ds s) := by
  unfold takeDropTargets
  split
  · exact quiet_refuse _ _ _
  · split
    · exact quiet_refuse _ _ _
    · dsimp only
      split
      · exact quiet_answer _ _ _ _
      · exact quiet_beginSweep _ _ _ _

theorem refit_service (x : EpCtx) (c : ListClass) (ep : Endpoint) : (ep.refit x c).service = ep.service :=
  (Endpoint.service_of_standing (Endpoint.refit_standing x c ep)).1

theorem quiet_setGain (s : State) (h : Handle) (c : Call) (g : Nat) : Quiet s (s.setGain h c g) := by
  refine (quiet_updCall (h := h) (f := fun c => { c with gain := g }) fun _ _ => readsAs_of_eq rfl rfl rfl rfl rfl).trans ?_
  unfold State.setGain
  generalize (s.updCall h fun c => { c with gain := g }) = u
  refine quiet_endpoints rfl fun e he => ?_
  have hep : (u.refitCall h c.type.listClass).ep e = if (u.ep e).admits h then (u.ep e).refit u.ctx c.type.listClass else u.ep e :=
    Table.get_map (fun ep : Endpoint => if ep.admits h then ep.refit u.ctx c.type.listClass else ep) _ _ _ _ he
  rw [hep]
  split
  · exact ⟨refit_same _ _ _, refit_service _ _ _⟩
  · exact ⟨.refl _, rfl⟩

theorem quiet_setOverride (s : State) (h : Handle) (c : Call) (e : Nat) (g : Option Nat) : Quiet s (s.setOverride h c e g) := by
  have hu : SamePlaces ((s.ep e).updListing h fun l => { l with override := g }) (s.ep e) :=
    updListing_same h (f := fun l => { l with override := g }) (fun _ => rfl) _
  unfold State.setOverride
  dsimp only
  split
  · exact quiet_setEp ((refit_same _ _ _).trans hu) (refit_service _ _ _)
  · exact quiet_setEp hu rfl

theorem quiet_setCallGain (s : State) (p : Port) (h : Handle) (a g e : Nat) : Quiet s (takeSetCallGain p h a g e s) := by
  unfold takeSetCallGain
  split
  · exact quiet_refuse _ _ _
  · split
    · exact (quiet_setGain _ _ _ _).trans (quiet_answer _ _ _ _)
    · split
      · exact (quiet_setOverride _ _ _ _ _).trans (quiet_answer _ _ _ _)
      · exact quiet_refuse _ _ _
    · split
      · exact (quiet_setOverride _ _ _ _ _).trans (quiet_answer _ _ _ _)
      · exact quiet_refuse _ _ _
    · exact quiet_refuse _ _ _

theorem keepsUp_retireCall (s : State) (p : Port) (h : Handle) : KeepsUp s (takeRetireCall p h s) := by
  unfold takeRetireCall
  split
  · exact (quiet_refuse _ _ _).keepsUp
  · split
    · exact (quiet_refuse _ _ _).keepsUp
    · exact keepsUp_settle _ _ _

theorem keepsUp_collectEnd (s : State) (p : Port) (h : Handle) : KeepsUp s (takeCollectEnd p h s) := by
  unfold takeCollectEnd
  split
  · exact (quiet_refuse _ _ _).keepsUp
  · dsimp only
    split
    · exact keepsUp_settle _ _ _
    · exact (quiet_answer _ _ _ _).keepsUp

/-- A TALK takes a new talk part. -/
theorem readsAs_talkPart {c : Call} {t t' : TalkPart} (h : c.part = .talk t) : ReadsAs c { c with part := .talk t' } :=
  ⟨by simp only [Call.degrades, h], rfl, rfl, rfl, rfl, nofun⟩

theorem quiet_setMuted {s : State} {h : Handle} {c : Call} {t : TalkPart} (hc : s.call h = some c) (ht : c.part = .talk t) (e : Nat)
    (f : Bool) : Quiet s (s.setMuted h t e f) := by
  unfold State.setMuted
  refine (quiet_updCall fun d hd => ?_).trans (quiet_setEp (updListing_same h (f := fun l => { l with muted := f }) (fun _ => rfl) _) rfl)
  rw [hc] at hd
  cases hd
  exact readsAs_talkPart ht

theorem quiet_setParticipant (s : State) (p : Port) (h : Handle) (e muted : Nat) : Quiet s (takeSetParticipant p h e muted s) := by
  unfold takeSetParticipant
  split
  · exact quiet_refuse _ _ _
  · rename_i c hcf
    obtain ⟨hc, -⟩ := callFor_spec hcf
    split
    · rename_i t f ht _
      split
      · split
        · exact (quiet_setMuted hc ht e f).trans (quiet_answer _ _ _ _)
        · exact quiet_refuse _ _ _
      · exact quiet_refuse _ _ _
    · exact quiet_refuse _ _ _

/-! ## The other requests -/

/-- Fields that nothing here reads are written, and the request is answered. -/
theorem quiet_written {s u : State} (p : Port) (a : AnswerCode) (d : List Byte) (h : Quiet s u) : Quiet s (u.answer p a d) :=
  h.trans (quiet_answer _ _ _ _)

theorem keepsUp_setEndpoint (s : State) (p : Port) (e : Nat) (fireZone role enabled alarmTrim : Option Nat) :
    KeepsUp s (takeSetEndpoint p e fireZone role enabled alarmTrim s) := by
  unfold takeSetEndpoint
  split
  · exact (quiet_refuse _ _ _).keepsUp
  · split
    · exact (quiet_refuse _ _ _).keepsUp
    · split
      · exact (quiet_refuse _ _ _).keepsUp
      · split
        · split
          · exact (quiet_refuse _ _ _).keepsUp
          · exact keepsUp_settle _ _ _
        · exact (quiet_refuse _ _ _).keepsUp

theorem quiet_setLocalTrim (s : State) (p : Port) (e trim : Nat) : Quiet s (takeSetLocalTrim p e trim s) := by
  unfold takeSetLocalTrim
  split
  · have h1 : SamePlaces { s.ep e with localTrim := min trim Config.unity } (s.ep e) := same_of_places rfl rfl rfl rfl
    exact quiet_written p _ _ (quiet_setEp ((refit_same _ _ _).trans h1) (refit_service _ _ _))
  · exact quiet_refuse _ _ _

theorem quiet_setDeck (s : State) (p : Port) (d first count : Nat) : Quiet s (takeSetDeck p d first count s) := by
  have h1 : ∀ x, Quiet s (s.setDeck d x) := fun x => quiet_of_eq rfl rfl rfl rfl rfl rfl rfl rfl
  unfold takeSetDeck
  split
  · exact quiet_refuse _ _ _
  · split
    · exact quiet_written p _ _ (h1 _)
    · split
      · exact quiet_refuse _ _ _
      · split
        · exact quiet_refuse _ _ _
        · exact quiet_written p _ _ (h1 _)

theorem quiet_queryEndpoint (s : State) (p : Port) (e : Nat) : Quiet s (takeQueryEndpoint p e s) := by
  unfold takeQueryEndpoint
  split
  · exact quiet_refuse _ _ _
  · refine quiet_written p _ _ ?_
    exact quiet_of_eq rfl rfl rfl rfl rfl rfl rfl rfl

theorem quiet_setBank (s : State) (p : Port) (bank : Nat) (ds : List Descriptor) (trim depth : Option Nat) :
    Quiet s (takeSetBank p bank ds trim depth s) := by
  unfold takeSetBank
  split
  · exact quiet_refuse _ _ _
  · split
    · exact quiet_refuse _ _ _
    · split
      · exact quiet_refuse _ _ _
      · rename_i bk _ _ _ ts _
        split
        · exact quiet_refuse _ _ _
        · refine quiet_written p _ _ (quiet_endpoints rfl fun e he => ?_)
          have hep : (s.writeBank (s.expandAll ts) bk trim depth).ep e =
              if (s.expandAll ts).contains e then (s.ep e).writeBank bk trim depth else s.ep e :=
            Table.get_mapIdx (fun e (ep : Endpoint) => if (s.expandAll ts).contains e then ep.writeBank bk trim depth else ep) _ _ _ _ he
          rw [hep]
          split
          · exact ⟨writeBank_same _ _ _ _, by cases bk <;> rfl⟩
          · exact ⟨.refl _, rfl⟩

theorem quiet_bankSwap (s : State) (p : Port) : Quiet s (takeBankSwap p s) := by
  unfold takeBankSwap
  split
  · exact quiet_refuse _ _ _
  · refine Quiet.trans ?_ (quiet_enterPhase _ _ _)
    exact quiet_of_eq rfl rfl rfl rfl rfl rfl rfl rfl

theorem quiet_setMixMode (s : State) (p : Port) (mode : Nat) : Quiet s (takeSetMixMode p mode s) := by
  unfold takeSetMixMode
  split
  · exact quiet_refuse _ _ _
  · refine quiet_written p _ _ ?_
    exact quiet_of_eq rfl rfl rfl rfl rfl rfl rfl rfl

theorem quiet_setHold (s : State) (p : Port) (o : Nat) (delay : Option Nat) : Quiet s (takeSetHold p o delay s) := by
  unfold takeSetHold
  split
  · exact quiet_refuse _ _ _
  · refine quiet_written p _ _ ?_
    exact quiet_of_eq rfl rfl rfl rfl rfl rfl rfl rfl

theorem keepsUp_definePhrase (s : State) (p : Port) (id start length check : Nat) :
    KeepsUp s (takeDefinePhrase p id start length check s) := by
  unfold takeDefinePhrase
  split
  · exact (quiet_refuse _ _ _).keepsUp
  · split
    · exact (quiet_refuse _ _ _).keepsUp
    · split
      · exact (quiet_refuse _ _ _).keepsUp
      · exact keepsUp_refresh _ _

theorem keepsUp_retirePhrase (s : State) (p : Port) (id : Nat) : KeepsUp s (takeRetirePhrase p id s) := by
  unfold takeRetirePhrase
  split
  · exact (quiet_refuse _ _ _).keepsUp
  · split
    · exact (quiet_refuse _ _ _).keepsUp
    · split
      · exact (quiet_answer _ _ _ _).keepsUp
      · exact keepsUp_refresh _ _

theorem quiet_beginCheck (s : State) : Quiet s s.beginCheck := by
  unfold State.beginCheck
  dsimp only
  split <;> exact quiet_of_eq rfl rfl rfl rfl rfl rfl rfl rfl

theorem quiet_queuePhrase (s : State) (id : Nat) : Quiet s (s.queuePhrase id) := by
  have h1 : Quiet s { s with verifyQueue := s.verifyQueue ++ [id] } := quiet_of_eq rfl rfl rfl rfl rfl rfl rfl rfl
  unfold State.queuePhrase
  dsimp only
  split
  · exact h1.trans (quiet_beginCheck _)
  · exact h1

theorem quiet_verifyPhrase (s : State) (p : Port) (id : Nat) : Quiet s (takeVerifyPhrase p id s) := by
  unfold takeVerifyPhrase
  split
  · exact quiet_refuse _ _ _
  · split
    · exact quiet_refuse _ _ _
    · split
      · exact quiet_answer _ _ _ _
      · split
        · exact quiet_refuse _ _ _
        · exact quiet_written p _ _ (quiet_queuePhrase s id)

theorem quiet_defineAlarm (s : State) (p : Port) (id mark : Nat) (fields : Option AlarmFields) :
    Quiet s (takeDefineAlarm p id mark fields s) := by
  unfold takeDefineAlarm
  split
  · exact quiet_refuse _ _ _
  · split
    · exact quiet_refuse _ _ _
    · split
      · exact quiet_refuse _ _ _
      · split
        · exact quiet_refuse _ _ _
        · refine quiet_written p _ _ ?_
          exact quiet_of_eq rfl rfl rfl rfl rfl rfl rfl rfl

theorem keepsUp_startAlarm (s : State) (p : Port) (id : Nat) : KeepsUp s (takeStartAlarm p id s) := by
  unfold takeStartAlarm
  dsimp only
  split
  · exact keepsUp_settle _ _ _
  · exact (quiet_answer _ _ _ _).keepsUp

theorem quiet_setTrigger (s : State) (i : Nat) (x : Trigger) : Quiet s (s.setTrigger i x) := quiet_of_eq rfl rfl rfl rfl rfl rfl rfl rfl

theorem quiet_takeSetTrigger (s : State) (p : Port) (i program mode : Nat) : Quiet s (takeSetTrigger p i program mode s) := by
  unfold takeSetTrigger
  split
  · exact quiet_refuse _ _ _
  · split
    · exact quiet_refuse _ _ _
    · split
      · exact quiet_refuse _ _ _
      · exact quiet_written p _ _ (quiet_setTrigger _ _ _)

theorem quiet_setSupervision (s : State) (p : Port) (tolerance confirm recover forget : Option Nat) :
    Quiet s (takeSetSupervision p tolerance confirm recover forget s) := by
  unfold takeSetSupervision
  split
  · exact quiet_refuse _ _ _
  · split
    · exact quiet_refuse _ _ _
    · refine quiet_written p _ _ ?_
      cases forget <;> exact quiet_of_eq rfl rfl rfl rfl rfl rfl rfl rfl

theorem quiet_learnLine (s : State) (p : Port) (c : Nat) : Quiet s (takeLearnLine p c s) := by
  unfold takeLearnLine
  split
  · exact quiet_refuse _ _ _
  · split
    · exact quiet_refuse _ _ _
    · exact quiet_enterPhase _ _ _

theorem quiet_setSeverity (s : State) (p : Port) (kind severity : Nat) : Quiet s (takeSetSeverity p kind severity s) := by
  unfold takeSetSeverity
  split
  · exact quiet_refuse _ _ _
  · split
    · exact quiet_refuse _ _ _
    · refine quiet_written p _ _ ?_
      exact quiet_of_eq rfl rfl rfl rfl rfl rfl rfl rfl

theorem quiet_setActions (s : State) (p : Port) (severity : Nat) (fallback attention : Option Nat) :
    Quiet s (takeSetActions p severity fallback attention s) := by
  unfold takeSetActions
  split
  · split
    · exact quiet_refuse _ _ _
    · refine quiet_written p _ _ ?_
      exact quiet_of_eq rfl rfl rfl rfl rfl rfl rfl rfl
  · exact quiet_refuse _ _ _

theorem keepsUp_faultNext (s : State) (p : Port) (restart : Nat) : KeepsUp s (takeFaultNext p restart s) := by
  unfold takeFaultNext
  split
  · exact (quiet_refuse _ _ _).keepsUp
  · exact keepsUp_refresh _ _

theorem keepsUp_faultAck (s : State) (p : Port) (source number kind : Nat) : KeepsUp s (takeFaultAck p source number kind s) := by
  unfold takeFaultAck
  split
  · split
    · exact keepsUp_refresh _ _
    · exact (quiet_refuse _ _ _).keepsUp
  · exact (quiet_refuse _ _ _).keepsUp

theorem quiet_setPin (s : State) (p : Port) (o mode severity level : Nat) : Quiet s (takeSetPin p o mode severity level s) := by
  unfold takeSetPin
  split
  · exact quiet_refuse _ _ _
  · split
    · exact quiet_refuse _ _ _
    · split
      · exact quiet_refuse _ _ _
      · refine quiet_written p _ _ ?_
        exact quiet_of_eq rfl rfl rfl rfl rfl rfl rfl rfl

theorem quiet_pinAck (s : State) (p : Port) (o : Nat) : Quiet s (takePinAck p o s) := by
  unfold takePinAck
  split
  · exact quiet_refuse _ _ _
  · refine quiet_written p _ _ ?_
    exact quiet_of_eq rfl rfl rfl rfl rfl rfl rfl rfl

/-! ## Events -/

theorem quiet_setPlayer (s : State) (i : Nat) (x : Player) : Quiet s (s.setPlayer i x) := quiet_of_eq rfl rfl rfl rfl rfl rfl rfl rfl

theorem quiet_repeatGapEnd (s : State) (i : Nat) : Quiet s (s.repeatGapEnd i) := by
  unfold State.repeatGapEnd
  split
  · split
    · split
      · exact quiet_setPlayer _ _ _
      · exact .refl s
    · exact .refl s
  · exact .refl s

theorem quiet_warbleSwitch (s : State) (i : Nat) : Quiet s (s.warbleSwitch i) := by
  unfold State.warbleSwitch
  split
  · split
    · exact quiet_of_eq rfl rfl rfl rfl rfl rfl rfl rfl
    · exact .refl s
  · exact .refl s

/-- A state with no records, no faults and its pins released. -/
theorem keepsUp_cleared {s t : State} (hr : ∀ i, (t.slot i).record = none) (hd : t.degraded = false) (ho : t.overflow = false)
    (hf : t.faults = []) (ha : t.activeFaults = []) (hs : t.system = .initial) (hb : t.bridge = .initial) : KeepsUp s t := by
  have hno : ∀ sl ∈ t.calls.cells, sl.record = none := fun sl hsl => by
    obtain ⟨i, -, rfl⟩ := Table.exists_get_of_mem CallSlot.initial hsl
    exact hr i
  refine ⟨fun _ => ⟨?_, ?_, fun p => ⟨?_, ?_⟩⟩, fun _ _ i c hc => by rw [hr] at hc; cases hc⟩
  · rw [hd, State.degradedNow, eq_comm, List.any_eq_false]
    intro sl hsl; rw [hno sl hsl]; simp
  · simp [ho, State.overflowNow, ha]
  · have hz : t.endsNow p = 0 := List.countP_eq_zero.2 fun sl hsl => by rw [hno sl hsl]; simp
    rw [hz]
    cases p <;> simp [hs, hb, PortRec.initial]
  · cases p <;> simp [State.attentionNow, hs, hb, hf, hd, PortRec.initial]

/-! ## Every command -/

/-- A request whose owner's work changes nothing that the pins and counts read. -/
theorem keepsUp_requested {s : State} {p : Port} {o : Owner} {c : Instr} {take : State → State} (h : ∀ u, Quiet u (take u)) :
    KeepsUp s (s.request p o c take) := keepsUp_request fun u => (h u).keepsUp

/-- Every command keeps the pins and counts following the records. -/
theorem exec_keepsUp (s : State) (c : Instr) : ∃ t, exec c s = .next t ∧ KeepsUp s t := by
  cases c with
  | powerOn => exact ⟨_, rfl, keepsUp_cleared (fun i => by rw [slot_initial rfl]; rfl) rfl rfl rfl rfl rfl rfl⟩
  | resetInput =>
    refine ⟨_, rfl, keepsUp_cleared (fun i => ?_) rfl rfl rfl rfl rfl rfl⟩
    by_cases hi : i < 64
    · exact congrArg CallSlot.record (Table.get_map (fun sl : CallSlot => (⟨sl.gen, none⟩ : CallSlot)) s.calls i .initial .initial hi)
    · rw [slot_of_le (Nat.not_lt.1 hi)]; rfl
  | bridgeByteReceived byte err =>
    refine ⟨_, rfl, Quiet.keepsUp ?_⟩
    have h1 := fun x => quiet_setPort (s := s) (p := .bridge) (assembled_pins s.bridge x).1 (assembled_pins s.bridge x).2
    split
    · exact (h1 _).trans (quiet_frameIn _ _ _)
    · exact h1 _
  | bridgeInterbyteTimeout => exact ⟨_, rfl, (quiet_setPort (p := .bridge) (gap_pins s.bridge).1 (gap_pins s.bridge).2).keepsUp⟩
  | bridgeAnswerSent => exact ⟨_, rfl, (quiet_setPort (p := .bridge) (r := s.bridge.dropAnswer) rfl rfl).keepsUp⟩
  | systemPeriodEnd inward shown =>
    refine ⟨_, rfl, Quiet.keepsUp ?_⟩
    have h1 := fun n b => quiet_setPort (s := s) (p := .system) (readAnswer_pins s.system n b).1 (readAnswer_pins s.system n b).2
    split
    · exact h1 _ _
    · exact (h1 _ _).trans (quiet_setPort rfl rfl)
    · exact (h1 _ _).trans (quiet_frameIn _ _ _)
  | status p tag =>
    refine ⟨_, rfl, Quiet.keepsUp ((quiet_present s p (.status p tag)).trans ?_)⟩
    exact (quiet_takeStatus _ _).ite
  | setEndpoint p tag e f r n a => exact ⟨_, rfl, keepsUp_request fun _ => keepsUp_setEndpoint _ _ _ _ _ _ _⟩
  | setLocalTrim p tag e t => exact ⟨_, rfl, keepsUp_requested fun _ => quiet_setLocalTrim _ _ _ _⟩
  | setDeck p tag d f n => exact ⟨_, rfl, keepsUp_requested fun _ => quiet_setDeck _ _ _ _ _⟩
  | queryEndpoint p tag e => exact ⟨_, rfl, keepsUp_requested fun _ => quiet_queryEndpoint _ _ _⟩
  | setBank p tag k ds t d => exact ⟨_, rfl, keepsUp_requested fun _ => quiet_setBank _ _ _ _ _ _⟩
  | bankSwap p tag => exact ⟨_, rfl, keepsUp_requested fun _ => quiet_bankSwap _ _⟩
  | openCall p tag f => exact ⟨_, rfl, keepsUp_request fun _ => keepsUp_openCall _ _ _⟩
  | addTargets p tag h ds => exact ⟨_, rfl, keepsUp_requested fun _ => quiet_addTargets _ _ _ _⟩
  | dropTargets p tag h ds => exact ⟨_, rfl, keepsUp_requested fun _ => quiet_dropTargets _ _ _ _⟩
  | setCallGain p tag h a g e => exact ⟨_, rfl, keepsUp_requested fun _ => quiet_setCallGain _ _ _ _ _ _⟩
  | retireCall p tag h => exact ⟨_, rfl, keepsUp_request fun _ => keepsUp_retireCall _ _ _⟩
  | queryCall p tag h => exact ⟨_, rfl, keepsUp_requested fun u => by unfold takeQueryCall; split <;> exact quiet_answer _ _ _ _⟩
  | collectEnd p tag h => exact ⟨_, rfl, keepsUp_request fun _ => keepsUp_collectEnd _ _ _⟩
  | clearCalls p tag => exact ⟨_, rfl, keepsUp_request fun _ => keepsUp_settle _ _ _⟩
  | setParticipant p tag h e m => exact ⟨_, rfl, keepsUp_requested fun _ => quiet_setParticipant _ _ _ _ _⟩
  | setMixMode p tag m => exact ⟨_, rfl, keepsUp_requested fun _ => quiet_setMixMode _ _ _⟩
  | setHold p tag o d => exact ⟨_, rfl, keepsUp_requested fun _ => quiet_setHold _ _ _ _⟩
  | definePhrase p tag i st n k => exact ⟨_, rfl, keepsUp_request fun _ => keepsUp_definePhrase _ _ _ _ _ _⟩
  | retirePhrase p tag i => exact ⟨_, rfl, keepsUp_request fun _ => keepsUp_retirePhrase _ _ _⟩
  | queryPhrase p tag i => exact ⟨_, rfl, keepsUp_requested fun u => by unfold takeQueryPhrase; split <;> exact quiet_answer _ _ _ _⟩
  | verifyPhrase p tag i => exact ⟨_, rfl, keepsUp_requested fun _ => quiet_verifyPhrase _ _ _⟩
  | defineAlarm p tag i m f => exact ⟨_, rfl, keepsUp_requested fun _ => quiet_defineAlarm _ _ _ _ _⟩
  | queryAlarm p tag i => exact ⟨_, rfl, keepsUp_requested fun u => by unfold takeQueryAlarm; split <;> exact quiet_answer _ _ _ _⟩
  | startAlarm p tag i => exact ⟨_, rfl, keepsUp_request fun _ => keepsUp_startAlarm _ _ _⟩
  | setTrigger p tag i g m => exact ⟨_, rfl, keepsUp_requested fun _ => quiet_takeSetTrigger _ _ _ _ _⟩
  | setSupervision p tag a b c d => exact ⟨_, rfl, keepsUp_requested fun _ => quiet_setSupervision _ _ _ _ _ _⟩
  | learnLine p tag c => exact ⟨_, rfl, keepsUp_requested fun _ => quiet_learnLine _ _ _⟩
  | queryChannel p tag c => exact ⟨_, rfl, keepsUp_requested fun u => by unfold takeQueryChannel; split <;> exact quiet_answer _ _ _ _⟩
  | setSeverity p tag k v => exact ⟨_, rfl, keepsUp_requested fun _ => quiet_setSeverity _ _ _ _⟩
  | setActions p tag v f a => exact ⟨_, rfl, keepsUp_requested fun _ => quiet_setActions _ _ _ _ _⟩
  | faultNext p tag r => exact ⟨_, rfl, keepsUp_request fun _ => keepsUp_faultNext _ _ _⟩
  | faultAck p tag a n k => exact ⟨_, rfl, keepsUp_request fun _ => keepsUp_faultAck _ _ _ _ _⟩
  | setPin p tag o m v l => exact ⟨_, rfl, keepsUp_requested fun _ => quiet_setPin _ _ _ _ _ _⟩
  | pinAck p tag o => exact ⟨_, rfl, keepsUp_requested fun _ => quiet_pinAck _ _ _⟩
  | sweepDelivery i =>
    refine ⟨_, rfl, ?_⟩
    split
    · exact (Quiet.refl s).keepsUp
    · split
      · exact (Quiet.refl s).keepsUp
      · split
        · exact keepsUp_settle _ _ _
        · exact (Quiet.refl s).keepsUp
  | dropSweepRemoval i =>
    refine ⟨_, rfl, ?_⟩
    split
    · exact (Quiet.refl s).keepsUp
    · split
      · exact (Quiet.refl s).keepsUp
      · split
        · exact keepsUp_settle _ _ _
        · exact (Quiet.refl s).keepsUp
  | audioFrameBoundary f => exact ⟨_, rfl, keepsUp_settle _ _ _⟩
  | acquireTimeout i =>
    refine ⟨_, rfl, ?_⟩
    split
    · exact keepsUp_refresh _ _
    · exact (Quiet.refl s).keepsUp
  | messagePhraseEnd i => exact ⟨_, rfl, keepsUp_ite (keepsUp_settle _ _ _)⟩
  | repeatGapEnd i => exact ⟨_, rfl, (quiet_repeatGapEnd _ _).keepsUp⟩
  | alarmPhraseComplete i => exact ⟨_, rfl, keepsUp_ite (keepsUp_settle _ _ _)⟩
  | alarmStepEnd i => exact ⟨_, rfl, keepsUp_ite (keepsUp_settle _ _ _)⟩
  | warbleSwitch i => exact ⟨_, rfl, (quiet_warbleSwitch _ _).keepsUp⟩
  | endExpiry i g =>
    refine ⟨_, rfl, keepsUp_ite ?_⟩
    dsimp only
    split
    · exact keepsUp_settle _ _ _
    · exact (quiet_of_eq rfl rfl rfl rfl rfl rfl rfl rfl : Quiet s (s.stopExpiry ⟨i, g⟩)).keepsUp
  | holdReleaseTimeout o => exact ⟨_, rfl, keepsUp_ite (Quiet.keepsUp (quiet_of_eq rfl rfl rfl rfl rfl rfl rfl rfl))⟩
  | triggerPinChange i a => exact ⟨_, rfl, (quiet_setTrigger _ _ _).keepsUp⟩
  | debounceExpiry i => exact ⟨_, rfl, keepsUp_ite (keepsUp_settle _ _ _)⟩
  | verifyBlockRead n =>
    refine ⟨_, rfl, ?_⟩
    split
    · exact (Quiet.refl s).keepsUp
    · exact keepsUp_settle _ _ _
  | supervisionReading c code pr sg => exact ⟨_, rfl, keepsUp_settle _ _ _⟩
  | learnTimeout p => exact ⟨_, rfl, (quiet_answer _ _ _ _).ite.keepsUp⟩
  | scanTimeoutExpiry => exact ⟨_, rfl, keepsUp_ite (keepsUp_refresh _ _)⟩
  | switchTimerExpiry z =>
    refine ⟨_, rfl, ?_⟩
    split
    · exact keepsUp_settle _ _ _
    · exact (Quiet.refl s).keepsUp

theorem step_keepsUp {s t : State} (h : step s = .next t) : KeepsUp s t := by
  unfold step at h
  split at h
  · cases h; exact (Quiet.refl s).keepsUp
  · rename_i c rest _
    obtain ⟨u, hu, hk⟩ := exec_keepsUp { s with pending := rest } c
    rw [hu] at h
    cases h
    exact (quiet_of_eq rfl rfl rfl rfl rfl rfl rfl rfl : Quiet s { s with pending := rest }).then hk

/-- Settles O14: command by command, from what refreshes and what leaves everything as the pins and counts read it. -/
theorem pinsAndCountsFollowRecords : Obligations.PinsAndCountsFollowRecords :=
  ⟨fun _ _ hp h => (step_keepsUp h).1 hp, fun _ _ _ hl hc h => (step_keepsUp h).2 (freeUnlisted_of_listingsOk hl) hc⟩

end Sys2Proof.Calls
end

section
/-! PROOFS. The settling of an event in which no start is pending: each record keeps its fields but the playback of a message, the counts
and the passage from ENDING to ENDED, which starts the expiry timer (02 R27, R28; 07 R134, R137). -/

namespace Sys2Proof.Calls

open Sys2Proof.Machine

/-- The part `q` is `p` but for the playback of a message that plays on and the unserved count of an alarm. -/
structure KeepsPart (p q : CallPart) : Prop where
  talk : ∀ k, p = .talk k → q = .talk k
  finished : ∀ m, p = .message m → m.player = none → m.playback = .finished → q = .message m
  message : ∀ m, p = .message m → ∃ m', q = .message m'
  alarm : ∀ a, p = .alarm a → ∃ n, q = .alarm { a with unserved := n }
  page : p = .page → q = .page
  program : ∀ o lv, p = .program o lv → q = .program o lv

theorem KeepsPart.refl (p : CallPart) : KeepsPart p p :=
  ⟨fun _ h => h, fun _ h _ _ => h, fun m h => ⟨m, h⟩, fun a h => ⟨a.unserved, h⟩, id, fun _ _ h => h⟩

theorem KeepsPart.trans {p q r : CallPart} (h : KeepsPart p q) (h' : KeepsPart q r) : KeepsPart p r where
  talk k hp := h'.talk k (h.talk k hp)
  finished m hp hn hf := h'.finished m (h.finished m hp hn hf) hn hf
  message m hp := by
    obtain ⟨m', hm'⟩ := h.message m hp
    exact h'.message m' hm'
  alarm a hp := by
    obtain ⟨n, hn⟩ := h.alarm a hp
    obtain ⟨n', hn'⟩ := h'.alarm _ hn
    exact ⟨n', hn'⟩
  page hp := h'.page (h.page hp)
  program o lv hp := h'.program o lv (h.program o lv hp)

theorem keepsPart_message {m m' : MessagePart} (h : m.player.isSome = true ∨ m.playback ≠ .finished) :
    KeepsPart (.message m) (.message m') := by
  refine ⟨nofun, fun _ hm hn hf => ?_, fun _ _ => ⟨m', rfl⟩, nofun, nofun, nofun⟩
  cases hm
  rcases h with h | h
  · rw [hn] at h; cases h
  · exact absurd hf h

theorem type_of_part {c d : Call} (h : KeepsPart c.part d.part) : d.type = c.type := by
  unfold Call.type
  cases hp : c.part with
  | program o lv => rw [h.program o lv hp]
  | page => rw [h.page hp]
  | message m => obtain ⟨m', hm'⟩ := h.message m hp; rw [hm']
  | talk k => rw [h.talk k hp]
  | alarm a => obtain ⟨n, hn⟩ := h.alarm a hp; rw [hn]

/-- The record `d` is what settling in `s` makes of the record `c` of call `h`. -/
structure SettlesTo (s : State) (h : Handle) (c d : Call) : Prop where
  fields : d = { c with
    state := d.state, endSeq := d.endSeq, part := d.part, listingCount := d.listingCount, heardCount := d.heardCount }
  state : d.state = c.state ∨ (c.state = .ending ∧ s.sounds h = false ∧ d.state = .ended)
  part : KeepsPart c.part d.part

theorem SettlesTo.refl (s : State) (h : Handle) (c : Call) : SettlesTo s h c c := ⟨rfl, .inl rfl, .refl _⟩

theorem SettlesTo.trans {s t : State} {h : Handle} {c d e : Call} (hs : t.sounds h = s.sounds h) (h1 : SettlesTo s h c d)
    (h2 : SettlesTo t h d e) : SettlesTo s h c e where
  fields := by rw [h2.fields, h1.fields]
  state := by
    rcases h1.state with h1 | ⟨ha, hb, hc⟩
    · rcases h2.state with h2 | ⟨hd, he, hf⟩
      · exact .inl (h2.trans h1)
      · exact .inr ⟨h1 ▸ hd, hs ▸ he, hf⟩
    · rcases h2.state with h2 | ⟨hd, -, -⟩
      · exact .inr ⟨ha, hb, h2.trans hc⟩
      · rw [hc] at hd; cases hd
  part := h1.part.trans h2.part

theorem SettlesTo.sweep {s : State} {h : Handle} {c d : Call} (hs : SettlesTo s h c d) : d.sweep = c.sweep := by rw [hs.fields]
theorem SettlesTo.reason {s : State} {h : Handle} {c d : Call} (hs : SettlesTo s h c d) : d.reason = c.reason := by rw [hs.fields]
theorem SettlesTo.type {s : State} {h : Handle} {c d : Call} (hs : SettlesTo s h c d) : d.type = c.type := type_of_part hs.part

/-- The expiry timer that starts as call `h` becomes ENDED (02 R28). -/
def endTimer (h : Handle) : Expiry := ⟨h.slot, h.gen, .running 240000⟩

/-- From `s` to `t` the records settle and the endpoints stay; the timers of the calls that become ENDED start, and no other. -/
structure Settles (s t : State) : Prop where
  endpoints : t.endpoints = s.endpoints
  gens : ∀ i, (t.slot i).gen = (s.slot i).gen
  records : ∀ i, Option.Rel (SettlesTo s (s.handleOf i)) (s.slot i).record (t.slot i).record
  started : ∃ l, t.expiries = s.expiries ++ l ∧
    ∀ x ∈ l, ∃ h c, s.call h = some c ∧ c.state = .ending ∧ s.sounds h = false ∧ x = endTimer h
  timed : ∀ i c d, (s.slot i).record = some c → (t.slot i).record = some d → c.state = .ending → d.state = .ended →
    endTimer (s.handleOf i) ∈ t.expiries

theorem rel_settles_refl (s : State) (h : Handle) (o : Option Call) : Option.Rel (SettlesTo s h) o o := by
  cases o
  · exact .none
  · exact .some (.refl _ _ _)

theorem Settles.refl (s : State) : Settles s s :=
  ⟨rfl, fun _ => rfl, fun _ => rel_settles_refl _ _ _, ⟨[], by simp, nofun⟩, fun i c d hc hd he hf => by
    rw [hc] at hd; cases hd; rw [he] at hf; cases hf⟩

theorem sounds_congr {s t : State} (h : t.endpoints = s.endpoints) (k : Handle) : t.sounds k = s.sounds k := by
  rw [State.sounds, State.sounds, h]

theorem Settles.record {s t : State} (h : Settles s t) {i : Nat} {c : Call} (hc : (s.slot i).record = some c) :
    ∃ d, (t.slot i).record = some d ∧ SettlesTo s (s.handleOf i) c d := by
  have hr := h.records i
  rw [hc] at hr
  generalize (t.slot i).record = o at hr
  cases hr with
  | some hcd => exact ⟨_, rfl, hcd⟩

theorem Settles.record_back {s t : State} (h : Settles s t) {i : Nat} {d : Call} (hd : (t.slot i).record = some d) :
    ∃ c, (s.slot i).record = some c ∧ SettlesTo s (s.handleOf i) c d := by
  have hr := h.records i
  rw [hd] at hr
  generalize (s.slot i).record = o at hr
  cases hr with
  | some hcd => exact ⟨_, rfl, hcd⟩

theorem Settles.handleOf {s t : State} (h : Settles s t) (i : Nat) : t.handleOf i = s.handleOf i := by
  rw [State.handleOf, State.handleOf, h.gens]

theorem Settles.free {s t : State} (h : Settles s t) {i : Nat} (hi : (s.slot i).record = none) : (t.slot i).record = none := by
  have hr := h.records i
  rw [hi] at hr
  generalize (t.slot i).record = o at hr
  cases hr
  rfl

theorem Settles.slot {s t : State} (h : Settles s t) {k : Handle} {c : Call} (hc : s.slot k.slot = ⟨k.gen, some c⟩) :
    ∃ d, t.slot k.slot = ⟨k.gen, some d⟩ ∧ SettlesTo s k c d := by
  obtain ⟨d, hd, hcd⟩ := h.record (i := k.slot) (by rw [hc])
  have hg := h.gens k.slot
  have hg' : (t.slot k.slot).gen = k.gen := by rw [hg, hc]
  have hk : s.handleOf k.slot = k := by simp [State.handleOf, hc]
  exact ⟨d, by rw [← hg', ← hd], hk ▸ hcd⟩

theorem ending_of_settled {s : State} {h : Handle} {c d : Call} (hcd : SettlesTo s h c d) (hd : d.state = .ending) : c.state = .ending := by
  rcases hcd.state with h | ⟨h, -, -⟩
  · exact h ▸ hd
  · exact h

theorem Settles.call_back {s t : State} (h : Settles s t) {k : Handle} {d : Call} (hd : t.call k = some d) :
    ∃ c, s.call k = some c ∧ SettlesTo s k c d := by
  obtain ⟨c, hc, hcd⟩ := h.record_back (record_of_call hd)
  have hk : s.handleOf k.slot = k := by rw [← h.handleOf, handleOf_eq hd]
  exact ⟨c, hk ▸ call_handleOf hc, hk ▸ hcd⟩

theorem Settles.trans {s t u : State} (h : Settles s t) (h' : Settles t u) : Settles s u where
  endpoints := h'.endpoints.trans h.endpoints
  gens i := (h'.gens i).trans (h.gens i)
  records i := by
    have h1 := h.records i
    have h2 := h'.records i
    rw [h.handleOf] at h2
    revert h1 h2
    generalize (s.slot i).record = a, (t.slot i).record = b, (u.slot i).record = c
    rintro (hab | _) (hbc | _)
    · exact .some (hab.trans (sounds_congr h.endpoints _) hbc)
    · exact .none
  started := by
    obtain ⟨l, hl, hx⟩ := h.started
    obtain ⟨l', hl', hx'⟩ := h'.started
    refine ⟨l ++ l', by rw [hl', hl, List.append_assoc], fun x hm => ?_⟩
    rcases List.mem_append.1 hm with hm | hm
    · exact hx x hm
    · obtain ⟨k, c, hc, he, hs, rfl⟩ := hx' x hm
      obtain ⟨c', hc', hcc⟩ := h.call_back hc
      exact ⟨k, c', hc', ending_of_settled hcc he, sounds_congr h.endpoints k ▸ hs, rfl⟩
  timed i c e hc he hce hee := by
    obtain ⟨d, hd, hcd⟩ := h.record hc
    rcases hcd.state with hst | ⟨-, -, hst⟩
    · have := h'.timed i d e hd he (hst.trans hce) hee
      rwa [h.handleOf] at this
    · obtain ⟨l', hl', -⟩ := h'.started
      rw [hl']
      exact List.mem_append_left _ (h.timed i c d hc hd hce hst)

/-! ## Players -/

/-- The playback of one message is written, whatever else of the players. -/
theorem settles_updMessage {s t : State} {h : Handle} {c : Call} {m m' : MessagePart} (hc : s.call h = some c) (hm : c.part = .message m)
    (hp : m.player.isSome = true ∨ m.playback ≠ .finished) (ht : OnlyPlay s t) (hcalls : t.calls = s.calls) :
    Settles s (t.updCall h fun c => { c with part := .message m' }) := by
  have hcall : ∀ j, t.slot j = s.slot j := fun j => by rw [State.slot, State.slot, hcalls]
  have hall := ht.trans (updCall_only t h fun c => { c with part := .message m' }).play
  have hslot : ∀ j, (t.updCall h fun c => { c with part := .message m' }).slot j =
      if h.slot = j then ⟨h.gen, some { c with part := .message m' }⟩ else s.slot j := fun j => by
    split
    · rename_i hj
      rw [← hj]
      exact slot_updCall_self ((call_congr (hcall _)).trans hc) _
    · rename_i hj
      rw [slot_updCall_ne hj, hcall]
  have hexp : (t.updCall h fun c => { c with part := .message m' }).expiries = s.expiries := by rw [hall]
  refine ⟨hall.endpoints, fun i => ?_, fun i => ?_, ⟨[], by rw [hexp, List.append_nil], nofun⟩, fun i a b ha hb hea heb => ?_⟩
  · rw [hslot]; split
    · rename_i hi; rw [← hi, slot_of_call hc]
    · rfl
  · rw [hslot]; split
    · rename_i hi
      rw [← hi, slot_of_call hc]
      exact .some ⟨rfl, .inl rfl, by rw [hm]; exact keepsPart_message hp⟩
    · exact rel_settles_refl _ _ _
  · rw [hslot] at hb
    split at hb
    · rename_i hi
      rw [← hi, record_of_call hc] at ha
      cases ha
      cases hb
      rw [hea] at heb; cases heb
    · rw [ha] at hb; cases hb; rw [hea] at heb; cases heb

theorem part_of_message {c : Call} {m : MessagePart} (h : c.message = some m) : c.part = .message m := by
  unfold Call.message at h
  split at h
  · rename_i m' hm'; cases h; exact hm'
  · cases h

theorem settles_pauseMessage {s : State} {h : Handle} {c : Call} {m : MessagePart} (hc : s.call h = some c) (hm : c.message = some m)
    (hp : m.player.isSome = true) : Settles s (s.pauseMessage h m) := by
  unfold State.pauseMessage
  split
  · exact settles_updMessage hc (part_of_message hm) (.inl hp) (freePlayer_only _ _) rfl
  · exact settles_updMessage hc (part_of_message hm) (.inl hp) (.refl _) rfl

theorem Settles.foldl {α : Type} {f : State → α → State} (hf : ∀ s x, Settles s (f s x)) (l : List α) (s : State) :
    Settles s (l.foldl f s) := by
  induction l generalizing s with
  | nil => exact .refl s
  | cons x l ih => exact (hf s x).trans (ih _)

theorem settles_pauseUnheard (s : State) : Settles s s.pauseUnheard := by
  refine Settles.foldl (fun s h => ?_) _ s
  unfold State.pauseIfUnheard
  split
  · rename_i c hc
    split
    · rename_i m hm
      split
      · rename_i hp
        exact settles_pauseMessage hc hm (by simp only [Bool.and_eq_true] at hp; exact hp.1)
      · exact .refl s
    · exact .refl s
  · exact .refl s

theorem settles_serveRounds (n : Nat) (s : State) : Settles s (State.serveRounds n s) := by
  induction n generalizing s with
  | zero => exact .refl s
  | succ n ih =>
    unfold State.serveRounds
    split
    · rename_i i h c _ hw
      split
      · rename_i m hm
        obtain ⟨hmem, hwait⟩ := List.mem_filter.1 (pickBy_mem hw)
        have hplay : m.playback ≠ .finished := by
          simp only [State.messageWaits, hm, Bool.and_eq_true, Bool.or_eq_true, beq_iff_eq] at hwait
          obtain ⟨⟨-, h1⟩, -⟩ := hwait
          rcases h1 with h1 | h1 <;> rw [h1] <;> decide
        exact (settles_updMessage (mem_records.1 hmem) (part_of_message hm) (.inr hplay)
          (t := s.setPlayer i ⟨some h, m.phrases[m.index]?, m.offset, false, 0⟩) rfl rfl).trans (ih _)
      · exact .refl s
    · exact .refl s

/-! ## Faded calls -/

theorem settles_endFadedAt (s : State) (h : Handle) : Settles s (s.endFadedAt h) := by
  unfold State.endFadedAt
  split
  · rename_i c hc
    split
    · rename_i hf
      obtain ⟨he, hsound⟩ := hf
      have hslot : ∀ j, (s.endFadedAt h).slot j =
          if h.slot = j then ⟨h.gen, some { c with state := .ended, endSeq := s.seq }⟩ else s.slot j := fun j => by
        simp only [State.endFadedAt, hc, he, hsound, and_self, if_true]
        refine (slot_setRecord (s := s) _ (slot_lt_of_call hc) j).trans ?_
        rw [slot_of_call hc]
      have heq : s.endFadedAt h = State.nextSeq { s.setRecord h.slot (some { c with state := .ended, endSeq := s.seq }) with
          expiries := s.expiries ++ [⟨h.slot, h.gen, .ofMs 5000⟩] } := by
        simp only [State.endFadedAt, hc, he, hsound, and_self, if_true]; rfl
      have hsettles : Settles s (s.endFadedAt h) := by
        refine ⟨by rw [heq]; rfl, fun i => ?_, fun i => ?_, ⟨[endTimer h], by rw [heq]; rfl, fun x hx => ?_⟩,
          fun i a b ha hb hea heb => ?_⟩
        · rw [hslot]; split
          · rename_i hi; rw [← hi, slot_of_call hc]
          · rfl
        · rw [hslot]; split
          · rename_i hi
            rw [← hi, handleOf_eq hc, slot_of_call hc]
            exact .some ⟨rfl, .inr ⟨he, hsound, rfl⟩, .refl _⟩
          · exact rel_settles_refl _ _ _
        · exact ⟨h, c, hc, he, hsound, List.mem_singleton.1 hx⟩
        · rw [hslot] at hb
          split at hb
          · rename_i hi
            rw [← hi, handleOf_eq hc, heq]
            exact List.mem_append_right _ (List.mem_singleton.2 rfl)
          · rw [ha] at hb; cases hb; rw [hea] at heb; cases heb
      rwa [heq] at hsettles
    · exact .refl s
  · exact .refl s

/-- Once a call's fading has been looked at, it is not ENDING without a sound. -/
theorem endFadedAt_done {s : State} {h : Handle} {d : Call} (hd : (s.endFadedAt h).call h = some d) (he : d.state = .ending) :
    s.sounds h = true := by
  by_contra hs
  rw [Bool.not_eq_true] at hs
  obtain ⟨c, hc, hcd⟩ := (settles_endFadedAt s h).call_back hd
  have hce := ending_of_settled hcd he
  have : (s.endFadedAt h).slot h.slot = ⟨h.gen, some { c with state := .ended, endSeq := s.seq }⟩ := by
    simp only [State.endFadedAt, hc, hce, hs, and_self, if_true]
    refine (slot_setRecord (s := s) _ (slot_lt_of_call hc) _).trans ?_
    rw [slot_of_call hc, if_pos rfl]
  rw [call_of_slot this] at hd
  cases hd
  cases he

theorem endFaded_done {s : State} (l : List Handle) {h : Handle} (hl : h ∈ l) {d : Call} (hd : (l.foldl State.endFadedAt s).call h = some d)
    (he : d.state = .ending) : s.sounds h = true := by
  induction l generalizing s with
  | nil => cases hl
  | cons k l ih =>
    have hso : (s.endFadedAt k).sounds h = s.sounds h := sounds_congr (settles_endFadedAt s k).endpoints h
    rw [List.foldl_cons] at hd
    rcases List.mem_cons.1 hl with rfl | hl
    · obtain ⟨c, hc, hcd⟩ := (Settles.foldl settles_endFadedAt l _).call_back hd
      exact endFadedAt_done hc (ending_of_settled hcd he)
    · rw [← hso]; exact ih hl hd

theorem settles_endFaded (s : State) : Settles s s.endFaded := Settles.foldl settles_endFadedAt _ s

/-- No call is ENDING without a sound. -/
def AllFaded (s : State) : Prop := ∀ h d, s.call h = some d → d.state = .ending → s.sounds h = true

theorem allFaded_endFaded (s : State) : AllFaded s.endFaded := by
  intro h d hd he
  obtain ⟨c, hc, -⟩ := (settles_endFaded s).call_back hd
  rw [sounds_congr (settles_endFaded s).endpoints]
  exact endFaded_done s.handles (mem_handles.2 ⟨c, hc⟩) hd he

theorem AllFaded.settles {s t : State} (hs : AllFaded s) (h : Settles s t) : AllFaded t := by
  intro k d hd he
  obtain ⟨c, hc, hcd⟩ := h.call_back hd
  rw [sounds_congr h.endpoints]
  exact hs k c hc (ending_of_settled hcd he)

/-! ## The whole settling -/

theorem settles_settleCalls (s : State) : Settles s s.settleCalls :=
  ((settles_pauseUnheard s).trans (settles_endFaded _)).trans (settles_serveRounds 4 _)

theorem allFaded_settleCalls (s : State) : AllFaded s.settleCalls := (allFaded_endFaded _).settles (settles_serveRounds 4 _)

theorem settles_refresh (s : State) : Settles s s.refresh where
  endpoints := rfl
  gens := (follow_refresh s).gens
  records i := by
    by_cases hi : i < 64
    · rw [slot_refresh hi]
      cases (s.slot i).record with
      | none => exact .none
      | some c =>
        refine .some ⟨rfl, .inl rfl, ?_⟩
        simp only [State.countedCall]
        cases c.part with
        | alarm a => exact ⟨nofun, nofun, nofun, fun _ ha => by cases ha; exact ⟨_, rfl⟩, nofun, nofun⟩
        | program o lv => exact .refl _
        | page => exact .refl _
        | message m => exact .refl _
        | talk k => exact .refl _
    · rw [slot_of_le (Nat.not_lt.1 hi), slot_of_le (Nat.not_lt.1 hi)]; exact .none
  started := ⟨[], by simp, nofun⟩
  timed i c d hc hd hce hde := by
    rw [slot_refresh (lt_of_record hc), hc] at hd
    cases hd
    rw [show (s.countedCall (s.handleOf i) c).state = c.state from rfl, hce] at hde
    cases hde

/-- From `s` to `t` no field differs but those that settling writes. -/
def OnlySettled (s t : State) : Prop :=
  t = { s with
    calls := t.calls, players := t.players, expiries := t.expiries, seq := t.seq, degraded := t.degraded, overflow := t.overflow,
    system := { s.system with endsToCollect := t.system.endsToCollect, attention := t.system.attention },
    bridge := { s.bridge with endsToCollect := t.bridge.endsToCollect, attention := t.bridge.attention } }

theorem refresh_only {s t : State} (h : OnlySettling s t) : OnlySettled s t.refresh := by
  unfold OnlySettled; rw [h]; rfl

theorem noPending_of_only {s t : State} (h : OnlySettling s t) : t.noPending = s.noPending := by rw [h]; rfl

/-- Without a pending start an event settles in one round, or in two. -/
theorem settle_rounds {s : State} (h : s.noPending = true) (s0 : State) :
    settle s0 s = s.settleCalls.refresh ∨ settle s0 s = s.settleCalls.settleCalls.refresh := by
  have hn : s.settleCalls.noPending = true := (noPending_of_only (settleCalls_only s)).trans h
  unfold settle
  dsimp only
  split
  · rw [State.retryPending_of_noPending hn]; exact .inr rfl
  · exact .inl rfl

theorem settle_only {s : State} (h : s.noPending = true) (s0 : State) : OnlySettled s (settle s0 s) := by
  rcases settle_rounds h s0 with he | he
  · rw [he]; exact refresh_only (settleCalls_only s)
  · rw [he]; exact refresh_only ((settleCalls_only s).trans (settleCalls_only _))

theorem settles_settle {s : State} (h : s.noPending = true) (s0 : State) : Settles s (settle s0 s) := by
  rcases settle_rounds h s0 with he | he
  · rw [he]; exact (settles_settleCalls s).trans (settles_refresh _)
  · rw [he]; exact ((settles_settleCalls s).trans (settles_settleCalls _)).trans (settles_refresh _)

theorem allFaded_settle {s : State} (h : s.noPending = true) (s0 : State) : AllFaded (settle s0 s) := by
  rcases settle_rounds h s0 with he | he
  · rw [he]; exact (allFaded_settleCalls s).settles (settles_refresh _)
  · rw [he]; exact (allFaded_settleCalls _).settles (settles_refresh _)

/-- The counts of the records after an event. -/
theorem settle_countsFollow (s0 s : State) : (settle s0 s).countsFollow := refresh_countsFollow _

/-! ## Sounding -/

theorem sounds_iff {s : State} {h : Handle} : s.sounds h = true ↔ Sounding s h := by
  simp [State.sounds, Sounding, Endpoint.sounds, List.any_eq_true]

end Sys2Proof.Calls
end

section
/-! PROOFS. The passage of a call from ENDING to ENDED and from ENDED to FREE (02 R27, R28, R41). -/

namespace Sys2Proof.Calls

open Sys2Proof.Machine

/-! ## An ENDING call at the end of an event -/

/-- Without a pending start, an event leaves an ENDING call ENDING while it sounds, and else ENDED with its timer running. -/
theorem settle_ending {v : State} (hn : v.noPending = true) (s0 : State) {h : Handle} {r : Call} (hr : v.slot h.slot = ⟨h.gen, some r⟩)
    (he : r.state = .ending) :
    ∃ u, (settle s0 v).slot h.slot = ⟨h.gen, some u⟩ ∧ SettlesTo v h r u ∧ (Sounding (settle s0 v) h → u.state = .ending) ∧
      (¬ Sounding (settle s0 v) h → u.state = .ended ∧ endTimer h ∈ (settle s0 v).expiries) := by
  have hset := settles_settle hn s0
  obtain ⟨u, hu, hru⟩ := hset.slot hr
  refine ⟨u, hu, hru, fun hso => ?_, fun hso => ?_⟩
  · rcases hru.state with h1 | ⟨-, h1, -⟩
    · exact h1.trans he
    · rw [← sounds_iff, sounds_congr hset.endpoints, h1] at hso; cases hso
  · have hended : u.state = .ended := by
      rcases hru.state with h1 | ⟨-, -, h1⟩
      · exact absurd (sounds_iff.1 (allFaded_settle hn s0 h u (call_of_slot hu) (h1.trans he))) hso
      · exact h1
    have hk : v.handleOf h.slot = h := by simp [State.handleOf, hr]
    exact ⟨hended, hk ▸ hset.timed h.slot r u (by rw [hr]) (by rw [hu]) he hended⟩

/-! ## The frame boundary moves no record -/

/-- The call table and the trigger records. -/
def callsTriggers (s : State) : Table CallSlot 64 × Table Trigger 4 := (s.calls, s.triggers)

theorem recordFault_callsTriggers (s : State) (src : FaultSource) (k : FaultKind) :
    callsTriggers (s.recordFault src k) = callsTriggers s := by
  unfold State.recordFault; split <;> rfl

theorem refill_callsTriggers (s : State) : callsTriggers s.refill = callsTriggers s :=
  State.foldl_keep callsTriggers _ (fun s f => by unfold State.refillOne; split <;> rfl) _ s

theorem clearFault_callsTriggers (s : State) (src : FaultSource) (k : FaultKind) :
    callsTriggers (s.clearFault src k) = callsTriggers s := by
  unfold State.clearFault
  split
  · rfl
  · exact refill_callsTriggers _

theorem inputBoundary_callsTriggers (f : FrameInput) (s : State) (i : Nat) :
    callsTriggers (State.inputBoundary f s i) = callsTriggers s := by
  unfold State.inputBoundary State.reportFraming
  dsimp only
  split
  · exact recordFault_callsTriggers _ _ _
  · split
    · exact clearFault_callsTriggers _ _ _
    · rfl

theorem setPort_callsTriggers (s : State) (p : Port) (r : PortRec) : callsTriggers (s.setPort p r) = callsTriggers s := by cases p <;> rfl

theorem applyPending_callsTriggers (s : State) : callsTriggers s.applyPending = callsTriggers s := by
  have hswap : ∀ (u : State) (p : Port), callsTriggers (u.answerSwap p) = callsTriggers u := fun u p => by
    unfold State.answerSwap
    split
    · exact setPort_callsTriggers _ _ _
    · rfl
  unfold State.applyPending
  split
  · rw [hswap, hswap]; rfl
  · rfl

theorem mixFrame_callsTriggers (s : State) (f : FrameInput) : callsTriggers (s.mixFrame f) = callsTriggers s := by
  have hclip : ∀ (m : List Int) (u : State) (e : Nat), callsTriggers (State.clipAt m u e) = callsTriggers u := fun m u e => by
    unfold State.clipAt; split <;> rfl
  unfold State.mixFrame
  dsimp only
  have hfold := State.foldl_keep callsTriggers _ (hclip ((List.range Config.endpoints).map (s.mixOf (s.sources f))))
    (List.range Config.endpoints) s
  generalize (List.range Config.endpoints).foldl _ s = u at hfold ⊢
  exact hfold

theorem stepTerms_callsTriggers (s : State) : callsTriggers s.stepTerms = callsTriggers s := rfl

theorem boundary_calls (s : State) (f : FrameInput) : (s.boundary f).calls = s.calls ∧
    (s.boundary f).triggers = s.triggers.map fun t => { t with timer := t.timer.tick } := by
  have h1 : callsTriggers (((s.inputsBoundary f).applyPending.stepTerms).mixFrame f) = callsTriggers s := by
    rw [mixFrame_callsTriggers, stepTerms_callsTriggers, applyPending_callsTriggers]
    exact State.foldl_keep callsTriggers _ (inputBoundary_callsTriggers f) _ s
  have hb : s.boundary f = (((s.inputsBoundary f).applyPending.stepTerms).mixFrame f).advance := rfl
  rw [hb]
  generalize ((s.inputsBoundary f).applyPending.stepTerms).mixFrame f = u at h1
  obtain ⟨hc, ht⟩ := Prod.mk.inj h1
  have ht : u.triggers = s.triggers := ht
  exact ⟨hc, by rw [← ht]; rfl⟩

theorem boundary_noPending {s : State} (h : s.noPending = true) (f : FrameInput) : (s.boundary f).noPending = true := by
  unfold State.noPending at h ⊢
  rw [(boundary_calls s f).2]
  simpa [Table.map] using h

theorem fadedCallsEnd : FadedCallsEnd := by
  intro s f h r hdue hn hr he
  have hv : (s.boundary f).slot h.slot = ⟨h.gen, some r⟩ := by rw [State.slot, (boundary_calls s f).1]; exact hr
  obtain ⟨u, hu, hru, h1, h2⟩ := settle_ending (boundary_noPending hn f) s hv he
  refine ⟨settle s (s.boundary f), u, ?_, hu, hru.reason, h1, h2⟩
  show Host.Outcome.next (settle s.takeDue (s.takeDue.boundary f)) = _
  rw [hdue]

/-! ## A record that becomes FREE -/

theorem slot_freeRecord {s : State} {h : Handle} (hi : h.slot < 64) (hg : (s.slot h.slot).gen = h.gen) (j : Nat) :
    (s.freeRecord h).slot j = if h.slot = j then ⟨h.gen, none⟩ else s.slot j := by
  rw [State.freeRecord, slot_setRecord _ hi, hg]

/-- An event that frees a record: the slot is FREE with its generation, and no timer of its slot starts. -/
theorem settle_freed {s v : State} (hn : v.noPending = true) (s0 : State) {h : Handle} (hi : h.slot < 64)
    (hg : (v.slot h.slot).gen = h.gen) (hcalls : v.calls = s.calls) (hends : v.endpoints = s.endpoints) :
    (settle s0 (v.freeRecord h)).slot h.slot = ⟨h.gen, none⟩ ∧ TimersAre s (settle s0 (v.freeRecord h)) v.expiries h.slot ∧
      (settle s0 (v.freeRecord h)).endpoints = s.endpoints := by
  have hset := settles_settle (s := v.freeRecord h) hn s0
  have hslot := slot_freeRecord hi hg
  obtain ⟨l, hl, hx⟩ := hset.started
  have hstart : ∀ k c, (v.freeRecord h).call k = some c → k.slot ≠ h.slot ∧ s.call k = some c := by
    intro k c hc
    have hs := slot_of_call hc
    rw [hslot] at hs
    split at hs
    · cases congrArg CallSlot.record hs
    · rename_i hne
      refine ⟨Ne.symm hne, call_of_slot ?_⟩
      rw [← hs, State.slot, State.slot, hcalls]
  refine ⟨?_, ⟨⟨l, hl, fun x hm => ?_⟩, fun hall => ?_⟩, hset.endpoints.trans hends⟩
  · have hfree : ((settle s0 (v.freeRecord h)).slot h.slot).record = none := hset.free (by rw [hslot, if_pos rfl])
    have hgen := hset.gens h.slot
    rw [hslot, if_pos rfl] at hgen
    have hgen' : ((settle s0 (v.freeRecord h)).slot h.slot).gen = h.gen := hgen
    rw [← hgen', ← hfree]
  · obtain ⟨k, c, hc, -, -, rfl⟩ := hx x hm
    exact (hstart k c hc).1
  · rw [hl]
    cases l with
    | nil => exact List.append_nil _
    | cons x l =>
      obtain ⟨k, c, hc, he, hso, -⟩ := hx x (List.mem_cons_self ..)
      have hsound := sounds_iff.2 (hall k c (hstart k c hc).2 he)
      rw [← sounds_congr (show (v.freeRecord h).endpoints = s.endpoints from hends), hso] at hsound
      cases hsound

theorem replied_calls (s : State) (p : Port) (o : Owner) (c : Instr) (a : AnswerCode) (d : List Byte) :
    (s.replied p o c a d).calls = s.calls ∧ (s.replied p o c a d).endpoints = s.endpoints ∧
      (s.replied p o c a d).triggers = s.triggers ∧ (s.replied p o c a d).expiries = s.expiries := by
  cases p <;> exact ⟨rfl, rfl, rfl, rfl⟩

theorem replied_standing (s : State) (p : Port) (o : Owner) (c : Instr) (a : AnswerCode) (d : List Byte) :
    (s.replied p o c a d).standing = (s.serve p o).standing := by
  unfold State.replied State.queued
  exact State.setPort_standing _ _ _ rfl

/-- The ports after an event are as they were before it settled, but for the ends to collect and the attention lines. -/
theorem settle_port {v : State} (hn : v.noPending = true) (s0 : State) (p : Port) :
    ((settle s0 v).port p).answers = (v.port p).answers ∧ ((settle s0 v).port p).inProgress = (v.port p).inProgress := by
  have h := settle_only hn s0
  cases p
  · have : (settle s0 v).port .system = { v.system with
        endsToCollect := (settle s0 v).system.endsToCollect, attention := (settle s0 v).system.attention } := congrArg State.system h
    rw [this]; exact ⟨rfl, rfl⟩
  · have : (settle s0 v).port .bridge = { v.bridge with
        endsToCollect := (settle s0 v).bridge.endsToCollect, attention := (settle s0 v).bridge.attention } := congrArg State.bridge h
    rw [this]; exact ⟨rfl, rfl⟩

theorem replied_answered {s : State} {p : Port} {o : Owner} (hm : s.mayTake p o = true) (c : Instr) (a : AnswerCode) (d : List Byte) :
    AnsweredWith s (s.replied p o c a d) p c a d := by
  obtain ⟨h1, -, -⟩ := (State.mayTake_iff s p o).1 hm
  unfold AnsweredWith State.replied State.queued
  cases p <;> exact ⟨rfl, h1⟩

theorem collectFrees : CollectFrees := by
  intro s p tag h r hm hn hh hr he
  dsimp only
  have hexec : ∀ t, takeCollectEnd p h (s.begun p .callTable (.collectEnd p tag h) .waiting) = t →
      exec (.collectEnd p tag h) s = .next t := fun t ht =>
    congrArg Host.Outcome.next ((State.request_of_mayTake _ _ hm).trans ht)
  have htake : takeCollectEnd p h (s.begun p .callTable (.collectEnd p tag h) .waiting) =
      if r.opener = p then settle (s.begun p .callTable (.collectEnd p tag h) .waiting)
        ((s.replied p .callTable (.collectEnd p tag h) .ok (r.endData p)).freeRecord h)
      else s.replied p .callTable (.collectEnd p tag h) .ok (r.endData p) := by
    unfold takeCollectEnd
    rw [begun_callFor, callFor_ok (gate := gateCollect) hh hr (by simp [gateCollect, he]) (by simp)]
    dsimp only
    rw [State.begun_answer hm]
  refine ⟨fun ho => hexec _ ?_, fun ho => ?_⟩
  · rw [htake, if_neg ho, Call.endData, if_neg ho]
  · have hdata : r.endData p = byte1 ((r.reason.map EndReason.code).getD 0) ++ byte1 r.type.code ++ byte1 r.level := by
      rw [Call.endData, if_pos ho, List.append_nil]
    rw [if_pos ho, hdata] at htake
    refine ⟨_, hexec _ htake, ?_⟩
    generalize hw : s.replied p .callTable (.collectEnd p tag h) .ok
      (byte1 ((r.reason.map EndReason.code).getD 0) ++ byte1 r.type.code ++ byte1 r.level) = w
    have hans := hw ▸ replied_answered hm (.collectEnd p tag h) .ok
      (byte1 ((r.reason.map EndReason.code).getD 0) ++ byte1 r.type.code ++ byte1 r.level)
    obtain ⟨hcalls, hends, htrig, hexp⟩ := hw ▸ replied_calls s p .callTable (.collectEnd p tag h) .ok
      (byte1 ((r.reason.map EndReason.code).getD 0) ++ byte1 r.type.code ++ byte1 r.level)
    have hstand := hw ▸ replied_standing s p .callTable (.collectEnd p tag h) .ok
      (byte1 ((r.reason.map EndReason.code).getD 0) ++ byte1 r.type.code ++ byte1 r.level)
    have hnw : w.noPending = true := by unfold State.noPending; rw [htrig]; exact hn
    have hg : (w.slot h.slot).gen = h.gen := by rw [State.slot, hcalls]; exact congrArg CallSlot.gen hr
    obtain ⟨h1, h2, h3⟩ := settle_freed hnw (s.begun p .callTable (.collectEnd p tag h) .waiting) (Nat.lt_succ_of_le hh) hg hcalls hends
    obtain ⟨h4, h5⟩ := settle_port (v := w.freeRecord h) hnw (s.begun p .callTable (.collectEnd p tag h) .waiting) p
    refine ⟨⟨h4.trans hans.1, h5.trans hans.2⟩, h1, hexp ▸ h2, h3, ?_⟩
    rw [State.settle_standing, State.freeRecord_standing, hstand]

theorem expiryFrees : ExpiryFrees := by
  intro s slot gen hslot
  dsimp only
  have hruns : s.expiryRuns ⟨slot, gen⟩ = true ↔ ∃ x ∈ s.expiries, x.slot = slot ∧ x.gen = gen := by
    simp [State.expiryRuns]
  have hexec : exec (.endExpiry slot gen) s = .next (if s.expiryRuns ⟨slot, gen⟩ then
      if (s.call ⟨slot, gen⟩).any (·.state == .ended) then settle s ((s.stopExpiry ⟨slot, gen⟩).freeRecord ⟨slot, gen⟩)
      else s.stopExpiry ⟨slot, gen⟩ else s) := rfl
  refine ⟨fun h => ?_, fun h hne => ?_, fun h hn r hr he => ?_⟩
  · rw [hexec, if_neg fun h' => h (hruns.1 h')]
  · have hany : (s.call ⟨slot, gen⟩).any (·.state == .ended) = false := by
      rw [call_eq]
      rcases hne with hne | hne
      · rw [if_neg hne]; rfl
      · split
        · cases hc : (s.slot slot).record with
          | none => rfl
          | some c => simpa using hne c hc
        · rfl
    rw [hexec, if_pos (hruns.2 h), hany]
    rfl
  · have hany : (s.call ⟨slot, gen⟩).any (·.state == .ended) = true := by
      rw [call_of_slot (h := ⟨slot, gen⟩) hr]; simp [he]
    rw [hexec, if_pos (hruns.2 h), if_pos hany]
    have hg : ((s.stopExpiry ⟨slot, gen⟩).slot slot).gen = gen := congrArg CallSlot.gen hr
    obtain ⟨h1, h2, h3⟩ := settle_freed (s := s) (v := s.stopExpiry ⟨slot, gen⟩) (h := ⟨slot, gen⟩) hn s hslot hg rfl rfl
    refine ⟨_, rfl, h1, h2, h3, ?_⟩
    rw [State.settle_standing, State.freeRecord_standing, State.stopExpiry_standing]

/-- Settles O31, from how an event settles an ENDING call and a FREE slot. -/
theorem endedRecordsAreFreed : Obligations.EndedRecordsAreFreed := ⟨fadedCallsEnd, collectFrees, expiryFrees⟩

end Sys2Proof.Calls
end

section
/-! PROOFS. A call that has entered ENDING: what its entry writes beside the record, what the later ends of other calls leave of it, and
what the end of the event makes of it (02 R26 to R28; 04 R76; 06 R119; 07 R136; 08 R155). -/

namespace Sys2Proof.Calls

open Sys2Proof.Machine

/-! ## Ports (02 R33, R35, R36) -/

theorem port_answer (s : State) (p : Port) (a : AnswerCode) (d : List Byte) (q : Port) :
    (s.answer p a d).port q = if p = q then (s.port q).result a d else s.port q := by
  cases p <;> cases q <;> rfl

/-- A port without a request in progress takes no answer. -/
theorem result_idle {r : PortRec} (h : r.inProgress = none) (a : AnswerCode) (d : List Byte) : r.result a d = r := by
  simp [PortRec.result, h]

theorem result_answered {r : PortRec} {c : Instr} {ph : Phase} (h : r.inProgress = some ⟨c, ph⟩) (a : AnswerCode) (d : List Byte) :
    (r.result a d).answers = r.answers ++ [⟨c.code, c.tag, a, d⟩] ∧ (r.result a d).inProgress = none := by
  simp [PortRec.result, h]

theorem stoppedData_eq (h : Handle) (sw : Sweep) :
    stoppedData h sw = if sw.kind = .drop then sw.dropData .ending else sw.data h 0 := rfl

theorem port_answerStopped (s : State) (h : Handle) (t : CallType) (sw : Sweep) (x : EndReason) (q : Port) :
    (s.answerStopped h t sw x).port q =
      if sw.answers = true ∧ sw.port = q then (s.port q).result (sw.stopCode t x) (stoppedData h sw) else s.port q := by
  unfold State.answerStopped
  by_cases ha : sw.answers = true
  · rw [if_pos ha, port_answer, stoppedData_eq]; simp [ha]
  · rw [if_neg ha]; simp [ha]

theorem port_eq {s t : State} (h1 : t.system = s.system) (h2 : t.bridge = s.bridge) (q : Port) : t.port q = s.port q := by
  cases q
  · exact h1
  · exact h2

theorem OnlyPlay.port {s t : State} (h : OnlyPlay s t) : ∀ q, t.port q = s.port q := port_eq (by rw [h]) (by rw [h])
theorem OnlyListings.port {s t : State} (h : OnlyListings s t) : ∀ q, t.port q = s.port q := port_eq (by rw [h]) (by rw [h])
theorem OnlyHolds.port {s t : State} (h : OnlyHolds s t) : ∀ q, t.port q = s.port q := h.listings.port
theorem OnlyAlarms.port {s t : State} (h : OnlyAlarms s t) : ∀ q, t.port q = s.port q := port_eq (by rw [h]) (by rw [h])

theorem endingSilent_ports (s : State) (h : Handle) (c : Call) (x : EndReason) (q : Port) : (endingSilent s h c x).port q = s.port q := by
  have hs := endingSilent_only s h c x
  have hu := unbindHold_only ((endingFreed s h c x).withdraw h c.type.listClass) h c
  have hw := withdraw_only (endingFreed s h c x) h c.type.listClass
  have hf := endingFreed_only s h c x
  rw [hs.port, endingUnbound, hu.port, hw.port, hf.port]

/-- The entry to ENDING answers the request of the call's sweep, if there is one, and no other. -/
theorem port_enterEnding (s : State) (h : Handle) (c : Call) (x : EndReason) (q : Port) :
    (∃ sw, c.sweep = some sw ∧ sw.answers = true ∧ sw.port = q ∧
      (s.enterEnding h c x).port q = (s.port q).result (sw.stopCode c.type x) (stoppedData h sw)) ∨
    ((∀ sw, c.sweep = some sw → sw.answers = true → sw.port ≠ q) ∧ (s.enterEnding h c x).port q = s.port q) := by
  cases hs : c.sweep with
  | none => exact .inr ⟨nofun, by rw [enterEnding_idle hs, endingSilent_ports]⟩
  | some sw =>
    rw [enterEnding_sweeping hs, port_answerStopped, endingSilent_ports]
    by_cases hq : sw.answers = true ∧ sw.port = q
    · exact .inl ⟨sw, rfl, hq.1, hq.2, if_pos hq⟩
    · refine .inr ⟨?_, if_neg hq⟩
      rintro _ ⟨⟩ h1 h2
      exact hq ⟨h1, h2⟩

/-! ## Ends of live calls, and of no other -/

theorem endCall_of_live {s : State} {h : Handle} {c : Call} (hc : s.call h = some c) (hl : c.state.live = true) (x : EndReason) :
    s.endCall h x = s.enterEnding h c x := by
  simp [State.endCall, hc, hl]

theorem endCall_cases (s : State) (h : Handle) (x : EndReason) :
    (∃ c, s.call h = some c ∧ c.state.live = true ∧ s.endCall h x = s.enterEnding h c x) ∨
      ((∀ c, s.call h = some c → c.state.live = false) ∧ s.endCall h x = s) := by
  rcases hc : s.call h with _ | c
  · have he : s.endCall h x = s := by simp [State.endCall, hc]
    exact .inr ⟨by simp, he⟩
  · by_cases hl : c.state.live = true
    · exact .inl ⟨c, rfl, hl, endCall_of_live hc hl x⟩
    · have he : s.endCall h x = s := by simp [State.endCall, hc, hl]
      exact .inr ⟨by simpa using hl, he⟩

theorem slot_enterEnding {s : State} {h : Handle} {c : Call} (hc : s.call h = some c) (x : EndReason) (j : Nat) :
    (s.enterEnding h c x).slot j = if h.slot = j then ⟨h.gen, some (endingRecord s h c x)⟩ else s.slot j := by
  have hi := slot_lt_of_call hc
  rw [State.slot, enterEnding_calls, Table.get_set _ _ _ _ _ hi, slot_of_call hc]
  rfl

/-- A port without a request in progress stays as it is through an end. -/
theorem port_endCall_idle {s : State} {q : Port} (hq : (s.port q).inProgress = none) (h : Handle) (x : EndReason) :
    (s.endCall h x).port q = s.port q := by
  rcases endCall_cases s h x with ⟨c, -, -, he⟩ | ⟨-, he⟩
  · rw [he]
    rcases port_enterEnding s h c x q with ⟨sw, -, -, -, hp⟩ | ⟨-, hp⟩
    · rw [hp, result_idle hq]
    · exact hp
  · rw [he]

/-! ## The alarm's position and its owners (08 R155) -/

/-- The triggers once the call has ended. -/
def released (h : Handle) (t : Trigger) : Trigger := if t.owned = some h then { t with owned := none } else t

theorem endingUnbound_alarms (s : State) (h : Handle) (c : Call) (x : EndReason) :
    (endingUnbound s h c x).alarms = s.alarms ∧ (endingUnbound s h c x).triggers = s.triggers := by
  have hu := unbindHold_only ((endingFreed s h c x).withdraw h c.type.listClass) h c
  have hw := withdraw_only (endingFreed s h c x) h c.type.listClass
  have hf := endingFreed_only s h c x
  rw [endingUnbound, hu, hw, hf]
  exact ⟨rfl, rfl⟩

theorem OnlyPorts.alarms {s t : State} (h : OnlyPorts s t) : t.alarms = s.alarms ∧ t.triggers = s.triggers ∧ t.players = s.players := by
  rw [h]; exact ⟨rfl, rfl, rfl⟩

theorem enterEnding_alarms (s : State) (h : Handle) (c : Call) (x : EndReason) :
    (s.enterEnding h c x).alarms = (if c.type = .alarm then s.alarms.set (h.slot - 60) .initial else s.alarms) ∧
      (s.enterEnding h c x).triggers = if c.type = .alarm then s.triggers.map (released h) else s.triggers := by
  obtain ⟨ha, ht⟩ := endingUnbound_alarms s h c x
  obtain ⟨ha', ht', -⟩ := (enterEnding_ports s h c x).alarms
  rw [ha', ht', endingSilent]
  split
  · refine ⟨?_, ?_⟩
    · show (endingUnbound s h c x).alarms.set _ _ = _; rw [ha]
    · show (endingUnbound s h c x).triggers.map _ = _; rw [ht]; rfl
  · exact ⟨ha, ht⟩

theorem trigger_map {s t : State} {f : Trigger → Trigger} (h : t.triggers = s.triggers.map f) {i : Nat} (hi : i < 4) :
    t.trigger i = f (s.trigger i) := by
  rw [State.trigger, h]; exact Table.get_map f _ _ _ _ hi

theorem trigger_enterEnding (s : State) (h : Handle) (c : Call) (x : EndReason) {i : Nat} (hi : i < 4) :
    (s.enterEnding h c x).trigger i = if c.type = .alarm then released h (s.trigger i) else s.trigger i := by
  have ht := (enterEnding_alarms s h c x).2
  split
  · rename_i ha; rw [if_pos ha] at ht; exact trigger_map ht hi
  · rename_i ha; rw [if_neg ha] at ht; rw [State.trigger, ht]; rfl

theorem released_pending (h : Handle) (t : Trigger) : (released h t).pending = t.pending := by
  unfold released; split <;> rfl

theorem enterEnding_noPending {s : State} (hn : s.noPending = true) (h : Handle) (c : Call) (x : EndReason) :
    (s.enterEnding h c x).noPending = true := by
  unfold State.noPending at hn ⊢
  rw [(enterEnding_alarms s h c x).2]
  split
  · simpa [Table.map, released_pending] using hn
  · exact hn

theorem endCall_noPending {s : State} (hn : s.noPending = true) (h : Handle) (x : EndReason) : (s.endCall h x).noPending = true := by
  rcases endCall_cases s h x with ⟨c, -, -, he⟩ | ⟨-, he⟩ <;> rw [he]
  · exact enterEnding_noPending hn h c x
  · exact hn

/-! ## The part of the record (04 R76; 06 R119; 07 R136) -/

theorem speakers_eq_joined (s : State) (h : Handle) (ps : List Participant) : s.speakers h ps = joined s h ps := by
  simp only [State.speakers, joined, List.filter_map, Function.comp_def]
  refine congrArg _ (List.filter_congr fun p _ => ?_)
  cases (s.ep p.station).fg with
  | none => rfl
  | some a => simp [Option.any, Bool.beq_eq_decide_eq]

theorem endingKeeps_endingPart (s : State) (h : Handle) (p : CallPart) : EndingKeeps s h p (s.endingPart h p) := by
  cases p with
  | program o lv => rfl
  | page => rfl
  | message m => cases hm : m.player <;> simp [EndingKeeps, State.endingPart, hm]
  | talk k => simp [EndingKeeps, State.endingPart, speakers_eq_joined]
  | alarm a => exact ⟨a.unserved, rfl⟩

/-- A part that an ended call may have: a MESSAGE has no player and is FINISHED, a TALK has no participant. -/
structure Over (p : CallPart) : Prop where
  message : ∀ m, p = .message m → m.player = none ∧ m.playback = .finished
  talk : ∀ k, p = .talk k → k.participants = []

theorem over_endingPart (s : State) (h : Handle) (p : CallPart) : Over (s.endingPart h p) := by
  refine ⟨fun m hm => ?_, fun k hk => ?_⟩ <;> cases p <;> simp only [State.endingPart, reduceCtorEq] at *
  · cases hm; exact ⟨rfl, rfl⟩
  · cases hk; rfl

/-- Settling keeps the part of an ended call, but for an ALARM's unserved count. -/
theorem Over.keeps {p q : CallPart} (ho : Over p) (hk : KeepsPart p q) : Over q ∧ ∀ (s : State) h r, EndingKeeps s h r p → EndingKeeps s h r q := by
  cases p with
  | program o lv => rw [hk.program o lv rfl]; exact ⟨ho, fun _ _ _ h => h⟩
  | page => rw [hk.page rfl]; exact ⟨ho, fun _ _ _ h => h⟩
  | message m =>
    obtain ⟨h1, h2⟩ := ho.message m rfl
    rw [hk.finished m rfl h1 h2]; exact ⟨ho, fun _ _ _ h => h⟩
  | talk k => rw [hk.talk k rfl]; exact ⟨ho, fun _ _ _ h => h⟩
  | alarm a =>
    obtain ⟨n, hn⟩ := hk.alarm a rfl
    rw [hn]
    refine ⟨⟨nofun, nofun⟩, fun s h r hr => ?_⟩
    cases r with
    | alarm b => obtain ⟨m, hm⟩ := hr; cases hm; exact ⟨n, rfl⟩
    | program o lv => cases hr
    | page => cases hr
    | message m => cases hr
    | talk k => cases hr

/-! ## A call that has entered ENDING -/

/-- Call `h` has entered ENDING with reason `x`, and its record is `d`. -/
structure Ending (t : State) (h : Handle) (x : EndReason) (d : Call) : Prop where
  slot : t.slot h.slot = ⟨h.gen, some d⟩
  state : d.state = .ending
  reason : d.reason = some x
  sweep : d.sweep = none
  part : Over d.part
  unlisted : ∀ e, (t.ep e).lists h = false
  silent : d.type = .alarm → (t.alarmSeq h.slot).position = none ∧ (t.alarmSeq h.slot).phase = 0 ∧
    ∀ i, i < 4 → (t.trigger i).owned ≠ some h

/-- The listings of a call: each in its class, and no two at one endpoint. -/
def Apart (s : State) (h : Handle) (cl : ListClass) : Prop :=
  ∀ e, ((keys cl (s.ep e)).map (·.1)).Nodup ∧ ∀ d, ∀ k ∈ keys d (s.ep e), k.1 = h → d = cl

theorem alarmSeq_set (s : State) {i j : Nat} (hi : i < 64) (hj : (s.alarmSeq j).position = none ∧ (s.alarmSeq j).phase = 0 ∨ i = j) :
    ((s.alarms.set (i - 60) .initial).get (j - 60) .initial).position = none ∧
      ((s.alarms.set (i - 60) .initial).get (j - 60) .initial).phase = 0 := by
  rw [Table.get_set _ _ _ _ _ (by omega)]
  split
  · exact ⟨rfl, rfl⟩
  · rcases hj with hj | rfl
    · exact hj
    · exact absurd rfl ‹_›

theorem released_owned (h : Handle) (t : Trigger) : (released h t).owned ≠ some h := by
  unfold released; split
  · exact nofun
  · assumption

theorem ending_enterEnding {s : State} {h : Handle} {c : Call} (hc : s.call h = some c) (ha : Apart s h c.type.listClass) (x : EndReason) :
    Ending (s.enterEnding h c x) h x (endingRecord s h c x) where
  slot := by rw [slot_enterEnding hc, if_pos rfl]
  state := rfl
  reason := rfl
  sweep := rfl
  part := over_endingPart s h c.part
  unlisted e := by
    rw [ep_enterEnding]
    exact lists_false_iff.2 (withdrawn_unlisted (ha e).1 (ha e).2 _)
  silent hal := by
    rw [endingPart_type] at hal
    obtain ⟨h1, h2⟩ := enterEnding_alarms s h c x
    rw [if_pos hal] at h1
    rw [State.alarmSeq, h1]
    obtain ⟨h3, h4⟩ := alarmSeq_set s (slot_lt_of_call hc) (.inr rfl)
    refine ⟨h3, h4, fun i hi => ?_⟩
    rw [trigger_enterEnding _ _ _ _ hi, if_pos hal]
    exact released_owned _ _

/-- The end of a call leaves an ended one as it is. -/
theorem Ending.enterEnding {s : State} {h k : Handle} {x y : EndReason} {d c : Call} (hd : Ending s h x d) (hc : s.call k = some c)
    (hl : c.state.live = true) : Ending (s.enterEnding k c y) h x d where
  slot := by
    rw [slot_enterEnding hc, if_neg, hd.slot]
    intro hk
    have h1 := congrArg CallSlot.record (slot_of_call hc)
    rw [hk, hd.slot] at h1
    cases h1
    rw [hd.state] at hl
    cases hl
  state := hd.state
  reason := hd.reason
  sweep := hd.sweep
  part := hd.part
  unlisted e := by
    rw [ep_enterEnding]
    exact lists_false_iff.2 fun cl q hq => lists_false_iff.1 (hd.unlisted e) cl q ((withdrawn_subperm _ _ _ _ _).subset hq)
  silent hal := by
    obtain ⟨h1, h2, h3⟩ := hd.silent hal
    obtain ⟨ha, -⟩ := enterEnding_alarms s k c y
    have hpos : ((s.enterEnding k c y).alarmSeq h.slot).position = none ∧ ((s.enterEnding k c y).alarmSeq h.slot).phase = 0 := by
      rw [State.alarmSeq, ha]
      split
      · exact alarmSeq_set s (slot_lt_of_call hc) (.inl ⟨h1, h2⟩)
      · exact ⟨h1, h2⟩
    refine ⟨hpos.1, hpos.2, fun i hi => ?_⟩
    rw [trigger_enterEnding _ _ _ _ hi]
    split
    · unfold released
      split
      · exact nofun
      · exact h3 i hi
    · exact h3 i hi

theorem Ending.endCall {s : State} {h : Handle} {x : EndReason} {d : Call} (hd : Ending s h x d) (k : Handle) (y : EndReason) :
    Ending (s.endCall k y) h x d := by
  rcases endCall_cases s k y with ⟨c, hc, hl, he⟩ | ⟨-, he⟩ <;> rw [he]
  · exact hd.enterEnding hc hl
  · exact hd

/-- What an ended call's standing as such reads of the state. -/
theorem Ending.congr {s t : State} {h : Handle} {x : EndReason} {d : Call} (hd : Ending s h x d)
    (hs : t.slot h.slot = s.slot h.slot) (he : ∀ e, (t.ep e).lists h = (s.ep e).lists h) (ha : t.alarms = s.alarms)
    (ht : t.triggers = s.triggers) : Ending t h x d where
  slot := hs.trans hd.slot
  state := hd.state
  reason := hd.reason
  sweep := hd.sweep
  part := hd.part
  unlisted e := (he e).trans (hd.unlisted e)
  silent hal := by
    have h1 := hd.silent hal
    rw [State.alarmSeq, ha]
    refine ⟨h1.1, h1.2.1, fun i hi => ?_⟩
    rw [State.trigger, ht]; exact h1.2.2 i hi

theorem Ending.ports {s t : State} {h : Handle} {x : EndReason} {d : Call} (hd : Ending s h x d) (hp : OnlyPorts s t) : Ending t h x d :=
  hd.congr (by rw [State.slot, hp.calls]; rfl) (fun e => by rw [ep_congr hp.endpoints]) hp.alarms.1 hp.alarms.2.1

/-! ## The end of the event -/

theorem counts_unlisted {s : State} {h : Handle} (hu : ∀ e, (s.ep e).lists h = false) : s.listingCount h = 0 ∧ s.heardCount h = 0 := by
  have hall : ∀ ep ∈ s.endpoints.cells, ep.lists h = false := fun ep hep => by
    obtain ⟨e, -, rfl⟩ := Table.exists_get_of_mem (Endpoint.initial 0) hep
    exact hu e
  refine ⟨List.countP_eq_zero.2 fun ep hep => by rw [hall ep hep]; decide, List.countP_eq_zero.2 fun ep hep => ?_⟩
  have hadm : ep.admits h = false := by
    have := hall ep hep
    simp only [Endpoint.lists, Bool.or_eq_false_iff] at this
    simp only [Endpoint.admits, Bool.or_eq_false_iff]
    exact this.1.1
  simp [hadm]

/-- An event that ends a call, in which no start is pending, leaves it ended. -/
theorem Ending.settled {v : State} {h : Handle} {x : EndReason} {d : Call} (hd : Ending v h x d) (hn : v.noPending = true) (s0 : State) :
    EndedIn (settle s0 v) h x ∧ ∃ u, (settle s0 v).slot h.slot = ⟨h.gen, some u⟩ ∧ SettlesTo v h d u := by
  obtain ⟨u, hu, hdu, hsound, hfaded⟩ := settle_ending hn s0 hd.slot hd.state
  have hk : (settle s0 v).handleOf h.slot = h := by simp [State.handleOf, hu]
  have hun := State.settle_unsettled (s0 := s0) hn
  simp only [State.unsettled, Prod.mk.injEq] at hun
  obtain ⟨hends, htrig, halarm, -⟩ := hun
  have hunl : ∀ e, ((settle s0 v).ep e).lists h = false := fun e => by rw [ep_congr hends]; exact hd.unlisted e
  obtain ⟨hcl, hch, -⟩ := settle_countsFollow s0 v h.slot u (by rw [hu])
  rw [hk] at hcl hch
  obtain ⟨hl0, hh0⟩ := counts_unlisted hunl
  obtain ⟨hover, -⟩ := hd.part.keeps hdu.part
  refine ⟨⟨⟨u, hu, hsound, fun hs => (hfaded hs).1, hdu.reason.trans hd.reason, hdu.sweep.trans hd.sweep, hcl.trans hl0, hch.trans hh0,
    hover.message, hover.talk, fun hal => ?_⟩, fun hs => (hfaded hs).2, fun e cl l hl => ?_⟩, u, hu, hdu⟩
  · obtain ⟨h1, h2, h3⟩ := hd.silent (hdu.type ▸ hal)
    rw [State.alarmSeq, halarm]
    refine ⟨h1, h2, fun i hi => ?_⟩
    rw [State.trigger, htrig]; exact h3 i hi
  · exact lists_false_iff.1 (hunl e) cl (keyOf l) (by rw [keys_eq]; exact List.mem_map_of_mem hl)

/-- The record keeps at the end of the event what the call's end has left of its part. -/
theorem Ending.keeping {v : State} {h : Handle} {x : EndReason} {d : Call} (hd : Ending v h x d) (hn : v.noPending = true) (s0 : State)
    {s : State} {p : CallPart} (hp : EndingKeeps s h p d.part) : EndedKeeping s (settle s0 v) h p := by
  obtain ⟨-, u, hu, hdu⟩ := hd.settled hn s0
  exact ⟨u, hu, (hd.part.keeps hdu.part).2 s h p hp⟩

/-- Listings in order stand apart. -/
theorem apart_of_listingsOk {s : State} (hl : s.listingsOk) {h : Handle} {c : Call} (hc : s.call h = some c) : Apart s h c.type.listClass := by
  obtain ⟨hname, honce, -⟩ := hl
  intro e
  by_cases he : e < 176
  · refine ⟨by rw [← map_call_listings]; exact forall_ep honce he _, fun d k hk hkh => ?_⟩
    rw [keys_eq] at hk
    obtain ⟨l, hl, rfl⟩ := List.mem_map.1 hk
    obtain ⟨hd, c', hc', -, ht, -⟩ := forall_ep hname he d l hl
    rw [show l.call = h from hkh, hc] at hc'
    cases hc'
    rw [← hd, ht]
  · simp [keys_of_le (Nat.not_lt.1 he)]

theorem Apart.subperm {s t : State} {h : Handle} {cl : ListClass} (ha : Apart s h cl)
    (ht : ∀ e d, (keys d (t.ep e)).Subperm (keys d (s.ep e))) : Apart t h cl := fun e => by
  refine ⟨?_, fun d k hk => (ha e).2 d k ((ht e d).subset hk)⟩
  obtain ⟨m, hp, hm⟩ := ht e cl
  exact (hp.map _).nodup_iff.1 ((hm.map _).nodup (ha e).1)

theorem Apart.enterEnding {s : State} {h : Handle} {cl : ListClass} (ha : Apart s h cl) (k : Handle) (c : Call) (x : EndReason) :
    Apart (s.enterEnding k c x) h cl := ha.subperm fun e d => by rw [ep_enterEnding]; exact withdrawn_subperm _ _ _ _ _

theorem Apart.endCall {s : State} {h : Handle} {cl : ListClass} (ha : Apart s h cl) (k : Handle) (x : EndReason) :
    Apart (s.endCall k x) h cl := by
  rcases endCall_cases s k x with ⟨c, -, -, he⟩ | ⟨-, he⟩ <;> rw [he]
  · exact ha.enterEnding k c x
  · exact ha

end Sys2Proof.Calls
end

section
/-! PROOFS. RETIRE_CALL, and what the end of a call does to its sweep, its record, its player and its owners (02 R26, R33, R35, R36,
R39; 08 R154, R155). -/

namespace Sys2Proof.Calls

open Sys2Proof.Machine

/-! ## Answers -/

theorem answered_congr {s s' t t' : State} {p : Port} {c : Instr} {a : AnswerCode} {d : List Byte} (h : AnsweredWith s t p c a d)
    (hs : (s'.port p).answers = (s.port p).answers) (ht : (t'.port p).answers = (t.port p).answers)
    (hi : (t'.port p).inProgress = (t.port p).inProgress) : AnsweredWith s' t' p c a d :=
  ⟨by rw [ht, hs]; exact h.1, hi.trans h.2⟩

/-- The request of a stopped sweep is answered. -/
theorem enterEnding_answers {s : State} {h : Handle} {c : Call} {sw : Sweep} {q : Instr} {ph : Phase} (hs : c.sweep = some sw)
    (ha : sw.answers = true) (hq : (s.port sw.port).inProgress = some ⟨q, ph⟩) (x : EndReason) :
    AnsweredWith s (s.enterEnding h c x) sw.port q (sw.stopCode c.type x) (stoppedData h sw) := by
  rcases port_enterEnding s h c x sw.port with ⟨sw', hs', -, -, hp⟩ | ⟨hno, -⟩
  · rw [hs] at hs'
    cases hs'
    unfold AnsweredWith
    rw [hp]
    exact result_answered hq _ _
  · exact absurd rfl (hno sw hs ha)

theorem endingsStopSweeps : EndingsStopSweeps := by
  intro s h c sw x q hslot hl hs
  dsimp only
  rw [endCall_of_live (call_of_slot hslot) hl]
  refine ⟨fun ha p => ?_, fun hq ha => ⟨?_, ?_⟩⟩
  · rcases port_enterEnding s h c x p with ⟨sw', hs', ha', -⟩ | ⟨-, hp⟩
    · rw [hs] at hs'; cases hs'; rw [ha] at ha'; cases ha'
    · exact hp
  · rcases port_enterEnding s h c x sw.port.other with ⟨sw', hs', -, hp, -⟩ | ⟨-, hp⟩
    · rw [hs] at hs'; cases hs'; cases hport : sw.port <;> rw [hport] at hp <;> cases hp
    · exact hp
  · have hans := enterEnding_answers (h := h) hs ha hq x
    unfold Sweep.stopCode at hans
    refine ⟨fun hk ht => ?_, fun hk ht hx => ?_, fun hk ht hx => ?_, fun hk hx => ?_, fun hk hx => ?_⟩
    · simpa [hk, ht] using hans
    · simpa [hk, ht, hx] using hans
    · simpa [hk, ht, hx] using hans
    · cases hkind : sw.kind <;> simp_all
    · cases hkind : sw.kind <;> simp_all

/-! ## Players (07 R131) -/

/-- At most one player serves the call. -/
def OnePlayer (s : State) (h : Handle) : Prop :=
  ∀ i j, i < 4 → j < 4 → (s.player i).call = some h → (s.player j).call = some h → i = j

theorem onePlayer_of_playersOk {s : State} (hs : s.playersOk) (h : Handle) : OnePlayer s h := by
  obtain ⟨-, hserve, -⟩ := hs
  intro i j hi hj hci hcj
  obtain ⟨c, hc, -, hp⟩ := hserve i h hi hci
  obtain ⟨d, hd, -, hq⟩ := hserve j h hj hcj
  rw [hc] at hd
  cases hd
  rcases hp with ⟨m, hm, -, hmi, -⟩ | ⟨a, x, ha, hx, hxi⟩ <;> rcases hq with ⟨m', hm', -, hmj, -⟩ | ⟨a', x', ha', hx', hxj⟩
  · rw [hm] at hm'; cases hm'; exact Option.some.inj (hmi.symm.trans hmj)
  · rw [hm] at ha'; cases ha'
  · rw [ha] at hm'; cases hm'
  · rw [hx] at hx'; cases hx'; exact Option.some.inj (hxi.symm.trans hxj)

theorem player_freePlayer {s : State} {i : Nat} (hi : i < 4) (j : Nat) :
    (s.freePlayer i).player j = if i = j then .idle else s.player j := Table.get_set _ _ _ _ _ hi

/-- Freeing a call's player leaves the others as they are. -/
theorem player_freePlayerOf {s : State} {h : Handle} (ho : OnePlayer s h) {j : Nat} (hj : j < 4) :
    (s.freePlayerOf h).player j = if (s.player j).call = some h then .idle else s.player j := by
  unfold State.freePlayerOf
  split
  · rename_i i hi
    have hmem : i < 4 := List.mem_range.1 (List.mem_of_find?_eq_some hi)
    have hcall : (s.player i).call = some h := by simpa using List.find?_some hi
    rw [player_freePlayer hmem]
    by_cases hcj : (s.player j).call = some h
    · rw [if_pos hcj, if_pos (ho i j hmem hj hcall hcj)]
    · rw [if_neg hcj, if_neg]
      rintro rfl
      exact hcj hcall
  · rename_i hnone
    rw [State.playerOf, List.find?_eq_none] at hnone
    rw [if_neg]
    simpa using hnone j (List.mem_range.2 hj)

theorem enterEnding_players (s : State) (h : Handle) (c : Call) (x : EndReason) :
    (s.enterEnding h c x).players = (s.freePlayerOf h).players := by
  obtain ⟨-, -, hp⟩ := (enterEnding_ports s h c x).alarms
  have ha := endingSilent_only s h c x
  have hu := unbindHold_only ((endingFreed s h c x).withdraw h c.type.listClass) h c
  have hw := withdraw_only (endingFreed s h c x) h c.type.listClass
  have h1 : (endingSilent s h c x).players = (endingUnbound s h c x).players := by rw [ha]
  have h2 : (endingUnbound s h c x).players = ((endingFreed s h c x).withdraw h c.type.listClass).players := by rw [endingUnbound, hu]
  have h3 : ((endingFreed s h c x).withdraw h c.type.listClass).players = (endingFreed s h c x).players := by rw [hw]
  have h4 : (endingFreed s h c x).players = (s.freePlayerOf h).players := by
    unfold endingFreed State.freePlayerOf
    rw [show (s.setRecord h.slot (some (endingRecord s h c x))).playerOf h = s.playerOf h from rfl]
    split <;> rfl
  exact hp.trans (h1.trans (h2.trans (h3.trans h4)))

theorem player_enterEnding {s : State} {h : Handle} (ho : OnePlayer s h) (c : Call) (x : EndReason) {j : Nat} (hj : j < 4) :
    (s.enterEnding h c x).player j = if (s.player j).call = some h then .idle else s.player j := by
  rw [← player_freePlayerOf ho hj, State.player, enterEnding_players]
  rfl

theorem endingsWriteParts : EndingsWriteParts := by
  intro s h c x hslot hl
  have hc := call_of_slot hslot
  dsimp only
  rw [endCall_of_live hc hl]
  have hrec : (s.enterEnding h c x).slot h.slot = ⟨h.gen, some (endingRecord s h c x)⟩ := by rw [slot_enterEnding hc, if_pos rfl]
  refine ⟨⟨_, hrec, endingKeeps_endingPart s h c.part⟩, ⟨_, hrec, rfl, rfl, rfl⟩,
    fun hp i hi => player_enterEnding (onePlayer_of_playersOk hp h) c x hi, fun ha => ?_, fun ha => ?_⟩
  · obtain ⟨h1, -⟩ := enterEnding_alarms s h c x
    rw [if_pos ha] at h1
    obtain ⟨h3, h4⟩ := alarmSeq_set s (slot_lt_of_call hc) (.inr (rfl : h.slot = h.slot))
    refine ⟨by rw [State.alarmSeq, h1]; exact h3, by rw [State.alarmSeq, h1]; exact h4, fun i hi => ?_⟩
    rw [trigger_enterEnding _ _ _ _ hi, if_pos ha]; rfl
  · obtain ⟨h1, h2⟩ := enterEnding_alarms s h c x
    rw [if_neg ha] at h1 h2
    exact ⟨h1, h2⟩

/-! ## RETIRE_CALL (02 R39, 08 R154) -/

theorem heldInputOwns_iff {s : State} {h : Handle} : s.heldInputOwns h = true ↔
    ∃ i, i < 4 ∧ (s.trigger i).owned = some h ∧ (s.trigger i).mode = .held ∧ (s.trigger i).debounced = true := by
  simp only [State.heldInputOwns, List.any_eq_true, Bool.and_eq_true, beq_iff_eq, and_assoc]
  constructor
  · rintro ⟨t, ht, hrest⟩
    obtain ⟨i, hi, rfl⟩ := Table.exists_get_of_mem (.initial .off false) ht
    exact ⟨i, hi, hrest⟩
  · rintro ⟨i, hi, hrest⟩
    exact ⟨_, Table.get_mem _ _ _ hi, hrest⟩

/-- What the end of a call reads of the part beside the call table. -/
theorem endingPart_congr {s t : State} (he : t.endpoints = s.endpoints) (hp : t.players = s.players) (h : Handle) (p : CallPart) :
    t.endingPart h p = s.endingPart h p := by
  have hep := ep_congr he
  have hpl : ∀ i, t.player i = s.player i := fun i => by rw [State.player, State.player, hp]
  simp only [State.endingPart, State.speakers, hep, hpl]

theorem replied_players (s : State) (p : Port) (o : Owner) (c : Instr) (a : AnswerCode) (d : List Byte) :
    (s.replied p o c a d).players = s.players := by cases p <;> rfl

theorem replied_port_ne (s : State) {p q : Port} (hpq : q ≠ p) (o : Owner) (c : Instr) (a : AnswerCode) (d : List Byte) :
    (s.replied p o c a d).port q = s.port q := by
  cases p <;> cases q
  · exact absurd rfl hpq
  · rfl
  · rfl
  · exact absurd rfl hpq

theorem retireEnds : RetireEnds := by
  intro s p tag h r hm hheld hl hn hh hr he hlock
  dsimp only
  have hgate : gateRetire r = none := by simp [gateRetire, he]
  have hfor : (s.begun p .callTable (.retireCall p tag h) .waiting).callFor p h gateRetire true = .ok r := by
    rw [begun_callFor]; exact callFor_ok hh hr hgate fun _ => hlock
  have howns : (s.begun p .callTable (.retireCall p tag h) .waiting).heldInputOwns h = s.heldInputOwns h := by
    rw [State.heldInputOwns, begun_triggers]; rfl
  refine ⟨fun ho => congrArg Host.Outcome.next (request_answered hm ?_), fun ho => ?_⟩
  · unfold takeRetireCall
    rw [hfor]
    dsimp only
    rw [howns, if_pos (heldInputOwns_iff.2 ho)]
    rfl
  · have htake : takeRetireCall p h (s.begun p .callTable (.retireCall p tag h) .waiting) =
        settle (s.begun p .callTable (.retireCall p tag h) .waiting)
          ((s.replied p .callTable (.retireCall p tag h) .ok []).endCall h .retired) := by
      unfold takeRetireCall
      rw [hfor]
      dsimp only
      rw [howns, if_neg fun ho' => ho (heldInputOwns_iff.1 ho'), State.begun_answer hm]
    refine ⟨_, congrArg Host.Outcome.next ((State.request_of_mayTake _ _ hm).trans htake), ?_⟩
    generalize s.begun p .callTable (.retireCall p tag h) .waiting = s0
    generalize hw : s.replied p .callTable (.retireCall p tag h) .ok [] = w
    obtain ⟨hcalls, hends, htrig, -⟩ := hw ▸ replied_calls s p .callTable (.retireCall p tag h) .ok []
    have hplayers := hw ▸ replied_players s p .callTable (.retireCall p tag h) .ok []
    have hans := hw ▸ replied_answered hm (.retireCall p tag h) .ok []
    have hstand := hw ▸ replied_standing s p .callTable (.retireCall p tag h) .ok []
    have hother : ∀ q, q ≠ p → w.port q = s.port q := fun q hq => by rw [← hw]; exact replied_port_ne s hq _ _ _ _
    have hcall : w.call h = some r := call_of_slot (by rw [State.slot, hcalls]; exact hr)
    have hnw : w.noPending = true := by unfold State.noPending; rw [htrig]; exact hn
    have hapart : Apart w h r.type.listClass := fun e => by
      rw [ep_congr hends]; exact apart_of_listingsOk hl (call_of_slot hr) e
    have hend : w.endCall h .retired = w.enterEnding h r .retired := endCall_of_live hcall (by rw [he]; rfl) _
    have hne := enterEnding_noPending hnw h r .retired
    have hending := ending_enterEnding hcall hapart .retired
    refine ⟨?_, ?_, ?_, fun sw hs hk q ha hq => ?_, ?_⟩
    · obtain ⟨h1, h2⟩ := settle_port (endCall_noPending hnw h .retired) s0 p
      rw [port_endCall_idle hans.2] at h1 h2
      exact answered_congr hans rfl h1 h2
    · rw [hend]; exact (hending.settled hne s0).1
    · rw [hend]
      refine hending.keeping hne s0 ?_
      show EndingKeeps s h r.part (w.endingPart h r.part)
      rw [endingPart_congr hends hplayers]
      exact endingKeeps_endingPart s h r.part
    · have hsp : sw.port ≠ p := by
        rintro rfl
        rw [((State.mayTake_iff s _ _).1 hm).1] at hq
        cases hq
      rw [hend]
      obtain ⟨h1, h2⟩ := settle_port hne s0 sw.port
      have hcode : sw.stopCode r.type .retired = .unknownCall := by
        cases hkind : sw.kind <;> simp_all [Sweep.stopCode]
      have := enterEnding_answers (s := w) (h := h) hs ha (by rw [hother _ hsp]; exact hq) .retired
      rw [hcode] at this
      exact answered_congr this (by rw [hother _ hsp]) h1 h2
    · rw [State.settle_standing, State.endCall_standing, hstand]

/-- Settles O29, from the stages of an entry to ENDING. -/
theorem retireCallEnds : Obligations.RetireCallEnds := ⟨retireEnds, endingsStopSweeps, endingsWriteParts⟩

end Sys2Proof.Calls
end

section
/-! PROOFS. A command that ends several calls, one after the other (02 R40; 07 R130; log 34): what each of them keeps. -/

namespace Sys2Proof.Calls

open Sys2Proof.Machine

/-! ## The foreground through the departure of another call's listing -/

theorem fg_rechooseDuck (x : EpCtx) (ep : Endpoint) : (ep.rechooseDuck x).fg = ep.fg := by
  unfold Endpoint.rechooseDuck Endpoint.silenceUnderAlarm Endpoint.refit
  split <;> split <;> rfl

theorem fg_finish (x : EpCtx) (r : Endpoint × List Report) : (Endpoint.finish x r).1.fg = r.1.fg := fg_rechooseDuck x r.1

theorem fg_setDep (sl : DepSlot) (v : Option Departing) (ep : Endpoint) : (ep.setDep sl v).fg = ep.fg := by cases sl <;> rfl
theorem fg_freeDep (sl : DepSlot) (ep : Endpoint) : (ep.freeDep sl).fg = ep.fg := fg_setDep sl none ep
theorem fg_cutDeparting (ep : Endpoint) : ep.cutDeparting.fg = ep.fg := (fg_freeDep .one (ep.freeDep .zero)).trans (fg_freeDep .zero ep)

theorem fg_depart (a : Admitted) (ep : Endpoint) : (ep.depart a).1.fg = ep.fg := by
  unfold Endpoint.depart
  split
  · rfl
  · exact (fg_setDep ep.depTarget _ (ep.freeDep ep.depTarget)).trans (fg_freeDep _ _)

theorem fg_takeBack (l : Listing) (ep : Endpoint) : (ep.takeBack l).1.fg = ep.fg := by
  unfold Endpoint.takeBack
  split
  · rfl
  · split
    · rfl
    · exact fg_setDep _ _ _

theorem fg_setWait (c : ListClass) (w : List Listing) (ep : Endpoint) : (ep.setWait c w).fg = ep.fg := by cases c <;> rfl

theorem fg_giveSlot_background (x : EpCtx) (l : Listing) (n : Nat) (ep : Endpoint) : (ep.giveSlot x .background l n).fg = ep.fg := by
  unfold Endpoint.giveSlot
  split
  · exact fg_cutDeparting ep
  · rfl

theorem fg_promote_background (x : EpCtx) (ep : Endpoint) : (ep.promote x .background).fg = ep.fg := by
  unfold Endpoint.promote
  split
  · exact (fg_giveSlot_background _ _ _ _).trans (fg_takeBack _ _)
  · rfl

/-- A removal from the background leaves the foreground as it is. -/
theorem fg_remove_background (x : EpCtx) (h : Handle) (k : Cause) (ep : Endpoint) : (ep.remove x .background h k).1.fg = ep.fg := by
  unfold Endpoint.remove
  rw [fg_finish]
  split
  · split
    · exact (fg_promote_background _ _).trans (fg_depart _ _)
    · rfl
  · rfl

/-- The removal of a call leaves the foreground that another call has. -/
theorem fg_remove_ne {ep : Endpoint} {a : Admitted} (ha : ep.fg = some a) {h : Handle} (hne : a.listing.call ≠ h) (x : EpCtx)
    (cl : ListClass) (k : Cause) : (ep.remove x cl h k).1.fg = some a := by
  cases cl with
  | background => rw [fg_remove_background, ha]
  | foreground =>
    unfold Endpoint.remove
    rw [fg_finish]
    simp only [Endpoint.slot, ha, if_neg hne]
    exact ha

theorem mem_joined {s : State} {h : Handle} {ps : List Participant} {st : Nat} : st ∈ joined s h ps ↔
    st ∈ ps.map (·.station) ∧ ∃ a, (s.ep st).fg = some a ∧ a.listing.call = h ∧ a.listing.muted = false := by
  unfold joined
  rw [List.mem_filter]
  refine and_congr_right fun _ => ?_
  cases (s.ep st).fg with
  | none => simp
  | some a => simp

/-- The end of another call keeps the speakers. -/
theorem joined_enterEnding {s : State} {h k : Handle} (hk : k ≠ h) (c : Call) (x : EndReason) (ps : List Participant) :
    ∀ st ∈ joined s h ps, st ∈ joined (s.enterEnding k c x) h ps := by
  intro st hst
  rw [mem_joined] at hst ⊢
  obtain ⟨hmem, a, ha, hcall, hmute⟩ := hst
  refine ⟨hmem, a, ?_, hcall, hmute⟩
  rw [ep_enterEnding, withdrawn]
  split
  · exact fg_remove_ne ha (by rw [hcall]; exact hk.symm) _ _ _
  · exact ha

/-! ## Ends in a row -/

/-- The event `f` for a call ends it with reason `x`, or does nothing. -/
def EndsOrStays (x : EndReason) (f : State → Handle → State) : Prop := ∀ s h, f s h = s.endCall h x ∨ f s h = s

section

variable {x : EndReason} {f : State → Handle → State}

/-- What one such event may be: the entry to ENDING of a live call, or nothing. -/
theorem EndsOrStays.cases (hf : EndsOrStays x f) (s : State) (k : Handle) :
    (∃ c, s.call k = some c ∧ c.state.live = true ∧ f s k = s.enterEnding k c x) ∨ f s k = s := by
  rcases hf s k with h | h
  · rcases endCall_cases s k x with ⟨c, hc, hl, he⟩ | ⟨-, he⟩
    · exact .inl ⟨c, hc, hl, h.trans he⟩
    · exact .inr (h.trans he)
  · exact .inr h

/-- A property that every entry to ENDING of a listed call keeps holds after the row. -/
theorem EndsOrStays.foldl (hf : EndsOrStays x f) {P : State → Prop} {l : List Handle}
    (hP : ∀ s, P s → ∀ k ∈ l, ∀ c, s.call k = some c → c.state.live = true → P (s.enterEnding k c x)) {s : State} (hs : P s) :
    P (l.foldl f s) := by
  induction l generalizing s with
  | nil => exact hs
  | cons k l ih =>
    refine ih (fun s hs k hk => hP s hs k (List.mem_cons_of_mem _ hk)) ?_
    rcases hf.cases s k with ⟨c, hc, hl, he⟩ | he <;> rw [he]
    · exact hP s hs k (List.mem_cons_self ..) c hc hl
    · exact hs

theorem EndsOrStays.slot (hf : EndsOrStays x f) {l : List Handle} {j : Nat} (hj : ∀ k ∈ l, k.slot ≠ j) (s : State) :
    (l.foldl f s).slot j = s.slot j :=
  hf.foldl (P := fun t => t.slot j = s.slot j) (fun t ht k hk c hc _ => by rw [slot_enterEnding hc, if_neg (hj k hk), ht]) rfl

theorem EndsOrStays.noPending (hf : EndsOrStays x f) (l : List Handle) {s : State} (hs : s.noPending = true) :
    (l.foldl f s).noPending = true :=
  hf.foldl (P := fun t => t.noPending = true) (fun _ ht k _ c _ _ => enterEnding_noPending ht k c x) hs

theorem EndsOrStays.apart (hf : EndsOrStays x f) (l : List Handle) {s : State} {h : Handle} {cl : ListClass} (hs : Apart s h cl) :
    Apart (l.foldl f s) h cl :=
  hf.foldl (P := fun t => Apart t h cl) (fun _ ht k _ c _ _ => ht.enterEnding k c x) hs

theorem EndsOrStays.ending (hf : EndsOrStays x f) (l : List Handle) {s : State} {h : Handle} {y : EndReason} {d : Call}
    (hs : Ending s h y d) : Ending (l.foldl f s) h y d :=
  hf.foldl (P := fun t => Ending t h y d) (fun _ ht _ _ _ hc hl => ht.enterEnding hc hl) hs

theorem EndsOrStays.speakers (hf : EndsOrStays x f) {l : List Handle} {h : Handle} (hl : h ∉ l) (s : State) (ps : List Participant) :
    ∀ st ∈ joined s h ps, st ∈ joined (l.foldl f s) h ps :=
  hf.foldl (P := fun t => ∀ st ∈ joined s h ps, st ∈ joined t h ps)
    (fun _ ht k hk c _ _ st hst => by
      have hne : k ≠ h := fun he => hl (he ▸ hk)
      exact joined_enterEnding hne c x ps st (ht st hst)) fun _ h => h

/-- A player that serves a call stays with it while others end. -/
theorem player_enterEnding_ne {s : State} {h k : Handle} (hk : k ≠ h) (c : Call) (y : EndReason) {i : Nat}
    (hi : (s.player i).call = some h) : (s.enterEnding k c y).player i = s.player i := by
  rw [State.player, enterEnding_players]
  show (s.freePlayerOf k).player i = s.player i
  unfold State.freePlayerOf
  split
  · rename_i j hj
    rw [player_freePlayer (List.mem_range.1 (List.mem_of_find?_eq_some hj)), if_neg]
    rintro rfl
    have := List.find?_some hj
    simp only [hi, beq_iff_eq, Option.some.injEq] at this
    exact hk this.symm
  · rfl

theorem EndsOrStays.player (hf : EndsOrStays x f) {l : List Handle} {h : Handle} (hl : h ∉ l) {s : State} {i : Nat}
    (hi : (s.player i).call = some h) : (l.foldl f s).player i = s.player i :=
  hf.foldl (P := fun t => t.player i = s.player i) (fun t ht k hk c _ _ => by
    have hne : k ≠ h := fun he => hl (he ▸ hk)
    rw [player_enterEnding_ne hne c x (by rw [ht]; exact hi), ht]) rfl

theorem EndsOrStays.port_idle (hf : EndsOrStays x f) (l : List Handle) {s : State} {q : Port} (hq : (s.port q).inProgress = none) :
    (l.foldl f s).port q = s.port q :=
  hf.foldl (P := fun t => t.port q = s.port q) (fun t ht k _ c hc hl => by
    rw [← endCall_of_live hc hl, port_endCall_idle (by rw [ht]; exact hq), ht]) rfl

/-- A port whose request waits for none of the calls is answered by none of their ends. -/
theorem EndsOrStays.port (hf : EndsOrStays x f) {l : List Handle} (hn : (l.map (·.slot)).Nodup) {s : State} {q : Port}
    (hq : ∀ k ∈ l, ∀ c sw, s.call k = some c → c.sweep = some sw → sw.answers = true → sw.port ≠ q) :
    (l.foldl f s).port q = s.port q := by
  induction l generalizing s with
  | nil => rfl
  | cons k l ih =>
    obtain ⟨hk, hn⟩ := List.nodup_cons.1 hn
    have hslot : ∀ k' ∈ l, (f s k).call k' = s.call k' := fun k' hk' => call_congr (by
      have hne : k.slot ≠ k'.slot := fun he => hk (List.mem_map.2 ⟨k', hk', he.symm⟩)
      exact hf.slot (l := [k]) (by simpa using hne) s)
    have hstep : (f s k).port q = s.port q := by
      rcases hf.cases s k with ⟨c, hc, -, he⟩ | he <;> rw [he]
      rcases port_enterEnding s k c x q with ⟨sw, hs, ha, hp, -⟩ | ⟨-, hp⟩
      · exact absurd hp (hq k (List.mem_cons_self ..) c sw hc hs ha)
      · exact hp
    refine (ih hn fun k' hk' c sw hc hs ha => ?_).trans hstep
    rw [hslot k' hk'] at hc
    exact hq k' (List.mem_cons_of_mem _ hk') c sw hc hs ha

/-- The moment of a row of ends at which call `h` ends: the calls before it have ended, and it is as it was. -/
structure RowEnd (x : EndReason) (f : State → Handle → State) (l : List Handle) (s : State) (h : Handle) (c : Call) (v : State) : Prop where
  call : v.call h = some c
  ending : Ending (l.foldl f s) h x (endingRecord v h c x)
  before : ∃ l1 l2, l = l1 ++ h :: l2 ∧ v = l1.foldl f s ∧ l.foldl f s = l2.foldl f (v.enterEnding h c x) ∧ h ∉ l1

theorem EndsOrStays.rowEnd (hf : EndsOrStays x f) {l : List Handle} (hn : (l.map (·.slot)).Nodup) {s : State} {h : Handle} {c : Call}
    (hh : h ∈ l) (hc : s.call h = some c) (hl : c.state.live = true) (ha : Apart s h c.type.listClass)
    (he : ∀ v : State, v.call h = some c → f v h = v.endCall h x) : ∃ v, RowEnd x f l s h c v := by
  obtain ⟨l1, l2, rfl⟩ := List.mem_iff_append.1 hh
  rw [List.map_append, List.map_cons] at hn
  have hslot : ∀ k ∈ l1, k.slot ≠ h.slot := fun k hk he =>
    (List.nodup_append.1 hn).2.2 k.slot (List.mem_map_of_mem hk) h.slot (List.mem_cons_self ..) he
  have hv : (l1.foldl f s).call h = some c := (call_congr (hf.slot hslot s)).trans hc
  have hend : (l1 ++ h :: l2).foldl f s = l2.foldl f ((l1.foldl f s).enterEnding h c x) := by
    rw [List.foldl_append, List.foldl_cons, he _ hv, endCall_of_live hv hl]
  refine ⟨l1.foldl f s, hv, ?_, l1, l2, rfl, rfl, hend, fun hm => hslot h hm rfl⟩
  rw [hend]
  exact hf.ending l2 (ending_enterEnding hv (hf.apart l1 ha) x)

/-- A message ends in the row with the position it had before. -/
theorem RowEnd.message (hf : EndsOrStays x f) {l : List Handle} {s v : State} {h : Handle} {c : Call} (hr : RowEnd x f l s h c v)
    {m : MessagePart} (hm : c.part = .message m) (hp : ∀ i, m.player = some i → (s.player i).call = some h) :
    EndingKeeps s h c.part (endingRecord v h c x).part := by
  obtain ⟨l1, -, -, rfl, -, hl⟩ := hr.before
  rw [show (endingRecord (l1.foldl f s) h c x).part = (l1.foldl f s).endingPart h c.part from rfl, hm]
  cases hplay : m.player with
  | none => simp [EndingKeeps, State.endingPart, hplay]
  | some i => simp [EndingKeeps, State.endingPart, hplay, hf.player hl (hp i hplay)]

/-- A request that waits for the sweep of a call of the row is answered at the call's end. -/
theorem RowEnd.answers (hf : EndsOrStays x f) {l : List Handle} {s v : State} {h : Handle} {c : Call} (hr : RowEnd x f l s h c v)
    (hn : (l.map (·.slot)).Nodup) {sw : Sweep} (hs : c.sweep = some sw) (ha : sw.answers = true) {q : Instr}
    (hq : (s.port sw.port).inProgress = some ⟨q, .sweeping h.slot⟩)
    (hone : ∀ k ∈ l, k ≠ h → ∀ d sw', s.call k = some d → d.sweep = some sw' → sw'.answers = true → sw'.port ≠ sw.port) :
    AnsweredWith s (l.foldl f s) sw.port q (sw.stopCode c.type x) (stoppedData h sw) := by
  obtain ⟨l1, l2, rfl, hv, he, hl⟩ := hr.before
  have hn1 : (l1.map (·.slot)).Nodup := by
    rw [List.map_append] at hn; exact (List.nodup_append.1 hn).1
  have hport : v.port sw.port = s.port sw.port := by
    rw [hv]
    exact hf.port hn1 fun k hk => hone k (List.mem_append_left _ hk) (by rintro rfl; exact hl hk)
  have hans := enterEnding_answers (h := h) hs ha (by rw [hport]; exact hq) x
  rw [he]
  have hlast := hf.port_idle l2 hans.2
  exact answered_congr hans (by rw [hport]) (by rw [hlast]) (by rw [hlast])

end

end Sys2Proof.Calls
end

section
/-! PROOFS. CLEAR_CALLS (02 R40). -/

namespace Sys2Proof.Calls

open Sys2Proof.Machine

theorem handles_slots_nodup (s : State) : (s.handles.map (·.slot)).Nodup := by
  refine List.Nodup.map_on (fun h hh k hk hs => ?_) (handles_nodup s)
  obtain ⟨c, hc⟩ := mem_handles.1 hh
  obtain ⟨d, hd⟩ := mem_handles.1 hk
  rw [← handleOf_eq hc, ← handleOf_eq hd, show h.slot = k.slot from hs]

theorem mem_clearable {s : State} {h : Handle} : h ∈ s.clearable ↔ ∃ c, s.call h = some c ∧ c.state.live = true ∧ c.locked = false := by
  simp only [State.clearable, List.mem_filter, mem_handles]
  constructor
  · rintro ⟨⟨c, hc⟩, hp⟩
    exact ⟨c, hc, by simpa [hc] using hp⟩
  · rintro ⟨c, hc, hl, hk⟩
    exact ⟨⟨c, hc⟩, by simp [hc, hl, hk]⟩

theorem clearable_slots_nodup (s : State) : (s.clearable.map (·.slot)).Nodup :=
  (List.filter_sublist.map _).nodup (handles_slots_nodup s)

theorem clearable_length (s : State) :
    s.clearable.length = (List.range 64).countP fun i => (s.slot i).record.any fun r => r.state.live && !r.locked := by
  rw [State.clearable, ← List.countP_eq_length_filter, State.handles, List.countP_filterMap]
  refine List.countP_congr fun i _ => ?_
  cases hr : (s.slot i).record with
  | none => simp
  | some r => simp [call_handleOf hr]

theorem endsOrStays_clear : EndsOrStays .cleared fun s h => s.endCall h .cleared := fun _ _ => .inl rfl

/-- The state after a CLEAR_CALLS has ended the calls and answered, before the event settles. -/
def cleared (p : Port) (b : State) : State := (b.clearAll b.clearable).answer p .ok (byte1 b.clearable.length)

theorem begun_port_ne (s : State) {p q : Port} (hpq : q ≠ p) (o : Owner) (c : Instr) (ph : Phase) :
    (s.begun p o c ph).port q = s.port q := by
  cases p <;> cases q
  · exact absurd rfl hpq
  · rfl
  · rfl
  · exact absurd rfl hpq

theorem begun_players (s : State) (p : Port) (o : Owner) (c : Instr) (ph : Phase) : (s.begun p o c ph).players = s.players := by
  cases p <;> rfl

theorem begun_standing (s : State) (p : Port) (o : Owner) (c : Instr) (ph : Phase) :
    (s.begun p o c ph).standing = (s.serve p o).standing := State.setPort_standing _ _ _ rfl

section

variable {s b : State} {p : Port} {tag : Nat}

theorem cleared_noPending (hn : b.noPending = true) : (cleared p b).noPending = true := by
  have h := answer_only (b.clearAll b.clearable) p .ok (byte1 b.clearable.length)
  unfold State.noPending cleared
  rw [h.alarms.2.1]
  exact endsOrStays_clear.noPending b.clearable hn

/-- An unlocked live call of a CLEAR_CALLS ends at its place in the row. -/
theorem cleared_rowEnd (hl : b.listingsOk) {h : Handle} {c : Call} (hc : b.call h = some c) (hlive : c.state.live = true)
    (hlock : c.locked = false) :
    ∃ v, RowEnd .cleared (fun s h => s.endCall h .cleared) b.clearable b h c v ∧
      Ending (cleared p b) h .cleared (endingRecord v h c .cleared) := by
  obtain ⟨v, hv⟩ := endsOrStays_clear.rowEnd (clearable_slots_nodup b) (mem_clearable.2 ⟨c, hc, hlive, hlock⟩) hc hlive
    (apart_of_listingsOk hl hc) fun _ _ => rfl
  exact ⟨v, hv, hv.ending.ports (answer_only _ _ _ _)⟩

/-- A TALK of a CLEAR_CALLS keeps its leader, and of its participants all its speakers. -/
theorem cleared_talk {h : Handle} {c : Call} {v : State}
    (hv : RowEnd .cleared (fun s h => s.endCall h .cleared) b.clearable b h c v) {k : TalkPart} (hk : c.part = .talk k) :
    ∃ q, (endingRecord v h c .cleared).part = .talk q ∧ q.duplex = k.duplex ∧
      q.keptLeader = k.participants.head?.map (·.station) ∧ (∀ st ∈ joined b h k.participants, st ∈ q.kept) ∧
      ∀ st ∈ q.kept, st ∈ k.participants.map (·.station) := by
  obtain ⟨l1, -, -, rfl, -, hl⟩ := hv.before
  refine ⟨{ k with
      participants := [], kept := (l1.foldl (fun s h => s.endCall h .cleared) b).speakers h k.participants,
      keptLeader := k.participants.head?.map (·.station) }, by rw [endingRecord, hk]; rfl, rfl, rfl, ?_, ?_⟩ <;>
    dsimp only <;> rw [speakers_eq_joined]
  · exact endsOrStays_clear.speakers hl b k.participants
  · exact fun st hst => (mem_joined.1 hst).1

/-- In a state in which each waiting sweep has its own port's request, no other call's end answers the request of a call. -/
theorem sweep_ports_apart (hh : s.sweepsHeld) {h k : Handle} {c d : Call} {sw sw' : Sweep} (hc : s.call h = some c)
    (hd : s.call k = some d) (hne : k ≠ h) (hs : c.sweep = some sw) (hs' : d.sweep = some sw') (ha : sw.answers = true)
    (ha' : sw'.answers = true) : sw'.port ≠ sw.port := by
  obtain ⟨r, hr⟩ := hh.1 h.slot c sw (record_of_call hc) hs ha
  obtain ⟨r', hr'⟩ := hh.1 k.slot d sw' (record_of_call hd) hs' ha'
  intro he
  rw [he, hr] at hr'
  have hslot : h.slot = k.slot := by
    injection hr' with h1; injection h1 with _ h2; injection h2
  exact hne (by rw [← handleOf_eq hc, ← handleOf_eq hd, hslot])

end

/-- Settles O30, from the row of ends that a CLEAR_CALLS is. -/
theorem clearCallsEndsUnlocked : Obligations.ClearCallsEndsUnlocked := by
  intro s p tag hm hheld hl hn
  obtain ⟨hidle, -⟩ := (State.mayTake_iff s _ _).1 hm
  refine ⟨_, congrArg Host.Outcome.next (State.request_of_mayTake _ _ hm), ?_⟩
  generalize hb : s.begun p .callTable (.clearCalls p tag) .waiting = b
  rw [show takeClearCalls p b = settle b (cleared p b) from rfl]
  have hslot : ∀ i, b.slot i = s.slot i := fun i => by rw [← hb]; exact begun_slot ..
  have hends : b.endpoints = s.endpoints := by rw [← hb]; exact begun_endpoints ..
  have hplayers : b.players = s.players := by rw [← hb]; exact begun_players ..
  have hcall : ∀ h, b.call h = s.call h := fun h => call_congr (hslot _)
  have hport : b.port p = { s.port p with inProgress := some ⟨.clearCalls p tag, .waiting⟩ } := by rw [← hb]; exact State.begun_port ..
  have hother : ∀ q, q ≠ p → b.port q = s.port q := fun q hq => by rw [← hb]; exact begun_port_ne s hq ..
  have hnb : b.noPending = true := by rw [← hb]; unfold State.noPending; rw [begun_triggers]; exact hn
  have hlb : b.listingsOk := by
    rw [← hb]; unfold State.listingsOk at hl ⊢
    simpa only [begun_endpoints, begun_call, begun_slot, begun_ep, State.handleOf] using hl
  have hnc : (cleared p b).noPending = true := cleared_noPending hnb
  have hstand : b.standing = (s.serve p .callTable).standing := by rw [← hb]; exact begun_standing ..
  clear hb
  -- no call's sweep waits for the port that has brought the request
  have hfree : ∀ k ∈ b.clearable, ∀ c sw, b.call k = some c → c.sweep = some sw → sw.answers = true → sw.port ≠ p := by
    rintro k - c sw hc hs ha rfl
    obtain ⟨r, hr⟩ := hheld.1 k.slot c sw (record_of_call ((hcall k).symm.trans hc)) hs ha
    rw [hidle] at hr; cases hr
  refine ⟨?_, fun i r hr hlive hlock => ?_, fun i r hr hno => ?_, ?_⟩
  · have hw : (b.clearAll b.clearable).port p = b.port p := endsOrStays_clear.port (clearable_slots_nodup b) hfree
    obtain ⟨h1, h2⟩ := settle_port hnc b p
    have hu : (cleared p b).port p = (b.port p).result .ok (byte1 b.clearable.length) := by
      rw [cleared, port_answer, if_pos rfl, hw]
    have hlen := clearable_length b
    simp only [hslot] at hlen
    rw [hu, hport] at h1 h2
    obtain ⟨h3, h4⟩ := result_answered (r := { s.port p with inProgress := some ⟨.clearCalls p tag, .waiting⟩ }) rfl .ok
      (byte1 b.clearable.length)
    exact ⟨by rw [h1, h3, hlen], by rw [h2, h4]⟩
  · intro h
    have hc : s.call h = some r := call_handleOf hr
    have hi : h.slot = i := rfl
    clear_value h
    obtain ⟨v, hv, hend⟩ := cleared_rowEnd (p := p) hlb ((hcall h).trans hc) hlive hlock
    obtain ⟨hin, u, hu, hdu⟩ := hend.settled hnc b
    refine ⟨hin, fun m hm hp => ?_, fun k hk => ?_, fun sw ht hs q ha hq => ?_⟩
    · refine hend.keeping hnc b ?_
      have := hv.message endsOrStays_clear hm fun j hj => by
        rw [State.player, hplayers]; exact (hp.2.2.1 h r m j hc hm hj).2
      rw [hm] at this ⊢
      simpa only [EndingKeeps, State.player, hplayers] using this
    · obtain ⟨q, hq, hdup, hlead, hkept, hpart⟩ := cleared_talk hv hk
      have hjoin : joined b h k.participants = joined s h k.participants := by
        unfold joined; simp only [ep_congr hends]
      exact ⟨u, q, by rw [← hi]; exact hu, hdu.part.talk q hq, hdup, hlead, hjoin ▸ hkept, hpart⟩
    · have hsp : sw.port ≠ p := by rintro rfl; rw [hidle] at hq; cases hq
      have hbs := hother _ hsp
      have hans := hv.answers endsOrStays_clear (clearable_slots_nodup b) hs ha (by rw [hbs, hi]; exact hq)
        fun k hk hne d sw' hd hs' ha' => sweep_ports_apart hheld hc ((hcall k).symm.trans hd) hne hs hs' ha ha'
      have hcode : sw.stopCode r.type .cleared = .cleared := by
        cases hkind : sw.kind <;> simp_all [Sweep.stopCode]
      rw [hcode] at hans
      obtain ⟨h1, h2⟩ := settle_port hnc b sw.port
      have hu : (cleared p b).port sw.port = (b.clearAll b.clearable).port sw.port := by
        rw [cleared, port_answer, if_neg (Ne.symm hsp)]
      rw [hu] at h1 h2
      exact answered_congr hans (by rw [hbs]) h1 h2
  · have hw : (cleared p b).slot i = s.slot i := by
      have hk : ∀ k ∈ b.clearable, k.slot ≠ i := by
        rintro k hk rfl
        obtain ⟨c, hc, hl1, hl2⟩ := mem_clearable.1 hk
        have hc' := record_of_call ((hcall k).symm.trans hc)
        rw [hr] at hc'
        cases hc'
        rcases hno with h | h
        · rw [h] at hl1; cases hl1
        · rw [h] at hl2; cases hl2
      have h1 : (b.clearAll b.clearable).slot i = b.slot i := endsOrStays_clear.slot hk b
      have h2 : (cleared p b).slot i = (b.clearAll b.clearable).slot i :=
        congrArg (fun t : Table CallSlot 64 => t.get i .initial) (answer_only _ _ _ _).calls
      rw [h2, h1, hslot]
    obtain ⟨d, hd, hrd⟩ := (settles_settle hnc b).slot (k := ⟨i, (s.slot i).gen⟩) (c := r) (by rw [hw, ← hr])
    exact ⟨d, hd, hrd.reason⟩
  · rw [State.settle_standing, cleared, State.answer_standing]
    exact (State.foldl_keep State.standing _ (fun u h => State.endCall_standing u h .cleared) b.clearable b).trans hstand

end Sys2Proof.Calls
end

section
/-! PROOFS. What an endpoint reads of the call table, what the hold outputs hear of its reports, and what a removal leaves there (03
R52, R58, R63; 05 R102, R103). -/

namespace Sys2Proof.Calls

open Sys2Proof.Machine

/-! ## What an endpoint reads -/

/-- The two contexts read the same. -/
structure SameReads (x y : EpCtx) : Prop where
  mode : x.mode = y.mode
  bank : x.bank = y.bank
  gain : x.gainOf = y.gainOf
  ramp : x.rampOf = y.rampOf
  hold : x.holdOf = y.holdOf

section

variable {x y : EpCtx} (h : SameReads x y)

include h

theorem formTerm_congr : formTerm x = formTerm y := by
  funext c ep l n
  simp only [formTerm, refitTerm, gainFor, h.mode, h.bank, h.gain, h.ramp]

theorem rechooseDuck_congr : Endpoint.rechooseDuck x = Endpoint.rechooseDuck y := by
  funext ep
  simp only [Endpoint.rechooseDuck, Endpoint.refit, refitTerm, gainFor, h.mode, h.bank, h.gain]

theorem leaveReports_congr : leaveReports x = leaveReports y := by
  funext k l
  simp only [leaveReports, h.hold]

theorem evalMarks_congr : Endpoint.evalMarks x = Endpoint.evalMarks y := by
  funext ep
  have hm : markReport x = markReport y := by
    funext ep l
    simp only [markReport, h.hold]
  simp only [Endpoint.evalMarks, Endpoint.markFor, hm, h.hold]

theorem finish_congr : Endpoint.finish x = Endpoint.finish y := by
  funext r
  simp only [Endpoint.finish, rechooseDuck_congr h, evalMarks_congr h]

theorem giveSlot_congr : Endpoint.giveSlot x = Endpoint.giveSlot y := by
  funext c l n ep
  simp only [Endpoint.giveSlot, formTerm_congr h]

theorem arrive_congr : Endpoint.arrive x = Endpoint.arrive y := by
  funext c l ep
  simp only [Endpoint.arrive, Endpoint.arriveOver, Endpoint.putWait, finish_congr h, giveSlot_congr h, leaveReports_congr h]

theorem remove_congr : Endpoint.remove x = Endpoint.remove y := by
  funext c k cause ep
  simp only [Endpoint.remove, Endpoint.vacate, Endpoint.promote, finish_congr h, giveSlot_congr h, leaveReports_congr h]

end

/-- What the endpoints read of a call. -/
theorem sameReads_of_calls {s t : State} (hm : t.mixMode = s.mixMode) (hb : t.bank = s.bank)
    (hc : ∀ k, (t.call k).map (fun c => (c.gain, c.ramp, c.part)) = (s.call k).map fun c => (c.gain, c.ramp, c.part)) :
    SameReads t.ctx s.ctx := by
  have hg : ∀ k, (findCall t.ctx.calls k).map (fun c => (c.gain, c.ramp, c.part)) =
      (findCall s.ctx.calls k).map fun c => (c.gain, c.ramp, c.part) := hc
  refine ⟨hm, hb, ?_, ?_, ?_⟩ <;> funext k <;> have hk := hg k <;>
    simp only [EpCtx.gainOf, EpCtx.rampOf, EpCtx.holdOf] <;> revert hk <;>
    cases findCall t.ctx.calls k <;> cases findCall s.ctx.calls k <;> simp
  · exact fun h _ _ => h
  · exact fun _ h _ => h
  · intro _ _ h; rw [h]

/-! ## The hold outputs -/

theorem afterRemoval_pairs (x : Hold) : x.afterRemoval.pairs = x.pairs := by
  unfold Hold.afterRemoval; split
  · split <;> rfl
  · rfl

theorem afterRemoval_bound (x : Hold) : x.afterRemoval.bound = x.bound := by
  unfold Hold.afterRemoval; split
  · split <;> rfl
  · rfl

theorem afterRemoval_state {x : Hold} (h : x.pairs ≠ []) : x.afterRemoval.state = x.state := by
  unfold Hold.afterRemoval; rw [if_neg fun h' => h h'.2]

theorem begins_bound (x : Hold) (k : Handle) (e : Nat) : (x.begins k e).bound = x.bound := by
  unfold Hold.begins; split <;> rfl

theorem ends_bound (x : Hold) (k : Handle) (e : Nat) : (x.ends k e).bound = x.bound := by
  unfold Hold.ends; split
  · exact afterRemoval_bound _
  · rfl

/-- A hold output stands asserted by the interruption of a bound call at an endpoint. -/
def HeldBy (x : Hold) (k : Handle) (e : Nat) : Prop := (k, e) ∈ x.pairs ∧ x.state = .asserted

theorem heldBy_begins {x : Hold} {k : Handle} (hb : k ∈ x.bound) (e : Nat) : HeldBy (x.begins k e) k e := by
  unfold Hold.begins HeldBy
  rw [if_neg (by simpa using hb)]
  refine ⟨?_, rfl⟩
  dsimp only
  split
  · rename_i hp; simpa using hp
  · exact List.mem_append_right _ (List.mem_singleton.2 rfl)

theorem HeldBy.begins {x : Hold} {k : Handle} {e : Nat} (h : HeldBy x k e) (q : Handle) (j : Nat) : HeldBy (x.begins q j) k e := by
  unfold Hold.begins
  split
  · exact h
  · refine ⟨?_, rfl⟩
    dsimp only
    split
    · exact h.1
    · exact List.mem_append_left _ h.1

theorem HeldBy.ends {x : Hold} {k : Handle} {e : Nat} (h : HeldBy x k e) {q : Handle} {j : Nat} (hq : (q, j) ≠ (k, e)) :
    HeldBy (x.ends q j) k e := by
  unfold Hold.ends
  split
  · have hmem : (k, e) ∈ x.pairs.filter (· ≠ (q, j)) := List.mem_filter.2 ⟨h.1, by simp only [decide_eq_true_eq]; exact hq.symm⟩
    refine ⟨by rw [afterRemoval_pairs]; exact hmem, ?_⟩
    rw [afterRemoval_state (List.ne_nil_of_mem hmem)]
    exact h.2
  · exact h

theorem not_mem_ends (x : Hold) (k : Handle) (e : Nat) : (k, e) ∉ (x.ends k e).pairs := by
  unfold Hold.ends
  split
  · rw [afterRemoval_pairs]; simp
  · rename_i h; simpa using h

theorem not_mem_ends_of {x : Hold} {k : Handle} {e : Nat} (h : (k, e) ∉ x.pairs) (q : Handle) (j : Nat) : (k, e) ∉ (x.ends q j).pairs := by
  unfold Hold.ends
  split
  · rw [afterRemoval_pairs]; exact fun hm => h (List.mem_filter.1 hm).1
  · exact h

theorem not_mem_begins {x : Hold} {k : Handle} {e : Nat} (h : (k, e) ∉ x.pairs) {q : Handle} {j : Nat} (hq : (q, j) ≠ (k, e)) :
    (k, e) ∉ (x.begins q j).pairs := by
  unfold Hold.begins
  split
  · exact h
  · dsimp only
    split
    · exact h
    · simpa [h] using hq.symm

/-- What one report does to a hold output: nothing, or it begins or ends an interruption there. -/
theorem get_hear (e : Nat) (hs : Table Hold 4) (r : Report) {o : Nat} (ho : o < 4) :
    (hear e hs r).get o .initial = hs.get o .initial ∧ (∀ k b, r ≠ .interruption k o b) ∨
      ∃ k b, r = .interruption k o b ∧ (hear e hs r).get o .initial =
        if b then (hs.get o .initial).begins k e else (hs.get o .initial).ends k e := by
  cases r with
  | lost k c => exact .inl ⟨rfl, fun _ _ => by simp⟩
  | interruption k o' b =>
    have hget : ∀ x : Hold, (hs.set o' x).get o .initial = if o' = o then x else hs.get o .initial := fun x => by
      by_cases h : o' = o
      · subst h; rw [if_pos rfl, Table.get_set_self _ _ _ _ ho]
      · rw [if_neg h, Table.get_set_ne _ _ _ _ _ h]
    by_cases h : o' = o
    · subst h
      refine .inr ⟨k, b, rfl, ?_⟩
      cases b
      · exact (hget _).trans (if_pos rfl)
      · exact (hget _).trans (if_pos rfl)
    · refine .inl ⟨?_, fun k' b' hr => h (by injection hr)⟩
      cases b
      · exact (hget _).trans (if_neg h)
      · exact (hget _).trans (if_neg h)

/-- The state of a hold output after the reports of a change of places, by which of them name a call. -/
theorem hears (e : Nat) (rs : List Report) (hs : Table Hold 4) (k : Handle) {o : Nat} (ho : o < 4) :
    (k ∈ (hs.get o .initial).bound → k ∈ ((rs.foldl (hear e) hs).get o .initial).bound) ∧
    (.interruption k o false ∉ rs → k ∈ (hs.get o .initial).bound →
      (.interruption k o true ∈ rs ∨ HeldBy (hs.get o .initial) k e) → HeldBy ((rs.foldl (hear e) hs).get o .initial) k e) ∧
    (.interruption k o true ∉ rs → (.interruption k o false ∈ rs ∨ (k, e) ∉ (hs.get o .initial).pairs) →
      (k, e) ∉ ((rs.foldl (hear e) hs).get o .initial).pairs) := by
  induction rs generalizing hs with
  | nil => exact ⟨id, fun _ _ h => h.resolve_left (by simp), fun _ h => h.resolve_left (by simp)⟩
  | cons r rs ih =>
    obtain ⟨ih1, ih2, ih3⟩ := ih (hear e hs r)
    rw [List.foldl_cons]
    rcases get_hear e hs r ho with ⟨hr, hno⟩ | ⟨q, b, rfl, hr⟩
    · rw [hr] at ih1 ih2 ih3
      simp only [List.mem_cons, (hno k true).symm, (hno k false).symm, false_or]
      exact ⟨ih1, ih2, ih3⟩
    · have hbound : ((hear e hs (.interruption q o b)).get o .initial).bound = (hs.get o .initial).bound := by
        rw [hr]
        cases b
        · exact ends_bound _ _ _
        · exact begins_bound _ _ _
      rw [hbound] at ih1 ih2
      refine ⟨ih1, fun hn hk h => ih2 (fun hm => hn (List.mem_cons_of_mem _ hm)) hk ?_,
        fun hn h => ih3 (fun hm => hn (List.mem_cons_of_mem _ hm)) ?_⟩
      · rw [hr]
        cases b with
        | true =>
          by_cases hq : k = q
          · subst hq; exact .inr (heldBy_begins hk e)
          · rcases h with h | h
            · exact .inl ((List.mem_cons.1 h).resolve_left fun he => hq (by injection he))
            · exact .inr (h.begins q e)
        | false =>
          have hq : (q, e) ≠ (k, e) := fun he => hn (by rw [show q = k from congrArg Prod.fst he]; exact List.mem_cons_self ..)
          rcases h with h | h
          · exact .inl ((List.mem_cons.1 h).resolve_left (by simp))
          · exact .inr (h.ends hq)
      · rw [hr]
        cases b with
        | false =>
          by_cases hq : k = q
          · subst hq; exact .inr (not_mem_ends _ _ _)
          · rcases h with h | h
            · exact .inl ((List.mem_cons.1 h).resolve_left fun he => hq (by injection he))
            · exact .inr (not_mem_ends_of h q e)
        | true =>
          have hq : (q, e) ≠ (k, e) := fun he => hn (by rw [show q = k from congrArg Prod.fst he]; exact List.mem_cons_self ..)
          rcases h with h | h
          · exact .inl ((List.mem_cons.1 h).resolve_left (by simp))
          · exact .inr (not_mem_begins h hq)

/-- The hold outputs that have taken the reports and nothing else have heard them. -/
theorem holdsHear_of_eq {s t : State} {e : Nat} {rs : List Report} (ht : t.holds = rs.foldl (hear e) s.holds) : HoldsHear s t e rs := by
  intro k o ho
  obtain ⟨-, h2, h3⟩ := hears e rs s.holds k ho
  have hhold : t.hold o = (rs.foldl (hear e) s.holds).get o .initial := by rw [State.hold, ht]
  rw [hhold]
  exact ⟨fun hb he hk => h2 he hk (.inl hb), fun he hb => h3 hb (.inl he)⟩

/-! ## A removal -/

/-- Where the call is listed only in its class, and once, its removal leaves no listing of it. -/
theorem remove_unlisted {ep : Endpoint} {h : Handle} {cl : ListClass} (honce : ((keys cl ep).map (·.1)).Nodup)
    (hcl : ∀ d, ∀ k ∈ keys d ep, k.1 = h → d = cl) (x : EpCtx) (cause : Cause) : (ep.remove x cl h cause).1.lists h = false := by
  refine lists_false_iff.2 fun d k hk hkh => ?_
  by_cases hd : d = cl
  · subst hd
    rw [keys_remove honce] at hk
    simpa [hkh] using (List.mem_filter.1 hk).2
  · rw [keys_remove_ne hd] at hk
    exact hd (hcl d k hk hkh)

theorem remove_subperm (x : EpCtx) (h : Handle) (cl : ListClass) (cause : Cause) (d : ListClass) (ep : Endpoint) :
    (keys d (ep.remove x cl h cause).1).Subperm (keys d ep) := by
  by_cases hd : d = cl
  · subst hd; exact (keys_remove_sublist x d h cause ep).subperm
  · rw [keys_remove_ne hd]

/-- A removal of a listing reports its loss. -/
theorem lost_mem_remove {ep : Endpoint} {h : Handle} {cl : ListClass} (hl : ∃ k ∈ keys cl ep, k.1 = h) (x : EpCtx) (cause : Cause) :
    .lost h cause ∈ (ep.remove x cl h cause).2 := by
  have hleave : ∀ l : Listing, l.call = h → .lost h cause ∈ leaveReports x cause l := fun l hl => by
    rw [leaveReports, hl]; exact List.mem_cons_self ..
  have hwait : (∃ l ∈ ep.wait cl, l.call = h) → .lost h cause ∈ ((ep.wait cl).filter (·.call = h)).flatMap (leaveReports x cause) := by
    rintro ⟨l, hl, hc⟩
    exact List.mem_flatMap.2 ⟨l, List.mem_filter.2 ⟨hl, by simpa using hc⟩, hleave l hc⟩
  obtain ⟨k, hk, hkh⟩ := hl
  refine List.mem_append_left _ ?_
  rw [keys, List.mem_append] at hk
  split
  · rename_i a ha
    split
    · rename_i hah; exact hleave _ hah
    · rename_i hah
      refine hwait ?_
      rcases hk with hk | hk
      · simp only [slotKeys, ha, Option.toList, List.map_cons, List.map_nil, List.mem_singleton] at hk
        subst hk; exact absurd hkh hah
      · obtain ⟨l, hl, rfl⟩ := List.mem_map.1 hk
        exact ⟨l, hl, hkh⟩
  · rename_i ha
    refine hwait ?_
    rcases hk with hk | hk
    · simp [slotKeys, ha] at hk
    · obtain ⟨l, hl, rfl⟩ := List.mem_map.1 hk
      exact ⟨l, hl, hkh⟩

end Sys2Proof.Calls
end

section
/-! PROOFS. A DROP sweep's turn (02 R36). -/

namespace Sys2Proof.Calls

open Sys2Proof.Machine

/-! ## Answers and records at the end of the event -/

theorem answerSweep_answers {s : State} {sw : Sweep} {q : Instr} {ph : Phase} (ha : sw.answers = true)
    (hq : (s.port sw.port).inProgress = some ⟨q, ph⟩) (a : AnswerCode) (d : List Byte) :
    AnsweredWith s (s.answerSweep sw a d) sw.port q a d := by
  unfold State.answerSweep AnsweredWith
  rw [if_pos ha, port_answer, if_pos rfl]
  exact result_answered hq a d

theorem settle_answered {s v : State} {p : Port} {q : Instr} {a : AnswerCode} {d : List Byte} (h : AnsweredWith s v p q a d)
    (hn : v.noPending = true) (s0 : State) : AnsweredWith s (settle s0 v) p q a d :=
  answered_congr h rfl (settle_port hn s0 p).1 (settle_port hn s0 p).2

theorem settle_endpoints {v : State} (hn : v.noPending = true) (s0 : State) : (settle s0 v).endpoints = v.endpoints :=
  (settles_settle hn s0).endpoints

theorem settle_holds {v : State} (hn : v.noPending = true) (s0 : State) : (settle s0 v).holds = v.holds := by
  have h := State.settle_unsettled (s0 := s0) hn
  simp only [State.unsettled, Prod.mk.injEq] at h
  exact h.2.2.2

/-- A record that is not ENDING keeps its state. -/
theorem SettlesTo.state_eq {s : State} {h : Handle} {c d : Call} (hs : SettlesTo s h c d) (hc : c.state ≠ .ending) : d.state = c.state :=
  hs.state.resolve_right fun h' => hc h'.1

theorem unlisted_listings {ep : Endpoint} {h : Handle} (hl : ep.lists h = false) : ∀ cl, ∀ l ∈ ep.listings cl, l.call ≠ h :=
  fun cl l hm => lists_false_iff.1 hl cl (keyOf l) (by rw [keys_eq]; exact List.mem_map_of_mem hm)

theorem joined_congr {s v : State} {h : Handle} {ps : List Participant}
    (hj : ∀ st ∈ ps.map (·.station), (v.ep st).fg = (s.ep st).fg) : joined v h ps = joined s h ps := by
  unfold joined
  exact List.filter_congr fun st hst => by rw [hj st hst]

/-- What an end leaves of a part, in terms of an earlier state in which the players and the speakers were the same. -/
theorem endingKeeps_congr {s v : State} {h : Handle} {p : CallPart} (hp : v.players = s.players)
    (hj : ∀ k, p = .talk k → joined v h k.participants = joined s h k.participants) : EndingKeeps s h p (v.endingPart h p) := by
  have hkeep := endingKeeps_endingPart v h p
  cases p with
  | program o lv => exact hkeep
  | page => exact hkeep
  | alarm a => exact hkeep
  | message m => simpa only [EndingKeeps, State.player, hp] using hkeep
  | talk k => simpa only [EndingKeeps, hj k rfl] using hkeep

/-! ## The removal (02 R36) -/

/-- From `s` to `t` no field but the call table, the endpoints and the hold outputs differs. -/
def OnlyPlaces (s t : State) : Prop := t = { s with calls := t.calls, endpoints := t.endpoints, holds := t.holds }

theorem OnlyPlaces.trans {s t u : State} (h : OnlyPlaces s t) (h' : OnlyPlaces t u) : OnlyPlaces s u := by
  unfold OnlyPlaces at *; rw [h', h]
theorem OnlyCalls.places {s t : State} (h : OnlyCalls s t) : OnlyPlaces s t := by
  unfold OnlyPlaces; rw [h]
theorem OnlyPlaces.port {s t : State} (h : OnlyPlaces s t) : ∀ q, t.port q = s.port q := port_eq (by rw [h]) (by rw [h])
theorem OnlyPlaces.noPending {s t : State} (h : OnlyPlaces s t) : t.noPending = s.noPending := by rw [h]; rfl
theorem OnlyPlaces.players {s t : State} (h : OnlyPlaces s t) : t.players = s.players := by rw [h]
theorem OnlyPorts.noPending {s t : State} (h : OnlyPorts s t) : t.noPending = s.noPending := by rw [h]; rfl
theorem OnlyPorts.holds {s t : State} (h : OnlyPorts s t) : t.holds = s.holds := by rw [h]
theorem OnlyCalls.rest {s t : State} (h : OnlyCalls s t) : t.endpoints = s.endpoints ∧ t.holds = s.holds := by
  rw [h]; exact ⟨rfl, rfl⟩

/-- The record of a call whose sweep has moved on by `f`. -/
def sweptBy (f : Sweep → Sweep) (c : Call) : Call := { c with sweep := c.sweep.map f }

theorem updSweep_eq (s : State) (h : Handle) (f : Sweep → Sweep) : s.updSweep h f = s.updCall h (sweptBy f) := rfl

theorem sameReads_updSweep (s : State) (h : Handle) (f : Sweep → Sweep) : SameReads (s.updSweep h f).ctx s.ctx := by
  have hu := updCall_only s h (sweptBy f)
  refine sameReads_of_calls (by rw [updSweep_eq, hu]) (by rw [updSweep_eq, hu]) fun k => ?_
  rw [updSweep_eq]
  by_cases hk : k = h
  · subst hk
    cases hc : s.call k with
    | none => rw [updCall_none hc, hc]
    | some c => rw [call_updCall_self hc]; rfl
  · rw [call_updCall_ne hk]

/-- The state after a DROP sweep has removed a listing at endpoint `e`. -/
def removedAt (b : State) (h : Handle) (c : Call) (e : Nat) (f : Sweep → Sweep) : State :=
  (b.updSweep h f).atEndpoint e fun x ep => ep.remove x c.type.listClass h .drop

theorem ep_updSweep (b : State) (h : Handle) (f : Sweep → Sweep) (e : Nat) : (b.updSweep h f).ep e = b.ep e :=
  ep_congr (updCall_only b h _).rest.1 e

section

variable {b : State} {h : Handle} {c : Call} {e : Nat} {f : Sweep → Sweep}

theorem removedAt_eq : removedAt b h c e f = { (b.updSweep h f).setEp e ((b.ep e).remove b.ctx c.type.listClass h .drop).1 with
      calls := if .lost h .drop ∈ ((b.ep e).remove b.ctx c.type.listClass h .drop).2 then
        (((b.updSweep h f).setEp e ((b.ep e).remove b.ctx c.type.listClass h .drop).1).updCall h fun c => c.dropParticipant e).calls
        else (b.updSweep h f).calls
      holds := ((b.ep e).remove b.ctx c.type.listClass h .drop).2.foldl (hear e) b.holds } := by
  have hep := ep_updSweep b h f e
  have hreads := sameReads_updSweep b h f
  have hholds : (b.updSweep h f).holds = b.holds := (updCall_only b h _).rest.2
  unfold removedAt
  generalize b.updSweep h f = u at hep hreads hholds ⊢
  unfold State.atEndpoint
  dsimp only
  rw [remove_congr hreads, hep, takeDrops (remove_lossOnly _ _ _ _ _), ← hholds]
  rfl

theorem removedAt_only : OnlyPlaces b (removedAt b h c e f) := by
  rw [removedAt_eq]
  have hu : OnlyPlaces b (b.updSweep h f) := (updCall_only b h _).places
  refine hu.trans ?_
  rfl

theorem removedAt_endpoints : (removedAt b h c e f).endpoints = b.endpoints.set e ((b.ep e).remove b.ctx c.type.listClass h .drop).1 := by
  rw [removedAt_eq, ← (updCall_only b h (sweptBy f)).rest.1]; rfl

theorem removedAt_holds : (removedAt b h c e f).holds =
    ((b.ep e).remove b.ctx c.type.listClass h .drop).2.foldl (hear e) b.holds := by rw [removedAt_eq]

theorem removedAt_slot (hc : b.call h = some c) (hl : ∃ k ∈ keys c.type.listClass (b.ep e), k.1 = h) :
    (removedAt b h c e f).slot h.slot = ⟨h.gen, some { c with sweep := c.sweep.map f, part := withoutStation e c.part }⟩ := by
  have hc1 : ((b.updSweep h f).setEp e ((b.ep e).remove b.ctx c.type.listClass h .drop).1).call h = some (sweptBy f c) :=
    call_updCall_self hc (sweptBy f)
  have hs := slot_updCall_self hc1 fun c => c.dropParticipant e
  rw [removedAt_eq, if_pos (lost_mem_remove hl _ _)]
  refine Eq.trans ?_ (hs.trans (by rw [dropParticipant_eq]; rfl))
  rfl

end

/-- A DROP sweep that ends: its call goes on without it, and its request is answered. -/
theorem endDrop_eq {v : State} {h : Handle} {d : Call} {sw : Sweep} (hd : v.call h = some d) (hs : d.sweep = some sw) (st : CallState) :
    v.endDrop h st = (v.dropSweep h).answerSweep sw .ok (sw.dropData st) := by
  simp [State.endDrop, hd, hs]

theorem dropSweep_only (v : State) (h : Handle) : OnlyCalls v (v.dropSweep h) := updCall_only v h _

/-- The state after an ended sweep's answer: the record lacks the sweep, the port has the answer, the rest is as it was. -/
theorem droppedSweep {v : State} {h : Handle} {d : Call} {sw : Sweep} (hd : v.call h = some d) (a : AnswerCode) (data : List Byte) :
    ((v.dropSweep h).answerSweep sw a data).slot h.slot = ⟨h.gen, some { d with sweep := none }⟩ ∧
      ((v.dropSweep h).answerSweep sw a data).endpoints = v.endpoints ∧ ((v.dropSweep h).answerSweep sw a data).holds = v.holds ∧
      ((v.dropSweep h).answerSweep sw a data).noPending = v.noPending ∧
      ((v.dropSweep h).answerSweep sw a data).players = v.players ∧
      ∀ q ph, sw.answers = true → (v.port sw.port).inProgress = some ⟨q, ph⟩ →
        AnsweredWith v ((v.dropSweep h).answerSweep sw a data) sw.port q a data := by
  have h1 := answerSweep_only (v.dropSweep h) sw a data
  have h2 := dropSweep_only v h
  refine ⟨?_, h1.endpoints.trans h2.rest.1, h1.holds.trans h2.rest.2, h1.noPending.trans h2.places.noPending,
    h1.alarms.2.2.trans h2.places.players, fun q ph ha hq => ?_⟩
  · have hs : (v.dropSweep h).slot h.slot = ⟨h.gen, some { d with sweep := none }⟩ := slot_updCall_self hd _
    rw [← hs, State.slot, h1.calls]; rfl
  · have hp := h2.places.port sw.port
    exact answered_congr (answerSweep_answers ha (by rw [hp]; exact hq) a data) (by rw [hp]) rfl rfl

/-- The test of the ending in the words of the manual. -/
theorem dropEnds_iff {v : State} {h : Handle} {c : Call} :
    v.dropEnds h c = true ↔ v.listingCount h < if c.type = .talk then 2 else 1 := by
  simp only [State.dropEnds, Bool.or_eq_true, decide_eq_true_eq, Bool.and_eq_true, beq_iff_eq]
  split
  · rename_i ht; simp only [ht, true_and]; omega
  · rename_i ht; simp only [ht, false_and, or_false]; omega

end Sys2Proof.Calls
end

section
/-! PROOFS. DROP_SWEEP_REMOVAL, case by case: an endpoint that does not list the call, one that does, and one whose removal leaves too
few (02 R36). -/

namespace Sys2Proof.Calls

open Sys2Proof.Machine

/-- What a port's turn leaves as it is. -/
theorem serveSweep_frame (s : State) (sw : Sweep) : (s.serveSweep sw).ctx = s.ctx ∧ (s.serveSweep sw).endpoints = s.endpoints ∧
    (s.serveSweep sw).holds = s.holds ∧ (s.serveSweep sw).players = s.players ∧ (s.serveSweep sw).noPending = s.noPending ∧
    (∀ j, (s.serveSweep sw).slot j = s.slot j) ∧ ∀ q, (s.serveSweep sw).port q = s.port q := by
  unfold State.serveSweep
  split
  · exact ⟨rfl, rfl, rfl, rfl, rfl, fun _ => rfl, port_eq rfl rfl⟩
  · exact ⟨rfl, rfl, rfl, rfl, rfl, fun _ => rfl, fun _ => rfl⟩

theorem dropSweepRemoval_eq {s : State} {i : Nat} {c : Call} {sw : Sweep} {e : Nat} {es : List Nat} (ha : SweepAt s i c sw e es)
    (hk : sw.kind = .drop) :
    exec (.dropSweepRemoval i) s = .next (settle s ((s.serveSweep sw).dropTurn (s.handleOf i) c (e :: es))) := by
  obtain ⟨-, hc, hs, hr, -, ht, -⟩ := ha
  show execDropSweepRemoval i s = _
  simp only [execDropSweepRemoval, hc, hs, hk, ht, hr, and_self, if_true]

theorem answerSweep_standing (s : State) (sw : Sweep) (a : AnswerCode) (d : List Byte) :
    (s.answerSweep sw a d).standing = s.standing := by
  unfold State.answerSweep
  split
  · exact State.answer_standing _ _ _ _
  · rfl

theorem dropTurn_standing (b : State) (h : Handle) (c : Call) (rest : List Nat) : (b.dropTurn h c rest).standing = b.standing := by
  have hdrop : ∀ (v : State) st, (v.endDrop h st).standing = v.standing := fun v st => by
    unfold State.endDrop
    split
    · rfl
    · rw [answerSweep_standing]; exact State.updCall_standing _ _ _
  have hupd : ∀ f, (b.updSweep h f).standing = b.standing := fun f => State.updCall_standing _ _ _
  have hremove : ∀ (v : State) e, (v.atEndpoint e fun x ep => ep.remove x c.type.listClass h .drop).standing = v.standing :=
    fun v e => State.atEndpoint_standing _ _ _ fun x ep => Endpoint.remove_standing x _ _ _ ep
  unfold State.dropTurn
  split
  · exact hdrop _ _
  · split
    · dsimp only
      split
      · rw [State.endCall_standing, hdrop, hremove, hupd]
      · split
        · rw [hdrop, hremove, hupd]
        · rw [hremove, hupd]
    · dsimp only
      split
      · rw [hdrop, hupd]
      · exact hupd _

/-- What an event that is not the last of a sweep, or ends it well, leaves of the call `h` whose record was `d`. -/
theorem settle_goesOn {v s0 : State} {h : Handle} {d : Call} (hn : v.noPending = true) (hd : v.slot h.slot = ⟨h.gen, some d⟩) :
    ∃ u, (settle s0 v).slot h.slot = ⟨h.gen, some u⟩ ∧ u.sweep = d.sweep ∧ (d.state ≠ .ending → u.state = d.state) ∧
      ∀ k, d.part = .talk k → u.part = .talk k := by
  obtain ⟨u, hu, hdu⟩ := (settles_settle hn s0).slot hd
  exact ⟨u, hu, hdu.sweep, hdu.state_eq, hdu.part.talk⟩

/-- The DROP sweep counts an endpoint that does not list the call. -/
def passOver (es : List Nat) (sw : Sweep) : Sweep := { sw with rest := es, notListed := sw.notListed + 1 }
/-- The DROP sweep counts a listing it has removed. -/
def takeAway (es : List Nat) (sw : Sweep) : Sweep := { sw with rest := es, removed := sw.removed + 1 }

/-- The sweep's last endpoint, or one before, has left the call's listings. -/
structure DropGoesOn (b v : State) (h : Handle) (c : Call) (sw : Sweep) (p : CallPart) : Prop where
  slot : v.slot h.slot = ⟨h.gen, some { c with sweep := some sw, part := p }⟩
  noPending : v.noPending = true
  port : ∀ q, v.port q = b.port q

section

variable {b v s0 : State} {h : Handle} {c : Call} {sw : Sweep} {p : CallPart}

/-- A sweep that is not at its end goes on. -/
theorem DropGoesOn.between (hv : DropGoesOn b v h c sw p) :
    SweepGoesOn (settle s0 v) h sw ∧ ∀ k, p = .talk k → ∃ u, (settle s0 v).slot h.slot = ⟨h.gen, some u⟩ ∧ u.part = .talk k := by
  obtain ⟨u, hu, hsw, -, hp⟩ := settle_goesOn (s0 := s0) hv.noPending hv.slot
  exact ⟨⟨u, hu, hsw⟩, fun k hk => ⟨u, hu, hp k hk⟩⟩

/-- A sweep at its end is answered, and its call goes on without it. -/
theorem DropGoesOn.last (hv : DropGoesOn b v h c sw p) (ha : c.state = .active) :
    (settle s0 (v.endDrop h .active)).endpoints = v.endpoints ∧ (settle s0 (v.endDrop h .active)).holds = v.holds ∧
      (∃ u, (settle s0 (v.endDrop h .active)).slot h.slot = ⟨h.gen, some u⟩ ∧ u.sweep = none ∧ u.state = .active) ∧
      (∀ k, p = .talk k → ∃ u, (settle s0 (v.endDrop h .active)).slot h.slot = ⟨h.gen, some u⟩ ∧ u.part = .talk k) ∧
      SweepAnswered b (settle s0 (v.endDrop h .active)) h.slot sw .ok (sw.dropData .active) := by
  have hcall := call_of_slot hv.slot
  obtain ⟨h1, h2, h3, h4, -, h6⟩ := droppedSweep (sw := sw) hcall .ok (sw.dropData .active)
  rw [endDrop_eq hcall rfl]
  have hn := h4.trans hv.noPending
  obtain ⟨u, hu, hsw, hst, hp⟩ := settle_goesOn (s0 := s0) hn h1
  refine ⟨(settle_endpoints hn s0).trans h2, (settle_holds hn s0).trans h3, ⟨u, hu, hsw, ?_⟩, fun k hk => ⟨u, hu, hp k hk⟩,
    fun q hans hq => ?_⟩
  · rw [hst (by simp [ha])]; exact ha
  · have hport := hv.port sw.port
    exact settle_answered (answered_congr (h6 q _ hans (by rw [hport]; exact hq)) (by rw [hport]) rfl rfl) hn s0

/-- A removal that leaves too few listings: the sweep is answered, and the call ends. -/
theorem DropGoesOn.few (hv : DropGoesOn b v h c sw p) (ha : c.state = .active) (hapart : Apart v h ({ c with part := p } : Call).type.listClass) :
    EndedIn (settle s0 ((v.endDrop h .ending).endCall h .noTargets)) h .noTargets ∧
      SweepAnswered b (settle s0 ((v.endDrop h .ending).endCall h .noTargets)) h.slot sw .ok (sw.dropData .ending) ∧
      ∀ s, v.players = s.players → (∀ k, p = .talk k → joined v h k.participants = joined s h k.participants) →
        EndedKeeping s (settle s0 ((v.endDrop h .ending).endCall h .noTargets)) h p := by
  have hcall := call_of_slot hv.slot
  obtain ⟨h1, h2, -, h4, h5, h6⟩ := droppedSweep (sw := sw) hcall .ok (sw.dropData .ending)
  rw [endDrop_eq hcall rfl]
  generalize (v.dropSweep h).answerSweep sw .ok (sw.dropData .ending) = y at h1 h2 h4 h5 h6
  have hy : y.call h = some { c with sweep := none, part := p } := call_of_slot h1
  have hn : y.noPending = true := h4.trans hv.noPending
  have hend : y.endCall h .noTargets = y.enterEnding h _ .noTargets := endCall_of_live hy (by simp [ha, CallState.live]) _
  have hay : Apart y h ({ c with sweep := none, part := p } : Call).type.listClass := fun e => by
    rw [ep_congr h2]; exact hapart e
  have hnz := endCall_noPending hn h .noTargets
  have hz := ending_enterEnding hy hay .noTargets
  rw [← hend] at hz
  refine ⟨(hz.settled hnz s0).1, fun q hans hq => ?_, fun s hp hj => hz.keeping hnz s0 ?_⟩
  · have hport := hv.port sw.port
    have hqa := h6 q _ hans (by rw [hport]; exact hq)
    have hidle := port_endCall_idle hqa.2 h .noTargets
    exact settle_answered (answered_congr hqa (by rw [hport]) (by rw [hidle]) (by rw [hidle])) hnz s0
  · refine endingKeeps_congr (h5.trans hp) fun k hk => ?_
    rw [← hj k hk]
    exact joined_congr fun st _ => by rw [ep_congr h2]

end

/-! ## The turn -/

section

variable {s : State} {i : Nat} {c : Call} {sw : Sweep} {e : Nat} {es : List Nat}

/-- A turn at an endpoint that does not list the call. -/
theorem passOver_goesOn (ha : SweepAt s i c sw e es) :
    DropGoesOn s ((s.serveSweep sw).updSweep (s.handleOf i) (passOver es)) (s.handleOf i) c (passOver es sw) c.part := by
  obtain ⟨-, hrec, hs, -, -, -, hn⟩ := ha
  obtain ⟨-, -, -, -, hbn, hbs, hbp⟩ := serveSweep_frame s sw
  have hc : (s.serveSweep sw).call (s.handleOf i) = some c := (call_congr (hbs _)).trans (call_handleOf hrec)
  have hu := (updCall_only (s.serveSweep sw) (s.handleOf i) (sweptBy (passOver es))).places
  exact ⟨(slot_updCall_self hc _).trans (by simp [hs]), hu.noPending.trans (hbn.trans hn),
    fun q => (hu.port q).trans (hbp q)⟩

/-- A turn at an endpoint that lists the call. -/
theorem takeAway_goesOn (ha : SweepAt s i c sw e es) (hl : ∃ k ∈ keys c.type.listClass (s.ep e), k.1 = s.handleOf i) :
    DropGoesOn s (removedAt (s.serveSweep sw) (s.handleOf i) c e (takeAway es)) (s.handleOf i) c (takeAway es sw)
      (withoutStation e c.part) := by
  obtain ⟨-, hrec, hs, -, -, -, hn⟩ := ha
  obtain ⟨-, hbe, -, -, hbn, hbs, hbp⟩ := serveSweep_frame s sw
  have hc : (s.serveSweep sw).call (s.handleOf i) = some c := (call_congr (hbs _)).trans (call_handleOf hrec)
  have hu : OnlyPlaces (s.serveSweep sw) (removedAt (s.serveSweep sw) (s.handleOf i) c e (takeAway es)) := removedAt_only
  rw [← ep_congr hbe] at hl
  exact ⟨(removedAt_slot hc hl).trans (by rw [hs]; rfl), hu.noPending.trans (hbn.trans hn), fun q => (hu.port q).trans (hbp q)⟩

end

theorem withoutStation_type (e : Nat) (c : Call) : ({ c with part := withoutStation e c.part } : Call).type = c.type := by
  unfold Call.type withoutStation
  cases c.part <;> rfl

/-- Settles O40: a turn passes over an endpoint, or takes a listing away; after the last one, or with too few left, the sweep ends. -/
theorem dropSweepRemovesListings : Obligations.DropSweepRemovesListings := by
  intro s i c sw e es ha hk hheld hl hact h r left few
  have hexec := dropSweepRemoval_eq ha hk
  have hpass := passOver_goesOn ha
  have htake := takeAway_goesOn ha
  obtain ⟨-, hrec, hs, -, he, -, hn⟩ := ha
  have hapart := apart_of_listingsOk hl (call_handleOf hrec)
  obtain ⟨hbx, hbe, hbh, hbp, -, -, -⟩ := serveSweep_frame s sw
  refine ⟨_, hexec, by rw [State.settle_standing, dropTurn_standing], fun hun => ?_, fun hlist hfew => ?_, fun hlist hfew => ?_⟩
  · have hturn : (s.serveSweep sw).dropTurn (s.handleOf i) c (e :: es) =
        if es = [] then ((s.serveSweep sw).updSweep (s.handleOf i) (passOver es)).endDrop (s.handleOf i) .active
        else (s.serveSweep sw).updSweep (s.handleOf i) (passOver es) := by
      have hun' : ((s.serveSweep sw).ep e).lists (s.handleOf i) = false := by rw [ep_congr hbe]; exact hun
      simp only [State.dropTurn, hun', Bool.false_eq_true, if_false]; rfl
    have hends : ((s.serveSweep sw).updSweep (s.handleOf i) (passOver es)).endpoints = s.endpoints :=
      (updCall_only _ _ _).rest.1.trans hbe
    rw [hturn]
    by_cases hes : es = []
    · rw [if_pos hes]
      obtain ⟨h1, -, h3, h4, h5⟩ := hpass.last (s0 := s) hact
      exact ⟨h1.trans hends, h4, fun hne => absurd hes hne, fun _ => ⟨h3, h5⟩⟩
    · rw [if_neg hes]
      obtain ⟨h1, h2⟩ := hpass.between (s0 := s)
      exact ⟨(settle_endpoints hpass.noPending s).trans hends, h2, fun _ => h1, fun he => absurd he hes⟩
  all_goals
    have hkey : ∃ k ∈ keys c.type.listClass (s.ep e), k.1 = h := by
      obtain ⟨d, k, hk, hkh⟩ := lists_iff.1 hlist
      obtain rfl := (hapart e).2 d k hk hkh
      exact ⟨k, hk, hkh⟩
    have htake := htake hkey
    have hends : (removedAt (s.serveSweep sw) h c e (takeAway es)).endpoints = left := by
      rw [removedAt_endpoints, ep_congr hbe, hbx, hbe]
    have hturn : (s.serveSweep sw).dropTurn (s.handleOf i) c (e :: es) =
        if few then ((removedAt (s.serveSweep sw) h c e (takeAway es)).endDrop h .ending).endCall h .noTargets
        else if es = [] then (removedAt (s.serveSweep sw) h c e (takeAway es)).endDrop h .active
        else removedAt (s.serveSweep sw) h c e (takeAway es) := by
      have hlist' : ((s.serveSweep sw).ep e).lists (s.handleOf i) = true := by rw [ep_congr hbe]; exact hlist
      have hiff : (removedAt (s.serveSweep sw) h c e (takeAway es)).dropEnds h c = true ↔ few := by
        rw [dropEnds_iff, State.listingCount, hends]
      simp only [State.dropTurn, hlist', if_true, ← hiff]; rfl
    rw [hturn]
  · rw [if_neg hfew]
    have hhold : (removedAt (s.serveSweep sw) h c e (takeAway es)).holds = r.2.foldl (hear e) s.holds := by
      rw [removedAt_holds, ep_congr hbe, hbx, hbh]
    have hgone : ∀ t : State, t.endpoints = left → ∀ cl, ∀ l ∈ (t.ep e).listings cl, l.call ≠ h := fun t ht => by
      have hte : t.ep e = r.1 := by rw [State.ep, ht]; exact Table.get_set_self _ _ _ _ he
      rw [hte]
      exact unlisted_listings (remove_unlisted (hapart e).1 (hapart e).2 _ _)
    by_cases hes : es = []
    · rw [if_pos hes]
      obtain ⟨h1, h2, h3, h4, h5⟩ := htake.last (s0 := s) hact
      exact ⟨h1.trans hends, hgone _ (h1.trans hends), holdsHear_of_eq (h2.trans hhold), fun k hk => h4 _ (by rw [hk]; rfl),
        fun hne => absurd hes hne, fun _ => ⟨h3, h5⟩⟩
    · rw [if_neg hes]
      obtain ⟨h1, h2⟩ := htake.between (s0 := s)
      have h3 := (settle_endpoints htake.noPending s).trans hends
      exact ⟨h3, hgone _ h3, holdsHear_of_eq ((settle_holds htake.noPending s).trans hhold), fun k hk => h2 _ (by rw [hk]; rfl),
        fun _ => h1, fun he => absurd he hes⟩
  · rw [if_pos hfew]
    have hv : Apart (removedAt (s.serveSweep sw) h c e (takeAway es)) h ({ c with part := withoutStation e c.part } : Call).type.listClass := by
      rw [withoutStation_type]
      refine hapart.subperm fun j d => ?_
      rw [State.ep, hends, Table.get_set _ _ _ _ _ he]
      split
      · rename_i hj; rw [← hj]; exact remove_subperm _ _ _ _ _ _
      · exact List.Subperm.refl _
    obtain ⟨h1, h2, h3⟩ := htake.few (s0 := s) hact hv
    refine ⟨h1, h2, h3 s (removedAt_only.players.trans hbp) fun k hk => joined_congr fun st hst => ?_⟩
    have hne : st ≠ e := by
      cases hp : c.part <;> rw [hp] at hk <;> cases hk
      obtain ⟨x, hx, rfl⟩ := List.mem_map.1 hst
      simpa using (List.mem_filter.1 hx).2
    rw [State.ep, hends, Table.get_set_ne _ _ _ _ _ hne.symm]
    rfl

end Sys2Proof.Calls
end

section
/-! PROOFS. The Verify Unit: a block of the head's samples, and the end of a check (07 R129, R130; 08 R153). -/

namespace Sys2Proof.Calls

open Sys2Proof.Machine

/-! ## The sum (07 R129) -/

theorem storedSum_succ (m : Memory) (a n : Nat) : storedSum m a (n + 1) = m.unsigned a + storedSum m (a + 2) n := by
  unfold storedSum Memory.unsigned
  rw [List.range_succ_eq_map, List.map_cons, List.sum_cons, List.map_map]
  congr 2
  refine List.map_congr_left fun k _ => ?_
  rw [Function.comp_apply, show a + 2 * Nat.succ k = a + 2 + 2 * k by omega]

theorem sumFrom_eq (m : Memory) (n a : Nat) {sum : Nat} (h : sum < 16777216) :
    m.sumFrom a n sum = (sum + storedSum m a n) % 16777216 := by
  induction n generalizing a sum with
  | zero => simp [Memory.sumFrom, storedSum, Nat.mod_eq_of_lt h]
  | succ n ih => rw [Memory.sumFrom, ih _ (Nat.mod_lt _ (by decide)), storedSum_succ]; omega

/-! ## Faults -/

/-- From `s` to `t` no field but the faults, their outputs and the stamp differs. -/
def OnlyFaults (s t : State) : Prop :=
  t = { s with activeFaults := t.activeFaults, faults := t.faults, overflow := t.overflow, faultOuts := t.faultOuts, seq := t.seq }

theorem recordFault_only (s : State) (src : FaultSource) (k : FaultKind) : OnlyFaults s (s.recordFault src k) := by
  unfold State.recordFault; split <;> rfl

theorem refillOne_keeps (s : State) (f : ActiveFault) : s.refillOne f = { s with faults := (s.refillOne f).faults } := by
  unfold State.refillOne; split <;> rfl

theorem refill_keeps (l : List ActiveFault) (s : State) : l.foldl State.refillOne s = { s with faults := (l.foldl State.refillOne s).faults } := by
  induction l generalizing s with
  | nil => rfl
  | cons f l ih => rw [List.foldl_cons, ih, refillOne_keeps]

theorem clearFault_eq {s : State} {src : FaultSource} {k : FaultKind} (h : (s.activeFault src k).isNone = false) :
    OnlyFaults s (s.clearFault src k) ∧
      (s.clearFault src k).activeFaults = s.activeFaults.filter fun f => !(f.source == src && f.kind == k) := by
  unfold State.clearFault
  rw [if_neg (by simp [h]), State.retireEntries, State.refill, refill_keeps]
  exact ⟨rfl, rfl⟩

theorem clearFault_only (s : State) (src : FaultSource) (k : FaultKind) : OnlyFaults s (s.clearFault src k) := by
  by_cases h : (s.activeFault src k).isNone = true
  · unfold State.clearFault; rw [if_pos h]; rfl
  · exact (clearFault_eq (Bool.not_eq_true _ ▸ h)).1

/-- A fault that has cleared is not active. -/
theorem activeFault_clearFault (s : State) (src : FaultSource) (k : FaultKind) : (s.clearFault src k).activeFault src k = none := by
  by_cases h : (s.activeFault src k).isNone = true
  · unfold State.clearFault; rw [if_pos h]; simpa using h
  · rw [State.activeFault, (clearFault_eq (Bool.not_eq_true _ ▸ h)).2, List.find?_eq_none]
    intro f hf
    have := (List.mem_filter.1 hf).2
    rwa [Bool.not_eq_true', ← Bool.not_eq_true] at this

/-- A fault that is confirmed is active. -/
theorem activeFault_recordFault (s : State) (src : FaultSource) (k : FaultKind) : ((s.recordFault src k).activeFault src k).isSome = true := by
  unfold State.recordFault
  split
  · assumption
  · rw [State.activeFault, List.find?_isSome]
    refine ⟨_, List.mem_append_right _ (List.mem_singleton.2 rfl), by simp⟩

/-! ## The Verify Unit's fields through the rest of the event -/

/-- The phrases, the queue, the check in progress and the active faults. -/
def verifyPart (s : State) : Table Phrase 128 × List Nat × Nat × Nat × List ActiveFault :=
  (s.phrases, s.verifyQueue, s.verifySummed, s.verifySum, s.activeFaults)

theorem settle_verifyPart {v : State} (hn : v.noPending = true) (s0 : State) : verifyPart (settle s0 v) = verifyPart v := by
  rw [settle_only hn s0]; rfl

theorem OnlyEnding.verifyPart {s t : State} (h : OnlyEnding s t) : verifyPart t = Calls.verifyPart s := by rw [h]; rfl

/-- The Verify Unit begins on the next head. -/
theorem beginCheck_eq (s : State) : s.beginCheck = { s with
    phrases := s.beginCheck.phrases, verifySummed := 0, verifySum := 0 } := by
  unfold State.beginCheck; dsimp only; split <;> rfl

theorem phrase_set {s t : State} {i : Nat} {x : Phrase} (h : t.phrases = s.phrases.set i x) (hi : i < 128) (j : Nat) :
    t.phrase j = if i = j then x else s.phrase j := by
  rw [State.phrase, h]; exact Table.get_set _ _ _ _ _ hi

theorem phrase_beginCheck_head {s : State} {j : Nat} (hj : j < 128) (h : s.verifyQueue.head? = some j) :
    (s.beginCheck.phrase j).state =
      if (s.phrase j).state = .defined ∨ (s.phrase j).state = .bad then .verifying else (s.phrase j).state := by
  have hb : s.beginCheck.phrase j = (s.phrase j).beginCheck := by
    unfold State.beginCheck
    dsimp only
    cases hq : s.verifyQueue with
    | nil => rw [hq] at h; cases h
    | cons x l =>
      rw [hq] at h
      cases h
      exact (phrase_set rfl hj j).trans (if_pos rfl)
  rw [hb, Phrase.beginCheck]
  cases hst : (s.phrase j).state <;> simp [hst]

theorem phrase_beginCheck_ne {s : State} {i : Nat} (h : i ∉ s.verifyQueue) : s.beginCheck.phrase i = s.phrase i := by
  unfold State.beginCheck
  dsimp only
  split
  · rfl
  · rename_i x l hq
    exact Table.get_set_ne _ _ _ _ _ (by rintro rfl; exact h (by rw [hq]; exact List.mem_cons_self ..))

/-! ## The messages that name a BAD phrase (07 R130) -/

/-- A MESSAGE that names the phrase ends. -/
def failIfNames (id : Nat) (s : State) (h : Handle) : State := if (s.call h).any (Call.names id) then s.endCall h .phraseFailed else s

theorem failMessages_eq (s : State) (id : Nat) : s.failMessages id = s.handles.foldl (failIfNames id) s := rfl

theorem endsOrStays_fail (id : Nat) : EndsOrStays .phraseFailed (failIfNames id) := fun s h => by
  unfold failIfNames
  split
  · exact .inl rfl
  · exact .inr rfl

theorem names_of_live {id : Nat} {c : Call} {m : MessagePart} (hm : c.part = .message m) (hl : c.state.live = true) (hid : id ∈ m.phrases) :
    Call.names id c = true := by
  have hmsg : c.message = some m := by simp [Call.message, hm]
  have hst : c.state ≠ .ended := by rintro h; rw [h] at hl; cases hl
  simp [Call.names, hmsg, hid, hst]

theorem names_message {id : Nat} {c : Call} (h : Call.names id c = true) : ∃ m, c.part = .message m := by
  unfold Call.names at h
  cases hm : c.message with
  | none => simp [hm] at h
  | some m => exact ⟨m, part_of_message hm⟩

/-- A property that the end of each such MESSAGE keeps holds when they have ended. -/
theorem failMessages_keeps {P : State → Prop} {id : Nat}
    (hP : ∀ v k c m, P v → v.call k = some c → c.state.live = true → c.part = .message m → P (v.enterEnding k c .phraseFailed))
    {s : State} (hs : P s) : P (s.failMessages id) := by
  rw [failMessages_eq]
  generalize s.handles = l
  induction l generalizing s with
  | nil => exact hs
  | cons k l ih =>
    refine ih ?_
    unfold failIfNames
    split
    · rename_i hn
      rcases endCall_cases s k .phraseFailed with ⟨c, hc, hl, he⟩ | ⟨-, he⟩ <;> rw [he]
      · rw [hc] at hn
        obtain ⟨m, hm⟩ := names_message (id := id) (c := c) (by simpa using hn)
        exact hP s k c m hs hc hl hm
      · exact hs
    · exact hs

/-- A MESSAGE that names the phrase ends at its place in the row. -/
theorem failMessages_rowEnd {w : State} (hl : w.listingsOk) {id : Nat} {h : Handle} {c : Call} {m : MessagePart} (hc : w.call h = some c)
    (hm : c.part = .message m) (hlive : c.state.live = true) (hid : id ∈ m.phrases) :
    ∃ v, RowEnd .phraseFailed (failIfNames id) w.handles w h c v :=
  (endsOrStays_fail id).rowEnd (handles_slots_nodup w) (mem_handles.2 ⟨c, hc⟩) hc hlive (apart_of_listingsOk hl hc) fun v hv => by
    rw [failIfNames, hv]; simp [names_of_live hm hlive hid]

/-! ## The players of alarms (08 R153) -/

/-- From `s` to `t` no field but the call table, the players and the alarms' positions differs. -/
def OnlyFailing (s t : State) : Prop := t = { s with calls := t.calls, players := t.players, alarms := t.alarms }

theorem OnlyFailing.trans {s t u : State} (h : OnlyFailing s t) (h' : OnlyFailing t u) : OnlyFailing s u := by
  unfold OnlyFailing at *; rw [h', h]

theorem markSubstituted_only (s : State) (h : Handle) : OnlyCalls s (s.markSubstituted h) := updCall_only s h _

theorem failStep_only (s : State) (h : Handle) (pl : Player) (n : Nat) : OnlyFailing s (s.failStep h pl n) := by
  unfold State.failStep
  split
  · have hm : ∀ u : State, OnlyFailing u (u.markSubstituted h) := fun u => by
      unfold OnlyFailing; rw [markSubstituted_only u h]
    exact OnlyFailing.trans (by rfl) (hm _)
  · rfl

theorem failPlayer_only (id : Nat) (s : State) (i : Nat) : OnlyFailing s (State.failPlayer id s i) := by
  unfold State.failPlayer
  split
  · split
    · exact OnlyFailing.trans (by rfl) (failStep_only (s.freePlayer i) _ _ _)
    · rfl
  · rfl

theorem failPlayers_only (id : Nat) (l : List Nat) (s : State) : OnlyFailing s (l.foldl (State.failPlayer id) s) := by
  induction l generalizing s with
  | nil => rfl
  | cons i l ih => exact (failPlayer_only id s i).trans (ih _)

end Sys2Proof.Calls
end

section
/-! PROOFS. VERIFY_BLOCK_READ: the end of a check that fails, for the messages and the alarms that use the phrase (07 R130, R136; 08
R153). -/

namespace Sys2Proof.Calls

open Sys2Proof.Machine

/-- A state in which only the phrases, the check and the faults differ from `s`. -/
def OnlyVerify (s t : State) : Prop :=
  t = { s with
    phrases := t.phrases, verifyQueue := t.verifyQueue, verifySummed := t.verifySummed, verifySum := t.verifySum,
    activeFaults := t.activeFaults, faults := t.faults, overflow := t.overflow, faultOuts := t.faultOuts, seq := t.seq }

theorem OnlyVerify.trans {s t u : State} (h : OnlyVerify s t) (h' : OnlyVerify t u) : OnlyVerify s u := by
  unfold OnlyVerify at *; rw [h', h]
theorem OnlyFaults.verify {s t : State} (h : OnlyFaults s t) : OnlyVerify s t := by
  unfold OnlyVerify; rw [h]
theorem beginCheck_only (s : State) : OnlyVerify s s.beginCheck := by
  unfold OnlyVerify; rw [beginCheck_eq]

theorem OnlyVerify.calls {s t : State} (h : OnlyVerify s t) : t.calls = s.calls := by rw [h]
theorem OnlyVerify.endpoints {s t : State} (h : OnlyVerify s t) : t.endpoints = s.endpoints := by rw [h]
theorem OnlyVerify.players {s t : State} (h : OnlyVerify s t) : t.players = s.players := by rw [h]
theorem OnlyVerify.alarms {s t : State} (h : OnlyVerify s t) : t.alarms = s.alarms := by rw [h]
theorem OnlyVerify.triggers {s t : State} (h : OnlyVerify s t) : t.triggers = s.triggers := by rw [h]
theorem OnlyVerify.programs {s t : State} (h : OnlyVerify s t) : t.programs = s.programs := by rw [h]
theorem OnlyVerify.port {s t : State} (h : OnlyVerify s t) : ∀ q, t.port q = s.port q := port_eq (by rw [h]) (by rw [h])
theorem OnlyVerify.noPending {s t : State} (h : OnlyVerify s t) : t.noPending = s.noPending := by rw [h]; rfl
theorem OnlyFailing.endpoints {s t : State} (h : OnlyFailing s t) : t.endpoints = s.endpoints := by rw [h]
theorem OnlyFailing.port {s t : State} (h : OnlyFailing s t) : ∀ q, t.port q = s.port q := port_eq (by rw [h]) (by rw [h])
theorem OnlyFailing.noPending {s t : State} (h : OnlyFailing s t) : t.noPending = s.noPending := by rw [h]; rfl
theorem OnlyFailing.programs {s t : State} (h : OnlyFailing s t) : t.programs = s.programs := by rw [h]
theorem OnlyFailing.verifyPart {s t : State} (h : OnlyFailing s t) : verifyPart t = Calls.verifyPart s := by rw [h]; rfl

theorem slot_of_calls {s t : State} (h : t.calls = s.calls) (j : Nat) : t.slot j = s.slot j := by rw [State.slot, h]; rfl

/-! ## A failing player (07 R130, 08 R153) -/

/-- The part of an ALARM whose step has become SUBSTITUTED. -/
def substituted (c : Call) : Call :=
  match c.part with
  | .alarm a => { c with part := .alarm { a with substituted := true } }
  | _ => c

theorem markSubstituted_eq (s : State) (h : Handle) : s.markSubstituted h = s.updCall h substituted := rfl

theorem substituted_alarm {c : Call} {a : AlarmPart} (h : c.part = .alarm a) :
    substituted c = { c with part := .alarm { a with substituted := true } } := by
  simp [substituted, h]

/-- The player's phrase has failed, and its call is an ALARM. -/
def Fails (id : Nat) (v : State) (j : Nat) (k : Handle) : Prop :=
  (v.player j).call = some k ∧ (v.player j).phrase = some id ∧ (v.call k).any (·.type == .alarm) = true

theorem failPlayer_cases (id : Nat) (v : State) (j : Nat) :
    (∃ k, Fails id v j k ∧ State.failPlayer id v j = (v.freePlayer j).failStep k (v.player j) (v.phrase id).length) ∨
      ((∀ k, ¬ Fails id v j k) ∧ State.failPlayer id v j = v) := by
  unfold State.failPlayer
  split
  · rename_i k hk
    split
    · rename_i hf
      exact .inl ⟨k, ⟨hk, hf.1, hf.2⟩, rfl⟩
    · rename_i hf
      refine .inr ⟨fun q hq => ?_, rfl⟩
      obtain ⟨h1, h2, h3⟩ := hq
      rw [hk] at h1
      cases h1
      exact hf ⟨h2, h3⟩
  · rename_i hk
    exact .inr ⟨fun q hq => (nomatch hk.symm.trans hq.1), rfl⟩

/-- A failing step leaves the records, positions and players of the others. -/
theorem failStep_others (v : State) (k : Handle) (pl : Player) (n : Nat) {h : Handle} (hslot : k.slot ≠ h.slot)
    (hseq : k.slot - 60 ≠ h.slot - 60) : (v.failStep k pl n).slot h.slot = v.slot h.slot ∧
      (v.failStep k pl n).alarmSeq h.slot = v.alarmSeq h.slot := by
  unfold State.failStep
  split
  · rw [markSubstituted_eq]
    refine ⟨slot_updCall_ne hslot _, ?_⟩
    rw [State.alarmSeq, updCall_only]
    exact Table.get_set_ne _ _ _ _ _ hseq
  · exact ⟨rfl, rfl⟩

theorem failStep_players (v : State) (k : Handle) (pl : Player) (n : Nat) : (v.failStep k pl n).players = v.players := by
  unfold State.failStep
  split
  · rw [markSubstituted_eq, updCall_only]; rfl
  · rfl

theorem player_failPlayer {id : Nat} {v : State} {j : Nat} (hj : j < 4) (i : Nat) :
    (State.failPlayer id v j).player i = v.player i ∨ j = i ∧ (State.failPlayer id v j).player i = .idle := by
  rcases failPlayer_cases id v j with ⟨k, -, he⟩ | ⟨-, he⟩ <;> rw [he]
  · have hp : ((v.freePlayer j).failStep k (v.player j) (v.phrase id).length).player i = (v.freePlayer j).player i := by
      rw [State.player, failStep_players]; rfl
    rw [hp, player_freePlayer hj]
    split
    · exact .inr ⟨‹_›, rfl⟩
    · exact .inl rfl
  · exact .inl rfl

/-- An ALARM call of a state whose records are in order, with a player of its own. -/
structure AlarmAt (v : State) (h : Handle) (c : Call) (q : AlarmSeq) : Prop where
  order : InOrder false none v
  slot : v.slot h.slot = ⟨h.gen, some c⟩
  seq : v.alarmSeq h.slot = q
  type : c.type = .alarm

/-- The failing player of another call leaves an ALARM as it is. -/
theorem AlarmAt.other {v : State} {h : Handle} {c : Call} {q : AlarmSeq} (hv : AlarmAt v h c q) (id : Nat) {j : Nat}
    (hj : (v.player j).call ≠ some h) : AlarmAt (State.failPlayer id v j) h c q := by
  have horder := (follow_failPlayer id v j).inOrder hv.order
  rcases failPlayer_cases id v j with ⟨k, ⟨hk, -, hal⟩, he⟩ | ⟨-, he⟩
  · obtain ⟨d, hd⟩ : ∃ d, v.call k = some d := by
      cases hc : v.call k with
      | none => rw [hc] at hal; cases hal
      | some d => exact ⟨d, rfl⟩
    rw [hd] at hal
    have htype : d.type = .alarm := by simpa using hal
    have hk60 := (hv.order.recordOk hd).1.1 htype
    have hh60 := (hv.order.recordOk (call_of_slot hv.slot)).1.1 hv.type
    have hne : k.slot ≠ h.slot := fun hs => hj (by
      rw [hk, ← handleOf_eq hd, ← handleOf_eq (call_of_slot hv.slot), hs])
    obtain ⟨h1, h2⟩ := failStep_others (v.freePlayer j) k (v.player j) (v.phrase id).length hne (by omega)
    rw [he] at horder ⊢
    exact ⟨horder, h1.trans hv.slot, h2.trans hv.seq, hv.type⟩
  · rw [he]; exact hv

/-- The failing player of an ALARM makes its step SUBSTITUTED. -/
theorem AlarmAt.fails {v : State} {h : Handle} {c : Call} {q : AlarmSeq} (hv : AlarmAt v h c q) {id j : Nat}
    (hcall : (v.player j).call = some h) (hid : (v.player j).phrase = some id) {a : AlarmPart} (ha : c.part = .alarm a)
    {g : AlarmProgram} (hg : v.program a.program = some g) {x : StepPosition} (hx : q.position = some x) :
    AlarmAt (State.failPlayer id v j) h (substituted c) (toneStart g x.repeatNo x.index .substituted
      (framesOfMs (substitutedMs ((v.phrase id).length - (v.player j).offset - (v.player j).second.toNat)))) := by
  have horder := (follow_failPlayer id v j).inOrder hv.order
  have hc := call_of_slot hv.slot
  have hf : Fails id v j h := ⟨hcall, hid, by simp [hc, hv.type]⟩
  rcases failPlayer_cases id v j with ⟨k, ⟨hk, -, -⟩, he⟩ | ⟨hno, -⟩
  · rw [hcall] at hk
    cases hk
    have hpos : ((v.freePlayer j).alarmSeq h.slot).position = some x := by rw [← hx, ← hv.seq]; rfl
    have hprog : (v.freePlayer j).programOf h = some g := by
      have : (v.freePlayer j).call h = some c := hc
      simp [State.programOf, this, Call.alarm, ha, ← hg]; rfl
    have hstep : State.failPlayer id v j = State.updCall ((v.freePlayer j).setAlarmSeq h.slot
        (toneStart g x.repeatNo x.index .substituted
          (framesOfMs (substitutedMs ((v.phrase id).length - (v.player j).offset - (v.player j).second.toNat))))) h substituted := by
      rw [he, State.failStep, hpos, hprog]; rfl
    rw [hstep] at horder ⊢
    refine ⟨horder, slot_updCall_self (by exact hc) _, ?_, by rw [substituted_alarm ha, ← hv.type, Call.type, Call.type, ha]⟩
    rw [State.alarmSeq, updCall_only]
    have hlt := slot_lt_of_call hc
    exact Table.get_set_self _ _ _ _ (by omega)
  · exact absurd hf (hno h)

theorem failPlayer_call {id : Nat} {v : State} {j : Nat} (hj : j < 4) {i : Nat} {h : Handle} (hi : (v.player i).call ≠ some h) :
    ((State.failPlayer id v j).player i).call ≠ some h := by
  rcases player_failPlayer (id := id) (v := v) hj i with he | ⟨-, he⟩ <;> rw [he]
  · exact hi
  · exact nofun

/-- Failing players of other calls leave an ALARM as it is, and the players that are not among them. -/
theorem AlarmAt.others {id : Nat} {h : Handle} {c : Call} {q : AlarmSeq} {l : List Nat} (hl : ∀ j ∈ l, j < 4) {v : State}
    (hv : AlarmAt v h c q) (ho : ∀ j ∈ l, (v.player j).call ≠ some h) :
    AlarmAt (l.foldl (State.failPlayer id) v) h c q ∧
      (∀ i, i ∉ l → (l.foldl (State.failPlayer id) v).player i = v.player i) ∧
      ∀ i, (v.player i).call ≠ some h → ((l.foldl (State.failPlayer id) v).player i).call ≠ some h := by
  induction l generalizing v with
  | nil => exact ⟨hv, fun _ _ => rfl, fun _ h => h⟩
  | cons j l ih =>
    have hj := hl j (List.mem_cons_self ..)
    obtain ⟨h1, h2, h3⟩ := ih (fun j hj => hl j (List.mem_cons_of_mem _ hj)) (hv.other id (ho j (List.mem_cons_self ..)))
      fun j' hj' => failPlayer_call hj (ho j' (List.mem_cons_of_mem _ hj'))
    refine ⟨h1, fun i hi => (h2 i fun hm => hi (List.mem_cons_of_mem _ hm)).trans ?_, fun i hi => h3 i (failPlayer_call hj hi)⟩
    rcases player_failPlayer (id := id) (v := v) hj i with he | ⟨rfl, -⟩
    · exact he
    · exact absurd (List.mem_cons_self ..) hi

/-- When all players have been looked at, the step of the ALARM whose player played the phrase is SUBSTITUTED. -/
theorem AlarmAt.failPlayers {v : State} {h : Handle} {c : Call} {q : AlarmSeq} (hv : AlarmAt v h c q) {id i : Nat} (hi : i < 4)
    (hcall : (v.player i).call = some h) (hid : (v.player i).phrase = some id) {a : AlarmPart} (ha : c.part = .alarm a)
    {g : AlarmProgram} (hg : v.program a.program = some g) {x : StepPosition} (hx : q.position = some x)
    (hone : ∀ j, j < 4 → j ≠ i → (v.player j).call ≠ some h) :
    AlarmAt ((List.range 4).foldl (State.failPlayer id) v) h (substituted c) (toneStart g x.repeatNo x.index .substituted
      (framesOfMs (substitutedMs ((v.phrase id).length - (v.player i).offset - (v.player i).second.toNat)))) := by
  obtain ⟨l1, l2, hl⟩ := List.mem_iff_append.1 (List.mem_range.2 hi)
  have hlt : ∀ j ∈ l1 ++ i :: l2, j < 4 := fun j hj => List.mem_range.1 (hl ▸ hj)
  have hn : (l1 ++ i :: l2).Nodup := hl ▸ List.nodup_range
  obtain ⟨-, hn2, hn12⟩ := List.nodup_append.1 hn
  have hi1 : i ∉ l1 := fun hm => hn12 i hm i (List.mem_cons_self ..) rfl
  have hi2 : i ∉ l2 := (List.nodup_cons.1 hn2).1
  have ho : ∀ j ∈ l1 ++ i :: l2, j ≠ i → (v.player j).call ≠ some h := fun j hj => hone j (hlt j hj)
  obtain ⟨h1, h2, h3⟩ := hv.others (id := id) (l := l1) (fun j hj => hlt j (List.mem_append_left _ hj)) fun j hj =>
    ho j (List.mem_append_left _ hj) fun he => hi1 (he ▸ hj)
  have hfail := failPlayers_only id l1 v
  rw [hl, List.foldl_append, List.foldl_cons]
  generalize l1.foldl (State.failPlayer id) v = v1 at h1 h2 h3 hfail
  have hplayer := h2 i hi1
  have hphrase : v1.phrase id = v.phrase id := by rw [hfail]; rfl
  have hprog : v1.program a.program = some g := by rw [← hg, hfail]; rfl
  have h4 := h1.fails (by rw [hplayer]; exact hcall) (by rw [hplayer]; exact hid) ha hprog hx
  rw [hplayer, hphrase] at h4
  refine (h4.others (id := id) (fun j hj => hlt j (List.mem_append_right _ (List.mem_cons_of_mem _ hj))) fun j hj => ?_).1
  exact failPlayer_call hi (h3 j (ho j (List.mem_append_right _ (List.mem_cons_of_mem _ hj)) fun he => hi2 (he ▸ hj)))

/-! ## The end of a check that fails -/

/-- The state after a check has found a mismatch, before the next check begins. -/
def checkFailedFrom (w : State) (id : Nat) : State := (List.range 4).foldl (State.failPlayer id) (w.failMessages id)

/-- The state with the phrase BAD and its fault confirmed. -/
def markedBad (u : State) (id : Nat) : State := (u.setPhrase id { u.phrase id with state := .bad }).recordFault (.phrase id) .phraseBad

theorem checkFailed_eq (u : State) (id : Nat) : u.checkFailed id = checkFailedFrom (markedBad u id) id := rfl

section

variable {w : State} {id : Nat}

theorem failMessages_only (w : State) (id : Nat) : OnlyEnding w (w.failMessages id) :=
  failMessages_keeps (P := OnlyEnding w) (fun _ _ _ _ h _ _ _ => h.trans (enterEnding_only _ _ _ _)) rfl

/-- A MESSAGE that has ended is not touched by the failing players. -/
theorem ending_failPlayers {v : State} {h : Handle} {x : EndReason} {d : Call} (hd : Ending v h x d) (ht : d.type ≠ .alarm) (l : List Nat) :
    Ending (l.foldl (State.failPlayer id) v) h x d := by
  induction l generalizing v with
  | nil => exact hd
  | cons j l ih =>
    refine ih ?_
    have hslot : (State.failPlayer id v j).slot h.slot = v.slot h.slot := by
      rcases failPlayer_cases id v j with ⟨k, ⟨-, -, hal⟩, he⟩ | ⟨-, he⟩ <;> rw [he]
      unfold State.failStep
      split
      · rw [markSubstituted_eq, slot_updCall, if_neg]
        · rfl
        · rintro ⟨hs, hg⟩
          have hk : k = h := by
            have : (v.slot h.slot).gen = k.gen := hg
            rw [hd.slot] at this
            cases k; cases h; simp_all
          rw [hk, call_of_slot hd.slot] at hal
          exact ht (by simpa using hal)
      · rfl
    have hends := (failPlayer_only id v j).endpoints
    exact {
      slot := hslot.trans hd.slot, state := hd.state, reason := hd.reason, sweep := hd.sweep, part := hd.part
      unlisted := fun e => by rw [ep_congr hends]; exact hd.unlisted e
      silent := fun hal => absurd hal ht }

/-- A live MESSAGE that names the BAD phrase has ended, with its position kept and its sweep's request answered. -/
theorem checkFailed_message (hl : w.listingsOk) {h : Handle} {c : Call} {m : MessagePart} (hc : w.call h = some c)
    (hm : c.part = .message m) (hlive : c.state.live = true) (hid : id ∈ m.phrases) :
    ∃ d, Ending (checkFailedFrom w id) h .phraseFailed d ∧
      (w.playersOk → EndingKeeps w h c.part d.part) ∧
      ∀ sw, w.sweepsHeld → c.sweep = some sw →
        SweepAnswered w (checkFailedFrom w id) h.slot sw (if sw.kind = .opening then .notReady else .unknownCall) (stoppedData h sw) := by
  obtain ⟨v, hv⟩ := failMessages_rowEnd hl hc hm hlive hid
  have htype : c.type ≠ .alarm := by rw [Call.type, hm]; exact nofun
  refine ⟨_, ending_failPlayers hv.ending (by rw [endingPart_type]; exact htype) _,
    fun hp => hv.message (endsOrStays_fail id) hm fun i hi => (hp.2.2.1 h c m i hc hm hi).2, fun sw hheld hs q ha hq => ?_⟩
  have hans := hv.answers (endsOrStays_fail id) (handles_slots_nodup w) hs ha hq fun k hk hne d sw' hd hs' ha' =>
    sweep_ports_apart hheld hc hd hne hs hs' ha ha'
  have hcode : sw.stopCode c.type .phraseFailed = if sw.kind = .opening then .notReady else .unknownCall := by
    cases hkind : sw.kind <;> simp [Sweep.stopCode, hkind, htype]
  rw [hcode] at hans
  have hport : (checkFailedFrom w id).port sw.port = (w.handles.foldl (failIfNames id) w).port sw.port :=
    (failPlayers_only id (List.range 4) (w.failMessages id)).port sw.port
  exact answered_congr hans rfl (by rw [hport]) (by rw [hport])

/-- An ALARM is as it was when the messages have ended. -/
theorem failMessages_alarm {h : Handle} {c : Call} (horder : InOrder false none w) (hc : w.slot h.slot = ⟨h.gen, some c⟩)
    (ht : c.type = .alarm) : AlarmAt (w.failMessages id) h c (w.alarmSeq h.slot) ∧
      (∀ i, (w.player i).call = some h → (w.failMessages id).player i = w.player i) ∧
      ∀ i, i < 4 → (w.player i).call ≠ some h → ((w.failMessages id).player i).call ≠ some h := by
  have hkeep := failMessages_keeps (id := id) (s := w) (P := fun v => v.slot h.slot = ⟨h.gen, some c⟩ ∧ v.alarms = w.alarms ∧
      (∀ i, (w.player i).call = some h → v.player i = w.player i) ∧
      ∀ i, i < 4 → (w.player i).call ≠ some h → (v.player i).call ≠ some h) ?_ ⟨hc, rfl, fun _ _ => rfl, fun _ _ h => h⟩
  · obtain ⟨h1, h2, h3, h4⟩ := hkeep
    exact ⟨⟨horder.failMessages id, h1, by rw [State.alarmSeq, h2]; rfl, ht⟩, h3, h4⟩
  · rintro v k d m ⟨h1, h2, h3, h4⟩ hd - hm
    have hdt : d.type ≠ .alarm := by rw [Call.type, hm]; exact nofun
    have hslot : k.slot ≠ h.slot := fun hs => by
      have hr := record_of_call hd
      rw [hs, h1] at hr
      cases hr
      exact hdt ht
    have hkh : k ≠ h := fun he => hslot (by rw [he])
    refine ⟨by rw [slot_enterEnding hd, if_neg hslot, h1], ?_, fun i hi => ?_, fun i hi hne => ?_⟩
    · rw [(enterEnding_alarms v k d _).1, if_neg hdt, h2]
    · rw [player_enterEnding_ne hkh d _ (by rw [h3 i hi]; exact hi), h3 i hi]
    · rw [State.player, enterEnding_players]
      show ((v.freePlayerOf k).player i).call ≠ some h
      unfold State.freePlayerOf
      split
      · rename_i j hj
        rw [player_freePlayer (List.mem_range.1 (List.mem_of_find?_eq_some hj))]
        split
        · exact nofun
        · exact h4 i hi hne
      · exact h4 i hi hne

end

end Sys2Proof.Calls
end

section
/-! PROOFS. VERIFY_BLOCK_READ (07 R129, R130). -/

namespace Sys2Proof.Calls

open Sys2Proof.Machine

/-! ## States with the same calls -/

theorem listingsOk_congr {s t : State} (hc : t.calls = s.calls) (he : t.endpoints = s.endpoints) (h : s.listingsOk) : t.listingsOk := by
  have hslot := slot_of_calls hc
  have hcall : ∀ k, t.call k = s.call k := fun k => call_congr (hslot _)
  simpa only [State.listingsOk, he, hslot, hcall, State.handleOf, ep_congr he] using h

theorem playersOk_congr {s t : State} (hc : t.calls = s.calls) (hp : t.players = s.players) (ha : t.alarms = s.alarms)
    (hg : t.programs = s.programs) (h : s.playersOk) : t.playersOk := by
  have hslot := slot_of_calls hc
  have hcall : ∀ k, t.call k = s.call k := fun k => call_congr (hslot _)
  have hpl : ∀ i, t.player i = s.player i := fun i => by rw [State.player, hp]; rfl
  have hseq : ∀ i, t.alarmSeq i = s.alarmSeq i := fun i => by rw [State.alarmSeq, ha]; rfl
  have hprog : ∀ i, t.program i = s.program i := fun i => by rw [State.program, hg]; rfl
  simpa only [State.playersOk, hslot, hcall, State.handleOf, hpl, hseq, hprog] using h

theorem sweepsHeld_congr {s t : State} (hc : t.calls = s.calls) (hp : ∀ q, t.port q = s.port q) (h : s.sweepsHeld) : t.sweepsHeld := by
  simpa only [State.sweepsHeld, slot_of_calls hc, hp] using h

/-! ## The end of a check -/

/-- What the end of a check leaves of the Verify Unit: its id has left the queue, its entry has a new state, and the next check
begins. -/
theorem checkEnded {s y : State} {id : Nat} {rest : List Nat} {st : PhraseState} (hn : y.noPending = true) (s0 : State)
    (hq : y.verifyQueue = rest) (hp : y.phrases = s.phrases.set id { s.phrase id with state := st }) (hid : id < 128)
    (hno : id ∉ rest) :
    (settle s0 y.beginCheck).verifyQueue = rest ∧ (settle s0 y.beginCheck).verifySummed = 0 ∧ (settle s0 y.beginCheck).verifySum = 0 ∧
      (∀ j, j < 128 → rest.head? = some j → ((settle s0 y.beginCheck).phrase j).state =
        if (s.phrase j).state = .defined ∨ (s.phrase j).state = .bad then .verifying else (s.phrase j).state) ∧
      (settle s0 y.beginCheck).phrase id = { s.phrase id with state := st } ∧
      (settle s0 y.beginCheck).activeFaults = y.activeFaults := by
  have hnb : y.beginCheck.noPending = true := (beginCheck_only y).noPending.trans hn
  have hv := settle_verifyPart hnb s0
  have hb := beginCheck_eq y
  generalize settle s0 y.beginCheck = t at hv
  simp only [verifyPart, Prod.mk.injEq] at hv
  obtain ⟨h1, h2, h3, h4, h5⟩ := hv
  have hphrase : ∀ j, t.phrase j = y.beginCheck.phrase j := fun j => by rw [State.phrase, h1]; rfl
  have hset := phrase_set (s := s) (t := y) hp hid
  refine ⟨h2.trans (by rw [hb]; exact hq), h3.trans (by rw [hb]), h4.trans (by rw [hb]), fun j hj hhead => ?_, ?_, h5.trans (by rw [hb])⟩
  · have hne : id ≠ j := by rintro rfl; exact hno (List.mem_of_mem_head? (by rw [hhead]; rfl))
    rw [hphrase, phrase_beginCheck_head hj (by rw [hq, hhead]), hset, if_neg hne]
  · rw [hphrase, phrase_beginCheck_ne (by rw [hq]; exact hno), hset, if_pos rfl]

/-- The state in which a block has been added to the sum. -/
def blockRead (s : State) (id n : Nat) : State :=
  { s with
    verifySummed := s.verifySummed + min (min n 256) ((s.phrase id).length - s.verifySummed)
    verifySum := s.memory.sumFrom ((s.phrase id).start + 2 * s.verifySummed)
      (min (min n 256) ((s.phrase id).length - s.verifySummed)) s.verifySum }

/-- The state in which the id of a check that ends has left the queue. -/
def unqueued (s : State) (id n : Nat) : State := { blockRead s id n with verifyQueue := s.verifyQueue.drop 1 }

theorem readBlock_eq (s : State) (id n : Nat) : s.readBlock id n =
    if (s.phrase id).length ≤ (blockRead s id n).verifySummed then
      (if (blockRead s id n).verifySum = (s.phrase id).check then (unqueued s id n).checkPassed id
        else checkFailedFrom (markedBad (unqueued s id n) id) id).beginCheck
    else blockRead s id n := rfl

theorem markedBad_only (s : State) (id n : Nat) : OnlyVerify s (markedBad (unqueued s id n) id) :=
  OnlyVerify.trans (t := (unqueued s id n).setPhrase id { (unqueued s id n).phrase id with state := .bad }) rfl (recordFault_only _ _ _).verify

theorem checkPassed_only (s : State) (id n : Nat) : OnlyVerify s ((unqueued s id n).checkPassed id) :=
  OnlyVerify.trans (t := (unqueued s id n).setPhrase id { (unqueued s id n).phrase id with state := .verified }) rfl
    (clearFault_only _ _ _).verify

theorem OnlyFaults.queue {s t : State} (h : OnlyFaults s t) : t.verifyQueue = s.verifyQueue ∧ t.phrases = s.phrases := by
  rw [h]; exact ⟨rfl, rfl⟩

theorem checkFailedFrom_verifyPart (w : State) (id : Nat) : verifyPart (checkFailedFrom w id) = verifyPart w :=
  (failPlayers_only id _ _).verifyPart.trans (failMessages_only w id).verifyPart

theorem checkFailedFrom_noPending {w : State} (hn : w.noPending = true) (id : Nat) : (checkFailedFrom w id).noPending = true :=
  (failPlayers_only id _ _).noPending.trans
    (failMessages_keeps (P := fun v => v.noPending = true) (fun _ k c _ h _ _ _ => enterEnding_noPending h k c _) hn)

/-- A live MESSAGE that names a phrase found BAD. -/
theorem badPhrase_message {s w : State} (hw : OnlyVerify s w) (hn : s.noPending = true) {id : Nat} (hl : s.listingsOk) {h : Handle} {c : Call}
    {m : MessagePart} (hc : s.call h = some c) (hm : c.part = .message m) (hlive : c.state.live = true) (hid : id ∈ m.phrases) (s0 : State) :
    EndedIn (settle s0 (checkFailedFrom w id).beginCheck) h .phraseFailed ∧
      (s.playersOk → EndedKeeping s (settle s0 (checkFailedFrom w id).beginCheck) h c.part) ∧
      ∀ sw, s.sweepsHeld → c.sweep = some sw → SweepAnswered s (settle s0 (checkFailedFrom w id).beginCheck) h.slot sw
        (if sw.kind = .opening then .notReady else .unknownCall) (stoppedData h sw) := by
  have hcw : w.call h = some c := (call_congr (slot_of_calls hw.calls _)).trans hc
  obtain ⟨d, hd, hkeep, hans⟩ := checkFailed_message (listingsOk_congr hw.calls hw.endpoints hl) hcw hm hlive hid
  have hnf := checkFailedFrom_noPending (hw.noPending.trans hn) id
  have hb := beginCheck_only (checkFailedFrom w id)
  have hnb := hb.noPending.trans hnf
  have hdb : Ending (checkFailedFrom w id).beginCheck h .phraseFailed d :=
    hd.congr (slot_of_calls hb.calls _) (fun e => by rw [ep_congr hb.endpoints]) hb.alarms hb.triggers
  refine ⟨(hdb.settled hnb s0).1, fun hp => hdb.keeping hnb s0 ?_, fun sw hh hs q ha hq => ?_⟩
  · have := hkeep (playersOk_congr hw.calls hw.players hw.alarms hw.programs hp)
    rw [hm] at this ⊢
    simpa only [EndingKeeps, State.player, hw.players] using this
  · have hport := hw.port sw.port
    have := hans sw (sweepsHeld_congr hw.calls hw.port hh) hs q ha (by rw [hport]; exact hq)
    have hbp := hb.port sw.port
    exact settle_answered (answered_congr this (by rw [hport]) (by rw [hbp]) (by rw [hbp])) hnb s0

/-- An ALARM whose player plays a phrase found BAD. -/
theorem badPhrase_alarm {s w : State} (hw : OnlyVerify s w) (hn : s.noPending = true) (hp : s.playersOk) (hok : s.callsOk) {id i : Nat}
    (hlen : (w.phrase id).length = (s.phrase id).length) {h : Handle} {c : Call} {a : AlarmPart} {g : AlarmProgram} {x : StepPosition}
    (hi : i < 4) (hcall : (s.player i).call = some h) (hid : (s.player i).phrase = some id) (hc : s.call h = some c)
    (ha : c.part = .alarm a) (hg : s.program a.program = some g) (hx : (s.alarmSeq h.slot).position = some x) (s0 : State) :
    (settle s0 (checkFailedFrom w id).beginCheck).alarmSeq h.slot = toneStart g x.repeatNo x.index .substituted
      (framesOfMs (substitutedMs ((s.phrase id).length - (s.player i).offset - (s.player i).second.toNat))) ∧
    ∃ u b, (settle s0 (checkFailedFrom w id).beginCheck).slot h.slot = ⟨h.gen, some u⟩ ∧ u.part = .alarm b ∧ b.substituted = true := by
  have hplayer : ∀ j, w.player j = s.player j := fun j => by rw [State.player, hw.players]; rfl
  have hseq : w.alarmSeq h.slot = s.alarmSeq h.slot := by rw [State.alarmSeq, hw.alarms]; rfl
  have horder : InOrder false none w := (inOrder_of_callsOk hok).same hw.calls hw.endpoints hw.programs
  have hcw : w.slot h.slot = ⟨h.gen, some c⟩ := (slot_of_calls hw.calls _).trans (slot_of_call hc)
  have htype : c.type = .alarm := by rw [Call.type, ha]
  obtain ⟨h1, h2, h3⟩ := failMessages_alarm (id := id) horder hcw htype
  have hsame := h2 i (by rw [hplayer]; exact hcall)
  rw [hplayer] at hsame
  have hfm := failMessages_only w id
  have hprog : (w.failMessages id).program a.program = some g := by
    rw [← hg, State.program, hfm]; show w.programs.get _ _ = _; rw [hw.programs]; rfl
  have hphrase : ((w.failMessages id).phrase id).length = (s.phrase id).length := by
    rw [← hlen]; exact congrArg (fun t : Table Phrase 128 => (t.get id .initial).length) (congrArg Prod.fst hfm.verifyPart)
  have hone : ∀ j, j < 4 → j ≠ i → ((w.failMessages id).player j).call ≠ some h := fun j hj hne =>
    h3 j hj (by rw [hplayer]; exact fun he => hne (onePlayer_of_playersOk hp h j i hj hi he hcall))
  have hfail := h1.failPlayers (id := id) hi (by rw [hsame]; exact hcall) (by rw [hsame]; exact hid) ha hprog (by rw [hseq]; exact hx) hone
  rw [hsame, hphrase] at hfail
  have hb := beginCheck_only (checkFailedFrom w id)
  have hnb := hb.noPending.trans (checkFailedFrom_noPending (hw.noPending.trans hn) id)
  have hun := State.settle_unsettled (s0 := s0) hnb
  simp only [State.unsettled, Prod.mk.injEq] at hun
  obtain ⟨-, -, halarm, -⟩ := hun
  refine ⟨?_, ?_⟩
  · rw [State.alarmSeq, halarm, hb.alarms]; exact hfail.seq
  · obtain ⟨u, hu, hcu⟩ := (settles_settle hnb s0).slot ((slot_of_calls hb.calls _).trans hfail.slot)
    obtain ⟨k, hk⟩ := hcu.part.alarm { a with substituted := true } (by rw [substituted_alarm ha])
    exact ⟨u, _, hu, hk, rfl⟩

/-- Settles O48: a block is added, and at the phrase's end the check passes or fails. -/
theorem verifyUnitChecksHead : Obligations.VerifyUnitChecksHead := by
  intro s n
  have hexec : exec (.verifyBlockRead n) s = execVerifyBlockRead n s := rfl
  refine ⟨fun hq => by rw [hexec, execVerifyBlockRead, hq], ?_⟩
  intro id rest hq hn e k sum summed
  refine ⟨settle s (s.readBlock id n), by rw [hexec, execVerifyBlockRead, hq], fun hs hlt => ?_, fun hs hle hno hid => ?_⟩
  · have hread : s.readBlock id n = blockRead s id n := by
      rw [readBlock_eq, if_neg]; exact Nat.not_le.2 hlt
    rw [State.settle_standing, hread, blockRead, sumFrom_eq _ _ _ hs]
  · have hsum : (blockRead s id n).verifySum = sum := sumFrom_eq _ _ _ hs
    have hread : s.readBlock id n = (if sum = e.check then (unqueued s id n).checkPassed id
        else checkFailedFrom (markedBad (unqueued s id n) id) id).beginCheck := by
      have hle' : (s.phrase id).length ≤ (blockRead s id n).verifySummed := hle
      rw [readBlock_eq, if_pos hle', hsum]
    rw [hread]
    have hqueue : (unqueued s id n).verifyQueue = rest := congrArg (List.drop 1) hq
    by_cases hpass : sum = e.check
    · rw [if_pos hpass]
      have hf := clearFault_only ((unqueued s id n).setPhrase id { s.phrase id with state := .verified }) (.phrase id) .phraseBad
      obtain ⟨h1, h2, h3, h4, h5, h6⟩ := checkEnded (s := s) (st := .verified) ((checkPassed_only s id n).noPending.trans hn) s
        (hf.queue.1.trans hqueue) hf.queue.2 hid hno
      refine ⟨h1, h2, h3, h4, fun _ => ⟨h5, ?_⟩, fun hne => absurd hpass hne⟩
      rw [State.activeFault, h6]
      exact activeFault_clearFault _ _ _
    · rw [if_neg hpass]
      have hw := markedBad_only s id n
      have hv := checkFailedFrom_verifyPart (markedBad (unqueued s id n) id) id
      have hf := recordFault_only ((unqueued s id n).setPhrase id { s.phrase id with state := .bad }) (.phrase id) .phraseBad
      simp only [verifyPart, Prod.mk.injEq] at hv
      obtain ⟨hv1, hv2, -, -, hv5⟩ := hv
      have hnw := checkFailedFrom_noPending (hw.noPending.trans hn) id
      obtain ⟨h1, h2, h3, h4, h5, h6⟩ := checkEnded (s := s) (st := .bad) hnw s (hv2.trans (hf.queue.1.trans hqueue))
        (hv1.trans hf.queue.2) hid hno
      refine ⟨h1, h2, h3, h4, fun heq => absurd heq hpass, fun _ => ⟨h5, ?_, fun hl h c m hc hm hlive hmem =>
        badPhrase_message hw hn hl hc hm hlive hmem s, ?_⟩⟩
      · rw [State.activeFault, h6, hv5]
        exact activeFault_recordFault _ _ _
      · intro hp hok i h c a g x hi hcall hph hc ha hg hx left
        have hlen : ((markedBad (unqueued s id n) id).phrase id).length = (s.phrase id).length := by
          have hset := phrase_set (s := s) (t := markedBad (unqueued s id n) id) hf.queue.2 hid id
          rw [hset, if_pos rfl]
        obtain ⟨h7, h8⟩ := badPhrase_alarm hw hn hp hok hlen hi hcall hph hc ha hg hx s
        rw [h7]
        refine ⟨⟨_, rfl, rfl, rfl, rfl, rfl, ?_⟩, rfl, h8⟩
        have hleft : left = (s.phrase id).length - (s.player i).offset - (s.player i).second.toNat := by
          cases hsec : (s.player i).second <;> simp [left, hsec, e]
        rw [hleft]; rfl

end Sys2Proof.Calls
end

section
/-! PROOFS. An arrival: the listings it bumps and what it reports (03 R47 to R50, R63). -/

namespace Sys2Proof.Calls

open Sys2Proof.Machine

/-! ## The listings an arrival bumps -/

/-- The endpoint of an arrival before its marks are evaluated, and the listings that have left. -/
structure ArrivalAt (x : EpCtx) (c : ListClass) (l : Listing) (ep : Endpoint) (before : Endpoint) (gone : List Listing) : Prop where
  keys : (Calls.keys c before ++ gone.map keyOf).Perm (keyOf l :: Calls.keys c ep)
  places : (ep.arrive x c l).1 = (before.evalMarks x).1
  reports : (ep.arrive x c l).2 = gone.flatMap (leaveReports x .bump) ++ (before.evalMarks x).2
  empty : ep.slot c = none → gone = []

/-- The places of the class hold what they held and the arrival, without what it has bumped. -/
theorem arrivalAt (x : EpCtx) (c : ListClass) (l : Listing) (ep : Endpoint) : ∃ before gone, ArrivalAt x c l ep before gone := by
  cases hs : ep.slot c with
  | none =>
    refine ⟨(ep.giveSlot x c l 0).rechooseDuck x, [], ?_, ?_, ?_, fun _ => rfl⟩
    · rw [(rechooseDuck_same _ _).keys_eq, keys_giveSlot]
      simp [keys, slotKeys, hs]
    · simp only [Endpoint.arrive, hs]; rfl
    · simp only [Endpoint.arrive, hs]; rfl
  | some a =>
    have hslot : slotKeys c ep = [keyOf a.listing] := by simp [slotKeys, hs]
    have harrive : ep.arrive x c l = Endpoint.finish x (ep.arriveOver x c l a) := by simp only [Endpoint.arrive, hs]
    by_cases hlev : l.level ≤ a.listing.level
    · have hover : ep.arriveOver x c l a = ep.putWait x c (insertByLevel l (ep.wait c)) := by rw [Endpoint.arriveOver, if_pos hlev]
      rw [hover] at harrive
      refine ⟨_, _, ?_, by rw [harrive]; rfl, by rw [harrive]; rfl, fun h => nomatch hs.symm.trans h⟩
      rw [(rechooseDuck_same _ _).keys_eq]
      simp only [Endpoint.putWait, keys, slotKeys_setWait, waitKeys_setWait, hslot]
      rw [List.append_assoc, ← List.map_append, List.take_append_drop]
      refine (List.Perm.append_left [keyOf a.listing] ((insertByLevel_perm l (ep.wait c)).map keyOf)).trans ?_
      exact .swap _ _ _
    · have hd : SamePlaces (if l.type = CallType.alarm then (ep.cutDeparting, none) else ep.depart a).1 ep := by
        split
        · exact cutDeparting_same _
        · exact depart_same _ _
      obtain ⟨d, hd, hover⟩ : ∃ d : Endpoint × Option DepSlot, SamePlaces d.1 ep ∧ ep.arriveOver x c l a =
          ((d.1.putWait x c ({ a.listing with fading := d.2 } :: d.1.wait c)).1.giveSlot x c l 0,
            (d.1.putWait x c ({ a.listing with fading := d.2 } :: d.1.wait c)).2) :=
        ⟨_, hd, by rw [Endpoint.arriveOver, if_neg hlev]⟩
      have hw := (hd c).2
      rw [hover] at harrive
      refine ⟨_, _, ?_, by rw [harrive]; rfl, by rw [harrive]; rfl, fun h => nomatch hs.symm.trans h⟩
      rw [(rechooseDuck_same _ _).keys_eq]
      simp only [keys_giveSlot, Endpoint.putWait, waitKeys_setWait, List.cons_append]
      refine List.Perm.cons _ ?_
      rw [← List.map_append, List.take_append_drop, List.map_cons, show (d.1.wait c).map keyOf = waitKeys c ep from hw, keys, hslot]
      exact .refl _

/-! ## What it reports -/

theorem lost_not_mem_marks (x : EpCtx) (ep : Endpoint) (k : Handle) (cause : Cause) : .lost k cause ∉ (ep.evalMarks x).2 := by
  intro h
  obtain ⟨l, -, hl⟩ := List.mem_flatMap.1 h
  unfold markReport at hl
  split at hl
  · split at hl <;> simp at hl
  · cases hl

theorem count_leaveReports (x : EpCtx) (k : Handle) (l : Listing) :
    (leaveReports x .bump l).count (.lost k .bump) = if l.call = k then 1 else 0 := by
  unfold leaveReports
  rcases x.holdOf l.call with _ | ⟨o, lv⟩
  · simp [List.count_cons]
  · cases l.interrupted <;> simp [List.count_cons]

theorem count_flatMap_leaveReports (x : EpCtx) (k : Handle) (ls : List Listing) :
    (ls.flatMap (leaveReports x .bump)).count (.lost k .bump) = (ls.map (·.call)).count k := by
  induction ls with
  | nil => rfl
  | cons l ls ih =>
    rw [List.flatMap_cons, List.count_append, ih, count_leaveReports, List.map_cons, List.count_cons]
    by_cases h : l.call = k <;> simp [h, Nat.add_comm]

section

variable {x : EpCtx} {c : ListClass} {l : Listing} {ep before : Endpoint} {gone : List Listing}

theorem ArrivalAt.keys_eq (h : ArrivalAt x c l ep before gone) : (Calls.keys c (ep.arrive x c l).1 ++ gone.map keyOf).Perm (keyOf l :: Calls.keys c ep) := by
  rw [h.places, (evalMarks_same _ _).keys_eq]; exact h.keys

theorem ArrivalAt.count (h : ArrivalAt x c l ep before gone) (k : Handle) :
    (ep.arrive x c l).2.count (.lost k .bump) = (gone.map (·.call)).count k := by
  rw [h.reports, List.count_append, count_flatMap_leaveReports, List.count_eq_zero.2 (lost_not_mem_marks _ _ _ _), Nat.add_zero]

end

/-- A report of an arrival is of a bump or of a mark. -/
theorem arrive_report {x : EpCtx} {c : ListClass} {l : Listing} {ep : Endpoint} {r : Report} (hr : r ∈ (ep.arrive x c l).2) :
    (∃ k, r = .lost k .bump) ∨ ∃ k o b, r = .interruption k o b := by
  obtain ⟨before, gone, h⟩ := arrivalAt x c l ep
  rw [h.reports, List.mem_append] at hr
  rcases hr with hr | hr
  · obtain ⟨g, -, hg⟩ := List.mem_flatMap.1 hr
    rcases leaveReports_lossOnly (k := .bump) rfl r hg with rfl | hi
    · exact .inl ⟨_, rfl⟩
    · exact .inr hi
  · rcases markReports_lossOnly (h := l.call) (k := .bump) r hr with rfl | hi
    · exact absurd hr (lost_not_mem_marks _ _ _ _)
    · exact .inr hi

/-- An interruption that begins is of a call that the endpoint lists. -/
theorem lists_of_begins {x : EpCtx} {c : ListClass} {l : Listing} {ep : Endpoint} {k : Handle} {o : Nat}
    (hr : .interruption k o true ∈ (ep.arrive x c l).2) : (ep.arrive x c l).1.lists k = true := by
  obtain ⟨before, gone, h⟩ := arrivalAt x c l ep
  rw [h.reports, List.mem_append] at hr
  rw [h.places, lists_congr (evalMarks_same x before).keys_eq]
  rcases hr with hr | hr
  · obtain ⟨g, -, hg⟩ := List.mem_flatMap.1 hr
    rw [leaveReports, List.mem_cons] at hg
    have hg := hg.resolve_left (by simp)
    split at hg
    · split at hg <;> simp at hg
    · cases hg
  · obtain ⟨g, hg, hm⟩ := List.mem_flatMap.1 hr
    unfold markReport at hm
    split at hm
    · split at hm
      · cases hm
      · have hgk : k = g.call := by
          have := List.mem_singleton.1 hm
          injection this
        refine lists_iff.2 ⟨.background, keyOf g, ?_, hgk.symm⟩
        rw [keys_eq]
        refine List.mem_map_of_mem ?_
        simpa [Endpoint.listings, Endpoint.slot, Endpoint.wait] using hg
    · cases hm

section

variable {x : EpCtx} {l : Listing} {ep : Endpoint}

/-- What an arrival at an endpoint with apart listings does to a call: it loses no listing, or its only one. -/
theorem arrive_lost_le (hone : ((keys l.type.listClass ep).map (·.1)).Nodup) (hun : ep.lists l.call = false) (k : Handle) :
    (ep.arrive x l.type.listClass l).2.count (.lost k .bump) ≤ 1 ∧
      ((ep.arrive x l.type.listClass l).2.count (.lost k .bump) = 1 → ∀ q ∈ keys l.type.listClass (ep.arrive x l.type.listClass l).1, q.1 ≠ k) := by
  obtain ⟨before, gone, h⟩ := arrivalAt x l.type.listClass l ep
  have hn : ((keyOf l :: keys l.type.listClass ep).map (·.1)).Nodup := by
    rw [List.map_cons, List.nodup_cons]
    refine ⟨fun hm => ?_, hone⟩
    obtain ⟨q, hq, hql⟩ := List.mem_map.1 hm
    exact lists_false_iff.1 hun _ q hq hql
  have hn' := (h.keys_eq.map (·.1)).nodup_iff.2 hn
  rw [List.map_append, List.map_map] at hn'
  obtain ⟨-, hn2, hdisj⟩ := List.nodup_append.1 hn'
  rw [h.count]
  refine ⟨List.nodup_iff_count_le_one.1 hn2 k, fun hc q hq hqk => ?_⟩
  have hmem : k ∈ gone.map (·.call) := List.count_pos_iff.1 (by omega)
  exact hdisj q.1 (List.mem_map_of_mem hq) k hmem hqk

/-- A call that the arrival does not bump is listed where it was, and the arriving call too. -/
theorem lists_arrive_of_kept {k : Handle} (hk : .lost k .bump ∉ (ep.arrive x l.type.listClass l).2)
    (hl : k = l.call ∨ ep.lists k = true) : (ep.arrive x l.type.listClass l).1.lists k = true := by
  obtain ⟨before, gone, h⟩ := arrivalAt x l.type.listClass l ep
  have hkg : k ∉ gone.map (·.call) := by
    rw [← List.count_eq_zero, ← h.count]
    exact List.count_eq_zero.2 hk
  have hclass : ∀ q ∈ keyOf l :: keys l.type.listClass ep, q.1 = k → (ep.arrive x l.type.listClass l).1.lists k = true := by
    intro q hq hqk
    have hq' := h.keys_eq.symm.subset hq
    rcases List.mem_append.1 hq' with hq' | hq'
    · exact lists_iff.2 ⟨_, q, hq', hqk⟩
    · obtain ⟨g, hg, rfl⟩ := List.mem_map.1 hq'
      exact absurd (List.mem_map.2 ⟨g, hg, hqk⟩) hkg
  rcases hl with rfl | hl
  · exact hclass (keyOf l) (List.mem_cons_self ..) rfl
  · obtain ⟨d, q, hq, hqk⟩ := lists_iff.1 hl
    by_cases hd : d = l.type.listClass
    · subst hd; exact hclass q (List.mem_cons_of_mem _ hq) hqk
    · exact lists_iff.2 ⟨d, q, by rw [keys_arrive_ne hd]; exact hq, hqk⟩

theorem arrive_empty (h : ep.slot l.type.listClass = none) (k : Handle) : .lost k .bump ∉ (ep.arrive x l.type.listClass l).2 := by
  obtain ⟨before, gone, ha⟩ := arrivalAt x l.type.listClass l ep
  rw [← List.count_eq_zero, ha.count, ha.empty h]
  rfl

end

end Sys2Proof.Calls
end

section
/-! PROOFS. What the Call Table does with the reports of an arrival: the bumped calls' records, their ends, and the hold outputs (02 R34;
03 R50, R59, R65; 05 R101 to R103; 06 R108). -/

namespace Sys2Proof.Calls

open Sys2Proof.Machine

/-! ## One report -/

/-- A call's record after the report of a bump at endpoint `e`. -/
def bumped (e : Nat) (c : Call) : Call := (c.dropParticipant e).countBump

/-- A sweep that keeps DISPLACED for its call's end. -/
def keepsLoss (c : Call) : Call := { c with sweep := c.sweep.map fun sw => { sw with lastLoss := some .displaced } }

theorem updCall_listingCount (s : State) (k : Handle) (f : Call → Call) (h : Handle) : (s.updCall k f).listingCount h = s.listingCount h := by
  rw [State.listingCount, (updCall_only s k f).rest.1]; rfl

@[simp] theorem countBump_delivering (c : Call) : c.countBump.delivering = c.delivering := by
  unfold Call.countBump
  split
  · simp [Call.delivering, Option.any_map]
  · rfl

theorem bumped_delivering (e : Nat) (c : Call) : (bumped e c).delivering = c.delivering := by
  rw [bumped, countBump_delivering, Call.delivering, dropParticipant_sweep]; rfl

theorem bumped_state (e : Nat) (c : Call) : (bumped e c).state = c.state := by
  rw [bumped, Call.countBump, dropParticipant_eq]
  split <;> rfl

/-- The cases of a bump's report. -/
inductive BumpTaken (e : Nat) (k : Handle) (v : State) : State → Prop
  | unknown (hc : v.call k = none) : BumpTaken e k v v
  | listed {c : Call} (hc : v.call k = some c) (hl : v.listingCount k ≠ 0) : BumpTaken e k v (v.updCall k (bumped e))
  | kept {c : Call} (hc : v.call k = some c) (hl : v.listingCount k = 0) (hd : c.delivering = true) :
      BumpTaken e k v (v.updCall k fun c => keepsLoss (bumped e c))
  | ended {c : Call} (hc : v.call k = some c) (hl : v.listingCount k = 0) (hd : c.delivering = false) :
      BumpTaken e k v ((v.updCall k (bumped e)).endCall k .displaced)

theorem takeReport_bump (e : Nat) (k : Handle) (v : State) : BumpTaken e k v (State.takeReport e v (.lost k .bump)) := by
  have hdef : State.takeReport e v (.lost k .bump) = (v.updCall k (bumped e)).lastLoss k .bump := rfl
  cases hc : v.call k with
  | none =>
    have : State.takeReport e v (.lost k .bump) = v := by
      rw [hdef, updCall_none hc]; simp [State.lastLoss, hc]
    rw [this]; exact .unknown hc
  | some c =>
    have hc1 := call_updCall_self hc (bumped e)
    by_cases hl : v.listingCount k = 0
    · by_cases hd : c.delivering = true
      · have : State.takeReport e v (.lost k .bump) = v.updCall k fun c => keepsLoss (bumped e c) := by
          rw [hdef, State.lastLoss, hc1]
          simp only [updCall_listingCount, hl, if_true, bumped_delivering, hd, updCall_updCall]
          rfl
        rw [this]; exact .kept hc hl hd
      · have : State.takeReport e v (.lost k .bump) = (v.updCall k (bumped e)).endCall k .displaced := by
          rw [hdef, State.lastLoss, hc1]
          simp only [updCall_listingCount, hl, if_true, bumped_delivering, hd]
          rfl
        rw [this]; exact .ended hc hl (Bool.not_eq_true _ ▸ hd)
    · have : State.takeReport e v (.lost k .bump) = v.updCall k (bumped e) := by
        rw [hdef, State.lastLoss, hc1]
        simp only [updCall_listingCount, hl, if_false]
      rw [this]; exact .listed hc hl

theorem takeReport_interruption (e : Nat) (v : State) (k : Handle) (o : Nat) (b : Bool) :
    State.takeReport e v (.interruption k o b) = { v with holds := hear e v.holds (.interruption k o b) } :=
  takeInterruption_eq e v _

/-- The reports of an arrival. -/
def OfArrival (rs : List Report) : Prop := ∀ r ∈ rs, (∃ k, r = .lost k .bump) ∨ ∃ k o b, r = .interruption k o b

/-- The changes of one record that a bump's report may make. -/
def BumpOf (e : Nat) (f : Call → Call) : Prop := f = bumped e ∨ f = fun c => keepsLoss (bumped e c)

/-- A property that each kind of step keeps holds after the reports. -/
theorem takeReports_keep {P : State → Prop} {e : Nat} {rs : List Report} (hrs : OfArrival rs)
    (hhold : ∀ v hs, P v → P { v with holds := hs })
    (hupd : ∀ v k f, P v → BumpOf e f → .lost k .bump ∈ rs → P (v.updCall k f))
    (hend : ∀ v k c, P v → .lost k .bump ∈ rs → v.call k = some c → c.state.live = true → c.delivering = false →
      v.listingCount k = 0 → P (v.enterEnding k c .displaced)) {s : State} (hs : P s) : P (rs.foldl (State.takeReport e) s) := by
  induction rs generalizing s with
  | nil => exact hs
  | cons r rs ih =>
    refine ih (fun r hr => hrs r (List.mem_cons_of_mem _ hr)) (fun v k f h hf hk => hupd v k f h hf (List.mem_cons_of_mem _ hk))
      (fun v k c h hk => hend v k c h (List.mem_cons_of_mem _ hk)) ?_
    rcases hrs r (List.mem_cons_self ..) with ⟨k, rfl⟩ | ⟨k, o, b, rfl⟩
    · have hk : Report.lost k .bump ∈ .lost k .bump :: rs := List.mem_cons_self ..
      have hb := takeReport_bump e k s
      generalize State.takeReport e s (.lost k .bump) = t at hb
      cases hb with
      | unknown hc => exact hs
      | listed hc hl => exact hupd s k _ hs (.inl rfl) hk
      | kept hc hl hd => exact hupd s k _ hs (.inr rfl) hk
      | ended hc hl hd =>
        have h1 := hupd s k _ hs (.inl rfl) hk
        rcases endCall_cases (s.updCall k (bumped e)) k .displaced with ⟨d, hd', hlive, he⟩ | ⟨-, he⟩ <;> rw [he]
        · refine hend _ k d h1 hk hd' hlive ?_ (by rw [updCall_listingCount]; exact hl)
          rw [call_updCall_self hc] at hd'
          cases hd'
          rw [bumped_delivering]; exact hd
        · exact h1
    · rw [takeReport_interruption]; exact hhold s _ hs

/-! ## What stays through the reports -/

/-- The end of a call that is listed nowhere moves no endpoint. -/
theorem enterEnding_endpoints {v : State} {k : Handle} {c : Call} (hl : v.listingCount k = 0) (x : EndReason) :
    (v.enterEnding k c x).endpoints = v.endpoints := by
  refine Table.ext_cells ?_
  have := map_eq_of_get (t := (v.enterEnding k c x).endpoints) (u := v.endpoints) (f := id) (Endpoint.initial 0) fun e he => by
    show (v.enterEnding k c x).ep e = v.ep e
    rw [ep_enterEnding, withdrawn, lists_of_count hl e]
    rfl
  simpa using this

section

variable {e : Nat} {rs : List Report} (hrs : OfArrival rs)

include hrs

theorem takeReports_endpoints (s : State) : (rs.foldl (State.takeReport e) s).endpoints = s.endpoints :=
  takeReports_keep (P := fun v => v.endpoints = s.endpoints) hrs (fun _ _ h => h)
    (fun v k f h _ _ => (updCall_only v k f).rest.1.trans h)
    (fun _ _ _ h _ _ _ _ hl => (enterEnding_endpoints hl _).trans h) rfl

theorem takeReports_noPending {s : State} (hs : s.noPending = true) : (rs.foldl (State.takeReport e) s).noPending = true :=
  takeReports_keep (P := fun v => v.noPending = true) hrs (fun _ _ h => h)
    (fun v k f h _ _ => (updCall_only v k f).places.noPending.trans h)
    (fun _ k c h _ _ _ _ _ => enterEnding_noPending h k c _) hs

/-- A record that no report names stays. -/
theorem takeReports_slot {s : State} {h : Handle} {c : Call} (hs : s.slot h.slot = ⟨h.gen, some c⟩) (hno : .lost h .bump ∉ rs) :
    (rs.foldl (State.takeReport e) s).slot h.slot = ⟨h.gen, some c⟩ := by
  refine takeReports_keep (P := fun v => v.slot h.slot = ⟨h.gen, some c⟩) hrs (fun _ _ h => h) (fun v k f hv _ hk => ?_)
    (fun v k d hv hk hd _ _ _ => ?_) hs
  · have hne : k ≠ h := fun he => hno (he ▸ hk)
    rw [slot_updCall, if_neg, hv]
    rintro ⟨h1, h2⟩
    rw [hv] at h2
    cases k; cases h; simp_all
  · have hne : k.slot ≠ h.slot := fun he => hno (by
      have hkh := handleOf_eq hd
      rw [he, handleOf_eq (call_of_slot hv)] at hkh
      exact hkh ▸ hk)
    rw [slot_enterEnding hd, if_neg hne, hv]

/-- A player that serves a call stays with it while no report names the call. -/
theorem takeReports_player {s : State} {h : Handle} {i : Nat} (hi : (s.player i).call = some h) (hno : .lost h .bump ∉ rs) :
    (rs.foldl (State.takeReport e) s).player i = s.player i := by
  refine takeReports_keep (P := fun v => v.player i = s.player i) hrs (fun _ _ h => h) (fun v k f hv _ _ => ?_)
    (fun v k d hv hk _ _ _ _ => ?_) rfl
  · rw [State.player, (updCall_only v k f).places.players]; exact hv
  · have hne : k ≠ h := fun he => hno (he ▸ hk)
    rw [player_enterEnding_ne hne d _ (by rw [hv]; exact hi), hv]

/-- A call that has ended stays so. -/
theorem takeReports_ending {s : State} {h : Handle} {x : EndReason} {d : Call} (hs : Ending s h x d) (hno : .lost h .bump ∉ rs) :
    Ending (rs.foldl (State.takeReport e) s) h x d := by
  refine takeReports_keep (P := fun v => Ending v h x d) hrs (fun _ _ h => h.congr rfl (fun _ => rfl) rfl rfl) (fun v k f hv _ hk => ?_)
    (fun v k c hv _ hc hl _ _ => hv.enterEnding hc hl) hs
  have hne : k ≠ h := fun he => hno (he ▸ hk)
  have hu := updCall_only v k f
  refine hv.congr ?_ (fun j => by rw [ep_congr hu.rest.1]) (by rw [hu]) (by rw [hu])
  rw [slot_updCall, if_neg]
  rintro ⟨h1, h2⟩
  rw [hv.slot] at h2
  cases k; cases h; simp_all

theorem takeReports_port_idle {s : State} {q : Port} (hq : (s.port q).inProgress = none) :
    (rs.foldl (State.takeReport e) s).port q = s.port q := by
  refine takeReports_keep (P := fun v => v.port q = s.port q) hrs (fun v _ h => (port_eq rfl rfl q).trans h)
    (fun v k f h _ _ => ((updCall_only v k f).places.port q).trans h) (fun v k c hv _ hc hl _ _ => ?_) rfl
  rw [← endCall_of_live hc hl, port_endCall_idle (by rw [hv]; exact hq), hv]

/-- No sweep of a call that a report names waits for the port. -/
def NoneWaits (v : State) (q : Port) (rs : List Report) : Prop :=
  ∀ k c sw, .lost k .bump ∈ rs → v.call k = some c → c.delivering = false → c.sweep = some sw → sw.answers = true → sw.port ≠ q

omit hrs in
theorem bumpOf_sweep {f : Call → Call} (hf : BumpOf e f) {c : Call} {sw : Sweep} (h : (f c).sweep = some sw) :
    (f c).delivering = c.delivering ∧ ∃ sw', c.sweep = some sw' ∧ sw'.port = sw.port ∧ sw'.answers = sw.answers := by
  have hb : ∀ sw, (bumped e c).sweep = some sw → ∃ sw', c.sweep = some sw' ∧ sw'.port = sw.port ∧ sw'.answers = sw.answers := by
    intro sw h
    rw [bumped, Call.countBump, dropParticipant_eq] at h
    split at h
    · obtain ⟨sw', hs', rfl⟩ := Option.map_eq_some_iff.1 h
      exact ⟨sw', hs', rfl, rfl⟩
    · exact ⟨sw, h, rfl, rfl⟩
  rcases hf with rfl | rfl
  · exact ⟨bumped_delivering e c, hb sw h⟩
  · obtain ⟨sw1, h1, rfl⟩ := Option.map_eq_some_iff.1 h
    refine ⟨?_, hb sw1 h1⟩
    rw [← bumped_delivering e c]
    simp [keepsLoss, Call.delivering, Option.any_map]

theorem takeReports_port {s : State} {q : Port} (hq : NoneWaits s q rs) : (rs.foldl (State.takeReport e) s).port q = s.port q := by
  refine (takeReports_keep (P := fun v => v.port q = s.port q ∧ NoneWaits v q rs) hrs (fun v _ h => ⟨(port_eq rfl rfl q).trans h.1, h.2⟩)
    (fun v k f h hf hk => ⟨((updCall_only v k f).places.port q).trans h.1, ?_⟩) (fun v k c hv hk hc hl hd _ => ⟨?_, ?_⟩) ⟨rfl, hq⟩).1
  · intro k' c sw hk' hc hd hs ha
    by_cases hkk : k' = k
    · subst hkk
      cases hv : v.call k' with
      | none => rw [updCall_none hv, hv] at hc; cases hc
      | some c0 =>
        rw [call_updCall_self hv] at hc
        cases hc
        obtain ⟨h1, sw', hs', hp, hans⟩ := bumpOf_sweep hf hs
        rw [← hp]
        exact h.2 k' c0 sw' hk' hv (h1 ▸ hd) hs' (hans.trans ha)
    · rw [call_updCall_ne hkk] at hc
      exact h.2 k' c sw hk' hc hd hs ha
  · rcases port_enterEnding v k c .displaced q with ⟨sw, hs, ha, hp, -⟩ | ⟨-, hp⟩
    · exact absurd hp (hv.2 k c sw hk hc hd hs ha)
    · exact hp.trans hv.1
  · intro k' c' sw hk' hc' hd' hs' ha'
    have hs1 := slot_of_call hc'
    rw [slot_enterEnding hc] at hs1
    split at hs1
    · cases congrArg CallSlot.record hs1
      cases hs'
    · exact hv.2 k' c' sw hk' (call_of_slot hs1) hd' hs' ha'

end

end Sys2Proof.Calls
end

section
/-! PROOFS. The calls that an arrival bumps: those that go on, and those that end (02 R32, R34, R36; 03 R50, R59, R65; 06 R108). -/

namespace Sys2Proof.Calls

open Sys2Proof.Machine

/-! ## A bumped call that goes on -/

/-- The record after `n` bumps at endpoint `e`, the call being listed nowhere else or somewhere. -/
def bumpedTimes (e n : Nat) (nowhere : Bool) (c : Call) : Call :=
  { c with
    part := if n = 0 then c.part else withoutStation e c.part
    sweep := if c.delivering then
        c.sweep.map fun w => { w with bumped := w.bumped + n, lastLoss := if n ≠ 0 ∧ nowhere then some .displaced else w.lastLoss }
      else c.sweep }

theorem bumpedTimes_zero (e : Nat) (b : Bool) (c : Call) : bumpedTimes e 0 b c = c := by
  obtain ⟨_, _, _, _, _, _, _, sweep, _, _, _, _, _, _⟩ := c
  cases sweep <;> simp [bumpedTimes]

theorem bumped_eq (e : Nat) (c : Call) : bumped e c =
    { c with
      part := withoutStation e c.part
      sweep := if c.delivering then c.sweep.map fun w => { w with bumped := w.bumped + 1 } else c.sweep } := by
  rw [bumped, Call.countBump, show (c.dropParticipant e).delivering = c.delivering by rw [Call.delivering, dropParticipant_sweep]; rfl,
    dropParticipant_eq]
  split <;> rfl

theorem bumpedTimes_bumped (e n : Nat) (c : Call) : bumpedTimes e n false (bumped e c) = bumpedTimes e (n + 1) false c := by
  have hd := bumped_delivering e c
  unfold bumpedTimes
  rw [hd, bumped_eq]
  cases hdel : c.delivering
  · simp [withoutStation_idem]
  · simp [withoutStation_idem, Function.comp_def, Nat.add_comm, Nat.add_left_comm]

theorem bumpedTimes_kept (e n : Nat) {c : Call} (hdel : c.delivering = true) :
    bumpedTimes e n true (keepsLoss (bumped e c)) = bumpedTimes e (n + 1) true c := by
  have hd : (keepsLoss (bumped e c)).delivering = true := by
    rw [← hdel, ← bumped_delivering e c]; simp [keepsLoss, Call.delivering, Option.any_map]
  unfold bumpedTimes
  rw [hd, keepsLoss, bumped_eq, hdel]
  simp [withoutStation_idem, Function.comp_def, Nat.add_comm, Nat.add_left_comm]

theorem takeReport_listingCount {e : Nat} {r : Report} (hr : OfArrival [r]) (s : State) (k : Handle) :
    (State.takeReport e s r).listingCount k = s.listingCount k := by
  have h : (State.takeReport e s r).endpoints = s.endpoints := takeReports_endpoints hr s
  rw [State.listingCount, h]; rfl

/-- The record of a call that is delivering, or is listed somewhere, after the reports. -/
theorem takeReports_bumped {e : Nat} {rs : List Report} (hrs : OfArrival rs) {s : State} {h : Handle} {c : Call}
    (hs : s.slot h.slot = ⟨h.gen, some c⟩) (hgo : c.delivering = true ∨ s.listingCount h ≠ 0) :
    (rs.foldl (State.takeReport e) s).slot h.slot =
      ⟨h.gen, some (bumpedTimes e (rs.count (.lost h .bump)) (decide (s.listingCount h = 0)) c)⟩ := by
  induction rs generalizing s c with
  | nil => rw [List.count_nil, bumpedTimes_zero]; exact hs
  | cons r rs ih =>
    have hrs' : OfArrival rs := fun r hr => hrs r (List.mem_cons_of_mem _ hr)
    have hr1 : OfArrival [r] := fun r' hr' => hrs r' (by rw [List.mem_singleton.1 hr']; exact List.mem_cons_self ..)
    have hcount := takeReport_listingCount (e := e) hr1 s h
    rw [List.foldl_cons, List.count_cons]
    by_cases hr : r = .lost h .bump
    · subst hr
      have hb := takeReport_bump e h s
      generalize State.takeReport e s (.lost h .bump) = t at hb hcount ⊢
      have hc := call_of_slot hs
      simp only [beq_self_eq_true, if_true]
      cases hb with
      | unknown hn => rw [hc] at hn; cases hn
      | listed _ hl =>
        rw [ih hrs' (slot_updCall_self hc _) (.inr (by rw [hcount]; exact hl)), hcount, decide_eq_false hl, bumpedTimes_bumped]
      | kept hc' hl hd =>
        obtain rfl := Option.some.inj (hc.symm.trans hc')
        have hd' : (keepsLoss (bumped e c)).delivering = true := by
          rw [← hd, ← bumped_delivering e c]; simp [keepsLoss, Call.delivering, Option.any_map]
        rw [ih hrs' (slot_updCall_self hc _) (.inl hd'), hcount, decide_eq_true hl, bumpedTimes_kept e _ hd]
      | ended hc' hl hd =>
        obtain rfl := Option.some.inj (hc.symm.trans hc')
        rcases hgo with hgo | hgo
        · rw [hd] at hgo; cases hgo
        · exact absurd hl hgo
    · have hslot : (State.takeReport e s r).slot h.slot = ⟨h.gen, some c⟩ :=
        takeReports_slot hr1 hs (by rw [List.mem_singleton]; exact fun he => hr he.symm)
      rw [ih hrs' hslot (by rw [hcount]; exact hgo), hcount, if_neg (by simpa using hr), Nat.add_zero]

/-! ## A bumped call that ends -/

/-- The end of a call whose last listing an arrival has bumped: `y` is the state in which it ends. -/
structure Displaced (s t y : State) (e : Nat) (h : Handle) (c : Call) : Prop where
  endpoints : y.endpoints = s.endpoints
  player : ∀ i, (s.player i).call = some h → y.player i = s.player i
  ending : Ending t h .displaced (endingRecord y h { c with part := withoutStation e c.part } .displaced)
  answers : ∀ w q, c.sweep = some w → w.answers = true → (s.port w.port).inProgress = some ⟨q, .sweeping h.slot⟩ →
    (∀ k d w', k ≠ h → s.call k = some d → d.sweep = some w' → w'.answers = true → w'.port ≠ w.port) →
    AnsweredWith s t w.port q .unknownCall (stoppedData h w)

theorem takeReports_displaced {e : Nat} {rs : List Report} (hrs : OfArrival rs) {s : State} {h : Handle} {c : Call}
    (hs : s.slot h.slot = ⟨h.gen, some c⟩) (hlive : c.state.live = true) (hd : c.delivering = false) (hl : s.listingCount h = 0)
    (hone : rs.count (.lost h .bump) = 1) (ha : Apart s h c.type.listClass) :
    ∃ y, Displaced s (rs.foldl (State.takeReport e) s) y e h c := by
  obtain ⟨l1, l2, rfl⟩ := List.mem_iff_append.1 (List.count_pos_iff.1 (by rw [hone]; exact Nat.one_pos))
  rw [List.count_append, List.count_cons_self] at hone
  have h1 : Report.lost h .bump ∉ l1 := List.count_eq_zero.1 (by omega)
  have h2 : Report.lost h .bump ∉ l2 := List.count_eq_zero.1 (by omega)
  have hrs1 : OfArrival l1 := fun r hr => hrs r (List.mem_append_left _ hr)
  have hrs2 : OfArrival l2 := fun r hr => hrs r (List.mem_append_right _ (List.mem_cons_of_mem _ hr))
  have hslot := takeReports_slot (e := e) hrs1 hs h1
  have hends := takeReports_endpoints (e := e) hrs1 s
  have hport := fun q => takeReports_port (e := e) hrs1 (s := s) (q := q)
  have hplayer := fun i (hi : (s.player i).call = some h) => takeReports_player (e := e) hrs1 hi h1
  rw [List.foldl_append, List.foldl_cons]
  generalize l1.foldl (State.takeReport e) s = v at hslot hends hport hplayer
  have hc := call_of_slot hslot
  have hcount : v.listingCount h = 0 := by rw [State.listingCount, hends]; exact hl
  have hbump : bumped e c = { c with part := withoutStation e c.part } := by rw [bumped_eq, hd]; rfl
  have hc1 : (v.updCall h (bumped e)).call h = some { c with part := withoutStation e c.part } := by
    rw [call_updCall_self hc, hbump]
  have hupd := updCall_only v h (bumped e)
  have htake : State.takeReport e v (.lost h .bump) = (v.updCall h (bumped e)).enterEnding h { c with part := withoutStation e c.part } .displaced := by
    rw [← endCall_of_live hc1 hlive]
    have hb := takeReport_bump e h v
    generalize State.takeReport e v (.lost h .bump) = t at hb ⊢
    cases hb with
    | unknown hn => rw [hc] at hn; cases hn
    | listed _ hl' => exact absurd hcount hl'
    | kept hc' _ hd' =>
      obtain rfl := Option.some.inj (hc.symm.trans hc')
      rw [hd] at hd'; cases hd'
    | ended => rfl
  have hapart : Apart (v.updCall h (bumped e)) h ({ c with part := withoutStation e c.part } : Call).type.listClass := fun j => by
    rw [withoutStation_type, ep_congr (hupd.rest.1.trans hends)]; exact ha j
  have hend := ending_enterEnding hc1 hapart .displaced
  rw [htake]
  refine ⟨v.updCall h (bumped e), hupd.rest.1.trans hends, fun i hi => ?_, takeReports_ending hrs2 hend h2, fun w q hw hans hq hothers => ?_⟩
  · rw [State.player, hupd.places.players]; exact hplayer i hi
  · have hpv : v.port w.port = s.port w.port := hport w.port fun k d w' hk hd' _ hw' hans' =>
      hothers k d w' (fun he => h1 (he ▸ hk)) hd' hw' hans'
    have hpu := hupd.places.port w.port
    have hdrop : w.kind = .drop := by
      simp only [Call.delivering, hw, Option.any_some, bne_eq_false_iff_eq] at hd
      exact hd
    have hstop := enterEnding_answers (s := v.updCall h (bumped e)) (h := h) (c := { c with part := withoutStation e c.part }) hw hans
      (by rw [hpu, hpv]; exact hq) .displaced
    rw [show w.stopCode ({ c with part := withoutStation e c.part } : Call).type .displaced = .unknownCall by
      simp [Sweep.stopCode, hdrop]] at hstop
    have hidle := takeReports_port_idle (e := e) hrs2 hstop.2
    exact answered_congr hstop (by rw [hpu, hpv]) (by rw [hidle]) (by rw [hidle])

/-! ## The hold outputs -/

theorem unbind_pairs (x : Hold) (q : Handle) : (x.unbind q).pairs = x.pairs.filter (·.1 ≠ q) := afterRemoval_pairs _
theorem unbind_bound (x : Hold) (q : Handle) : (x.unbind q).bound = x.bound.filter (· ≠ q) := afterRemoval_bound _

theorem HeldBy.unbind {x : Hold} {k : Handle} {e : Nat} (h : HeldBy x k e) {q : Handle} (hq : q ≠ k) : HeldBy (x.unbind q) k e := by
  have hmem : (k, e) ∈ x.pairs.filter (·.1 ≠ q) := List.mem_filter.2 ⟨h.1, by simpa using hq.symm⟩
  refine ⟨by rw [unbind_pairs]; exact hmem, ?_⟩
  unfold Hold.unbind
  rw [afterRemoval_state (List.ne_nil_of_mem hmem)]
  exact h.2

/-- What the end of a call that is listed nowhere does to the hold outputs. -/
theorem enterEnding_hold {v : State} {q : Handle} {c : Call} (hl : v.listingCount q = 0) (x : EndReason) {o : Nat} (ho : o < 4) :
    (v.enterEnding q c x).hold o = v.hold o ∨ (v.enterEnding q c x).hold o = (v.hold o).unbind q := by
  have hp := (enterEnding_ports v q c x).holds
  have ha : (endingSilent v q c x).holds = (endingUnbound v q c x).holds := by rw [endingSilent_only]
  have hf := endingFreed_only v q c x
  have hw : (endingFreed v q c x).withdraw q c.type.listClass = endingFreed v q c x := by
    have hnone : ∀ e, ((endingFreed v q c x).ep e).lists q = false := fun e => by
      rw [ep_congr hf.endpoints]; exact lists_of_count hl e
    unfold State.withdraw
    generalize List.range Config.endpoints = l
    induction l with
    | nil => rfl
    | cons e l ih =>
      rw [List.foldl_cons, show State.withdrawAt q c.type.listClass (endingFreed v q c x) e = endingFreed v q c x by
        simp [State.withdrawAt, hnone e]]
      exact ih
  have hfh : (endingFreed v q c x).holds = v.holds := by rw [hf]
  rw [State.hold, hp, ha, endingUnbound, hw]
  unfold State.unbindHold
  split
  · rename_i o' _
    by_cases hoo : o' = o
    · subst hoo
      refine .inr ?_
      show ((endingFreed v q c x).holds.set o' _).get o' _ = _
      rw [Table.get_set_self _ _ _ _ ho, State.hold, hfh]; rfl
    · refine .inl ?_
      show ((endingFreed v q c x).holds.set o' _).get o _ = _
      rw [Table.get_set_ne _ _ _ _ _ hoo, hfh]; rfl
  · exact .inl (by rw [hfh]; rfl)

/-- What one report of an arrival does to a hold output. -/
theorem hold_takeReport {e : Nat} {r : Report} (hr : OfArrival [r]) (v : State) {o : Nat} (ho : o < 4) :
    ((State.takeReport e v r).hold o = (hear e v.holds r).get o .initial) ∨
      ∃ q, r = .lost q .bump ∧ v.listingCount q = 0 ∧ (State.takeReport e v r).hold o = (v.hold o).unbind q := by
  rcases hr r (List.mem_singleton.2 rfl) with ⟨q, rfl⟩ | ⟨q, o', b, rfl⟩
  · have hsame : ∀ f, (v.updCall q f).hold o = v.hold o := fun f => by rw [State.hold, (updCall_only v q f).rest.2]; rfl
    have hb := takeReport_bump e q v
    generalize State.takeReport e v (.lost q .bump) = t at hb ⊢
    cases hb with
    | unknown _ => exact .inl rfl
    | listed _ _ => exact .inl (hsame _)
    | kept _ _ _ => exact .inl (hsame _)
    | ended _ hl _ =>
      rcases endCall_cases (v.updCall q (bumped e)) q .displaced with ⟨d, -, -, he⟩ | ⟨-, he⟩ <;> rw [he]
      · rcases enterEnding_hold (v := v.updCall q (bumped e)) (q := q) (c := d) (by rw [updCall_listingCount]; exact hl) .displaced ho with h | h
        · exact .inl (h.trans (hsame _))
        · exact .inr ⟨q, rfl, hl, by rw [h, hsame]⟩
      · exact .inl (hsame _)
  · rw [takeReport_interruption]; exact .inl rfl

/-- The reports of an arrival as the hold outputs take them, with the ends of bumped calls among them. -/
theorem hears_arrival {e : Nat} {rs : List Report} (hrs : OfArrival rs) (s : State) (k : Handle) {o : Nat} (ho : o < 4) :
    (s.listingCount k ≠ 0 → .interruption k o false ∉ rs → k ∈ (s.hold o).bound →
      (.interruption k o true ∈ rs ∨ HeldBy (s.hold o) k e) → HeldBy ((rs.foldl (State.takeReport e) s).hold o) k e) ∧
    (.interruption k o true ∉ rs → (.interruption k o false ∈ rs ∨ (k, e) ∉ (s.hold o).pairs) →
      (k, e) ∉ ((rs.foldl (State.takeReport e) s).hold o).pairs) := by
  induction rs generalizing s with
  | nil => exact ⟨fun _ _ _ h => h.resolve_left (by simp), fun _ h => h.resolve_left (by simp)⟩
  | cons r rs ih =>
    have hrs' : OfArrival rs := fun r hr => hrs r (List.mem_cons_of_mem _ hr)
    have hr1 : OfArrival [r] := fun r' hr' => hrs r' (by rw [List.mem_singleton.1 hr']; exact List.mem_cons_self ..)
    have hcount := takeReport_listingCount (e := e) hr1 s k
    obtain ⟨ih1, ih2⟩ := ih hrs' (State.takeReport e s r)
    rw [hcount] at ih1
    rw [List.foldl_cons]
    rcases hold_takeReport hr1 s ho with hh | ⟨q, rfl, hl, hh⟩
    · obtain ⟨h1, h2, h3⟩ := hears e [r] s.holds k ho
      simp only [List.foldl_cons, List.foldl_nil, List.mem_singleton] at h1 h2 h3
      rw [hh] at ih1 ih2
      refine ⟨fun hn hno hb hor => ih1 hn (fun hm => hno (List.mem_cons_of_mem _ hm)) (h1 hb) ?_, fun hno hor =>
        ih2 (fun hm => hno (List.mem_cons_of_mem _ hm)) ?_⟩
      · have hr : Report.interruption k o false ≠ r := fun he => hno (he ▸ List.mem_cons_self ..)
        rcases hor with hor | hor
        · rcases List.mem_cons.1 hor with he | hm
          · exact .inr (h2 hr hb (.inl he))
          · exact .inl hm
        · exact .inr (h2 hr hb (.inr hor))
      · have hr : Report.interruption k o true ≠ r := fun he => hno (he ▸ List.mem_cons_self ..)
        rcases hor with hor | hor
        · rcases List.mem_cons.1 hor with he | hm
          · exact .inr (h3 hr (.inl he))
          · exact .inl hm
        · exact .inr (h3 hr (.inr hor))
    · rw [hh] at ih1 ih2
      refine ⟨fun hn hno hb hor => ?_, fun hno hor => ih2 (fun hm => hno (List.mem_cons_of_mem _ hm)) ?_⟩
      · have hq : q ≠ k := by rintro rfl; exact hn hl
        refine ih1 hn (fun hm => hno (List.mem_cons_of_mem _ hm)) ?_ (hor.imp (fun h => (List.mem_cons.1 h).resolve_left (by simp)) (·.unbind hq))
        rw [unbind_bound]
        exact List.mem_filter.2 ⟨hb, by simpa using hq.symm⟩
      · refine hor.imp (fun h => (List.mem_cons.1 h).resolve_left (by simp)) fun h => ?_
        rw [unbind_pairs]
        exact fun hm => h (List.mem_filter.1 hm).1

end Sys2Proof.Calls
end

section
/-! PROOFS. A delivering sweep at its next endpoint: the state in which its reports are taken (02 R32; 03 R50, R63; 06 R108, R111). -/

namespace Sys2Proof.Calls

open Sys2Proof.Machine

/-! ## What the arrival's endpoint reads -/

/-- The hold output and level of a part. -/
def boundTo (p : CallPart) : Option (Nat × Nat) :=
  match p with
  | .program (some o) lv => some (o, lv)
  | _ => none

theorem holdOf_eq (x : EpCtx) (k : Handle) : x.holdOf k = (findCall x.calls k).bind fun c => boundTo c.part := by
  unfold EpCtx.holdOf boundTo
  cases findCall x.calls k with
  | none => rfl
  | some c => rcases c.part with ⟨_ | o⟩ | _ | _ | _ | _ <;> rfl

theorem sameReads_updCall (s : State) (h : Handle) {f : Call → Call} (hg : ∀ c, (f c).gain = c.gain) (hr : ∀ c, (f c).ramp = c.ramp)
    (hb : ∀ c, boundTo (f c).part = boundTo c.part) : SameReads (s.updCall h f).ctx s.ctx := by
  have hu := updCall_only s h f
  have hfind : ∀ k, findCall (s.updCall h f).ctx.calls k = if k = h then (findCall s.ctx.calls k).map f else findCall s.ctx.calls k := by
    intro k
    show (s.updCall h f).call k = if k = h then (s.call k).map f else s.call k
    by_cases hk : k = h
    · subst hk
      rw [if_pos rfl]
      cases hc : s.call k with
      | none => rw [updCall_none hc, hc]; rfl
      | some c => rw [call_updCall_self hc]; rfl
    · rw [if_neg hk, call_updCall_ne hk]
  refine ⟨by rw [hu]; rfl, by rw [hu]; rfl, ?_, ?_, ?_⟩ <;> funext k
  · rw [EpCtx.gainOf, EpCtx.gainOf, hfind]
    split
    · cases findCall s.ctx.calls k <;> simp [hg]
    · rfl
  · rw [EpCtx.rampOf, EpCtx.rampOf, hfind]
    split
    · cases findCall s.ctx.calls k <;> simp [hr]
    · rfl
  · rw [holdOf_eq, holdOf_eq, hfind]
    split
    · cases findCall s.ctx.calls k <;> simp [hb]
    · rfl

theorem deliveredCall_eq (e : Nat) (rest : List Nat) (c : Call) : ∃ p, deliveredCall e rest c =
    { c with sweep := c.sweep.map fun sw => { sw with rest, taken := sw.taken + 1, lastLoss := none }, part := p } ∧
    boundTo p = boundTo c.part ∧ (∀ k, c.part = .talk k → p = .talk { k with participants := k.participants ++ [⟨e, false⟩] }) ∧
    withoutStation e p = withoutStation e c.part ∧ ((∀ k, c.part ≠ .talk k) → p = c.part) := by
  cases hp : c.part with
  | talk k =>
    refine ⟨.talk { k with participants := k.participants ++ [⟨e, false⟩] }, by simp [deliveredCall, Call.addParticipant, hp], rfl, ?_, ?_,
      fun h => absurd rfl (h k)⟩
    · rintro _ ⟨⟩; rfl
    · simp [withoutStation, List.filter_append]
  | program o lv => exact ⟨.program o lv, by simp [deliveredCall, Call.addParticipant, hp], rfl, nofun, rfl, fun _ => rfl⟩
  | page => exact ⟨.page, by simp [deliveredCall, Call.addParticipant, hp], rfl, nofun, rfl, fun _ => rfl⟩
  | message m => exact ⟨.message m, by simp [deliveredCall, Call.addParticipant, hp], rfl, nofun, rfl, fun _ => rfl⟩
  | alarm a => exact ⟨.alarm a, by simp [deliveredCall, Call.addParticipant, hp], rfl, nofun, rfl, fun _ => rfl⟩

/-! ## Before the reports -/

/-- What an arrival does at endpoint `e` in the words of the manual. -/
def arrivalOf (s : State) (h : Handle) (c : Call) (e : Nat) : Endpoint × List Report :=
  (s.ep e).arrive s.ctx c.type.listClass ⟨h, c.type, c.level, none, false, false, none⟩

/-- The state in which a delivered listing stands at its endpoint and the reports are to be taken. -/
def landed (s : State) (sw : Sweep) (h : Handle) (c : Call) (e : Nat) (es : List Nat) : State :=
  ((s.serveSweep sw).updCall h (deliveredCall e es)).setEp e (arrivalOf s h c e).1

theorem ofArrival (s : State) (h : Handle) (c : Call) (e : Nat) : OfArrival (arrivalOf s h c e).2 := fun _ hr => arrive_report hr

theorem skips_iff {s : State} {c : Call} {e : Nat} : Skips s c e ↔ c.skips (s.ep e) = true := by
  have hfull : c.talkFull = true ↔ ∃ t, c.part = .talk t ∧ 8 ≤ t.participants.length := by
    unfold Call.talkFull
    cases hp : c.part <;> simp [show Config.participantCap = 8 from rfl]
  simp [Skips, Call.skips, hfull]

section

variable {s : State} {i : Nat} {c : Call} {sw : Sweep} {e : Nat} {es : List Nat}

theorem sweepDelivery_eq (ha : SweepAt s i c sw e es) (hk : sw.kind ≠ .drop) :
    exec (.sweepDelivery i) s =
      .next (settle s (((s.serveSweep sw).deliver (s.handleOf i) c e es).endDelivery (s.handleOf i))) := by
  obtain ⟨-, hc, hs, hr, -, ht, -⟩ := ha
  show execSweepDelivery i s = _
  simp only [execSweepDelivery, hc, hs, ht, hr, and_true, ne_eq, hk, not_false_eq_true, if_true]
  rfl

theorem serveSweep_call (ha : SweepAt s i c sw e es) : (s.serveSweep sw).call (s.handleOf i) = some c := by
  obtain ⟨-, hrec, -⟩ := ha
  exact (call_serveSweep s sw _).trans (call_handleOf hrec)

/-- An endpoint that is not skipped takes the arrival, and its reports follow. -/
theorem deliver_eq (hno : ¬ Skips s c e) (h : Handle) : (s.serveSweep sw).deliver h c e es =
    (arrivalOf s h c e).2.foldl (State.takeReport e) (landed s sw h c e es) := by
  obtain ⟨hbx, hbe, -⟩ := serveSweep_frame s sw
  have hep : (s.serveSweep sw).ep e = s.ep e := ep_congr hbe e
  have hskip : c.skips ((s.serveSweep sw).ep e) = false := by rw [hep, ← Bool.not_eq_true, ← skips_iff]; exact hno
  have hreads : SameReads ((s.serveSweep sw).updCall h (deliveredCall e es)).ctx s.ctx := by
    rw [← hbx]
    refine sameReads_updCall _ h (fun c => ?_) (fun c => ?_) fun c => ?_ <;> obtain ⟨p, hp, hb, -⟩ := deliveredCall_eq e es c <;> rw [hp]
    exact hb
  have hue : ((s.serveSweep sw).updCall h (deliveredCall e es)).ep e = s.ep e := (ep_congr (updCall_only _ h _).rest.1 e).trans hep
  rw [deliver_arrives hskip]
  unfold landed State.atEndpoint
  dsimp only
  rw [hue, arrive_congr hreads]
  rfl

theorem landed_frame (ha : SweepAt s i c sw e es) :
    (landed s sw (s.handleOf i) c e es).slot i = ⟨(s.handleOf i).gen, some (deliveredCall e es c)⟩ ∧
      (∀ j, j ≠ i → (landed s sw (s.handleOf i) c e es).slot j = s.slot j) ∧
      (landed s sw (s.handleOf i) c e es).endpoints = s.endpoints.set e (arrivalOf s (s.handleOf i) c e).1 ∧
      (∀ o, (landed s sw (s.handleOf i) c e es).hold o = s.hold o) ∧
      (∀ q, (landed s sw (s.handleOf i) c e es).port q = s.port q) ∧
      (∀ j, (landed s sw (s.handleOf i) c e es).player j = s.player j) ∧
      (landed s sw (s.handleOf i) c e es).noPending = true := by
  obtain ⟨-, hbe, hbh, hbp, hbn, hbs, hbq⟩ := serveSweep_frame s sw
  have hcall := serveSweep_call ha
  obtain ⟨-, -, -, -, -, -, hn⟩ := ha
  have hu := updCall_only (s.serveSweep sw) (s.handleOf i) (deliveredCall e es)
  refine ⟨slot_updCall_self hcall _, fun j hj => ?_, ?_, fun o => ?_, fun q => ?_, fun j => ?_, ?_⟩
  · exact (slot_updCall_ne (show (s.handleOf i).slot ≠ j from Ne.symm hj) _).trans (hbs j)
  · show ((s.serveSweep sw).updCall _ _).endpoints.set e _ = _
    rw [hu.rest.1, hbe]
  · show ((s.serveSweep sw).updCall _ _).holds.get o _ = _
    rw [hu.rest.2, hbh]; rfl
  · exact (port_eq rfl rfl q).trans ((hu.places.port q).trans (hbq q))
  · show ((s.serveSweep sw).updCall _ _).players.get j _ = _
    rw [hu.places.players, hbp]; rfl
  · exact hu.places.noPending.trans (hbn.trans hn)

end

/-! ## The standing part -/

theorem endDelivery_standing (v : State) (h : Handle) : (v.endDelivery h).standing = v.standing := by
  have hdrop : ∀ sw a d, ((v.dropSweep h).answerSweep sw a d).standing = v.standing := fun sw a d => by
    rw [answerSweep_standing]; exact State.updCall_standing _ _ _
  unfold State.endDelivery
  split
  · rfl
  · split
    · rfl
    · split
      · split
        · unfold State.endOpening
          split
          · rw [answerSweep_standing, State.updCall_standing]
          · split
            · rw [answerSweep_standing, State.freeRecord_standing, State.unbindHold_standing]
            · rw [State.endCall_standing, hdrop]
        · unfold State.endAdd
          dsimp only
          split
          · exact hdrop _ _ _
          · rw [State.endCall_standing, hdrop]
        · rfl
      · rfl

theorem deliver_standing (b : State) (h : Handle) (c : Call) (e : Nat) (es : List Nat) : (b.deliver h c e es).standing = b.standing := by
  cases hs : c.skips (b.ep e) with
  | true => rw [deliver_skips hs]; exact State.updCall_standing _ _ _
  | false =>
    rw [deliver_arrives hs, State.atEndpoint_standing _ _ _ fun x ep => Endpoint.arrive_standing x _ _ ep]
    exact State.updCall_standing _ _ _

/-! ## A port's sweep without the turn -/

theorem sweepsWaitTheirTurn : SweepsWaitTheirTurn := by
  intro s i c sw hc hs ht
  constructor
  · show execSweepDelivery i s = _
    simp only [execSweepDelivery, hc, hs, ht, Bool.false_eq_true, and_false, if_false]
  · show execDropSweepRemoval i s = _
    simp only [execDropSweepRemoval, hc, hs, ht, Bool.false_eq_true, and_false, if_false]

/-! ## A sweep between its endpoints -/

theorem endDelivery_between {v : State} {h : Handle} {d : Call} {sw : Sweep} (hd : v.call h = some d) (hs : d.sweep = some sw)
    (hr : sw.rest ≠ []) : v.endDelivery h = v := by
  simp [State.endDelivery, hd, hs, hr]

/-- The sweep of a delivered call after `n` bumps of its listing. -/
theorem bumpedTimes_delivered {c : Call} {sw : Sweep} (hs : c.sweep = some sw) (hk : sw.kind ≠ .drop) (e n : Nat) (es : List Nat) (b : Bool) :
    (deliveredCall e es c).delivering = true ∧
    ∃ p, bumpedTimes e n b (deliveredCall e es c) =
      { c with
        part := p
        sweep := some { sw with
          rest := es, taken := sw.taken + 1, bumped := sw.bumped + n, lastLoss := if n ≠ 0 ∧ b then some .displaced else none } } ∧
      (n = 0 → (∀ k, c.part = .talk k → p = .talk { k with participants := k.participants ++ [⟨e, false⟩] }) ∧
        ((∀ k, c.part ≠ .talk k) → p = c.part)) ∧
      (n ≠ 0 → p = withoutStation e c.part) := by
  obtain ⟨p, hp, -, htalk, hwithout, hother⟩ := deliveredCall_eq e es c
  have hdel : (deliveredCall e es c).delivering = true := by
    rw [Call.delivering, deliveredCall_sweep hs]; simpa using hk
  refine ⟨hdel, if n = 0 then p else withoutStation e c.part, ?_, fun h => by rw [if_pos h]; exact ⟨htalk, hother⟩, fun h => if_neg h⟩
  unfold bumpedTimes
  rw [hdel, deliveredCall_sweep hs, hp, hs]
  simp only [if_true, Option.map_some, hwithout]

theorem sweepDelivers : SweepDelivers := by
  intro s i c sw e es ha hk hes h
  have hexec := sweepDelivery_eq ha hk
  have hcall := serveSweep_call ha
  have hland := landed_frame ha
  obtain ⟨hi, hrec, hs, hr, he, -, hn⟩ := ha
  obtain ⟨-, hbe, -, -, hbn, -, -⟩ := serveSweep_frame s sw
  refine ⟨_, hexec, by rw [State.settle_standing, endDelivery_standing, deliver_standing], fun hskip => ?_, fun hno => ?_⟩
  · have hdel : (s.serveSweep sw).deliver (s.handleOf i) c e es =
        (s.serveSweep sw).updSweep h fun sw => { sw with rest := es, skipped := sw.skipped + 1 } :=
      deliver_skips (by rw [ep_congr hbe]; exact skips_iff.1 hskip) _ _
    have hslot : ((s.serveSweep sw).deliver (s.handleOf i) c e es).slot h.slot =
        ⟨h.gen, some { c with sweep := some { sw with rest := es, skipped := sw.skipped + 1 } }⟩ := by
      rw [hdel, updSweep_eq, slot_updCall_self hcall, sweptBy, hs]; rfl
    have hu := updCall_only (s.serveSweep sw) h (sweptBy fun sw => { sw with rest := es, skipped := sw.skipped + 1 })
    have hnv : ((s.serveSweep sw).deliver (s.handleOf i) c e es).noPending = true := by
      rw [hdel]; exact hu.places.noPending.trans (hbn.trans hn)
    rw [endDelivery_between (call_of_slot hslot) rfl hes]
    obtain ⟨u, hu1, hu2, -, hu4⟩ := settle_goesOn (s0 := s) hnv hslot
    refine ⟨(settle_endpoints hnv s).trans ?_, ⟨u, hu1, hu2⟩, fun k hk => ⟨u, hu1, hu4 k hk⟩⟩
    rw [hdel]; exact hu.rest.1.trans hbe
  · intro r
    obtain ⟨h1, -, h3, h4, -, -, h7⟩ := hland
    have hofs := ofArrival s h c e
    rw [deliver_eq hno]
    obtain ⟨hdel, p, hp, hp0, hp1⟩ := bumpedTimes_delivered hs hk e (r.2.count (.lost h .bump)) es
      (decide ((landed s sw h c e es).listingCount h = 0))
    have hslot := takeReports_bumped (e := e) hofs (h := h) h1 (.inl hdel)
    have hendsv := takeReports_endpoints (e := e) hofs (landed s sw h c e es)
    have hnv := takeReports_noPending (e := e) hofs h7
    have hhear := fun k o ho => hears_arrival (e := e) hofs (landed s sw h c e es) k (o := o) ho
    rw [show List.count (.lost h .bump) (arrivalOf s h c e).2 = r.2.count (.lost h .bump) from rfl, hp] at hslot
    generalize List.foldl (State.takeReport e) (landed s sw h c e es) (arrivalOf s h c e).2 = v at hslot hendsv hnv hhear
    rw [endDelivery_between (call_of_slot hslot) rfl hes]
    obtain ⟨u, hu1, hu2, -, hu4⟩ := settle_goesOn (s0 := s) hnv hslot
    refine ⟨(settle_endpoints hnv s).trans (hendsv.trans h3), fun hlost => ⟨u, hu1, ?_, fun k hk => hu4 _ ?_⟩,
      fun hlost => ⟨u, _, hu1, hu2, rfl, rfl, rfl, fun k hk => ?_⟩, fun k o ho => ?_⟩
    · rw [hu2, List.count_eq_zero.2 hlost]; rfl
    · exact (hp0 (List.count_eq_zero.2 hlost)).1 k hk
    · have hne : r.2.count (.lost h .bump) ≠ 0 := (List.count_pos_iff.2 hlost).ne'
      have hpk := hp1 hne
      rw [hk] at hpk
      exact hu4 _ hpk
    · obtain ⟨hb, he'⟩ := hhear k o ho
      have hhold : (settle s v).hold o = v.hold o := by rw [State.hold, settle_holds hnv]; rfl
      rw [hhold]
      rw [h4] at hb he'
      refine ⟨fun hbegin hend hbound => hb ?_ hend hbound (.inl hbegin), fun hend hbegin => he' hbegin (.inl hend)⟩
      intro hz
      have hlist := lists_of_count hz e
      have hep : (landed s sw h c e es).ep e = r.1 := by rw [State.ep, h3]; exact Table.get_set_self _ _ _ _ he
      rw [hep, lists_of_begins hbegin] at hlist
      cases hlist

end Sys2Proof.Calls
end

section
/-! PROOFS. The other calls that a delivering sweep's arrival bumps (02 R32, R34, R36; 03 R50, R59, R65; 06 R108, R111). -/

namespace Sys2Proof.Calls

open Sys2Proof.Machine

/-! ## What the end of a delivering sweep leaves as it is -/

/-- A property that each kind of step keeps holds when the sweep of call `h` has ended. -/
theorem endDelivery_keep {P : State → Prop} {v : State} {h : Handle} {d : Call} {sw : Sweep} (hd : v.call h = some d)
    (hs : d.sweep = some sw) (hupd : ∀ u f, P u → P (u.updCall h f)) (hans : ∀ u a data, P u → P (u.answerSweep sw a data))
    (hhold : ∀ u hs, P u → P { u with holds := hs })
    (hfree : ∀ u, P u → (u.slot h.slot).gen = h.gen → P (u.freeRecord h))
    (hend : ∀ u c x, P u → v.listingCount h = 0 → u.call h = some c → c.state.live = true → P (u.enterEnding h c x)) (hv : P v) :
    P (v.endDelivery h) := by
  have hdrop : ∀ a data, P ((v.dropSweep h).answerSweep sw a data) := fun a data => hans _ _ _ (hupd v _ hv)
  have hendc : ∀ u x, P u → v.listingCount h = 0 → P (u.endCall h x) := fun u x hu hl => by
    rcases endCall_cases u h x with ⟨c, hc, hlive, he⟩ | ⟨-, he⟩ <;> rw [he]
    · exact hend u c x hu hl hc hlive
    · exact hu
  simp only [State.endDelivery, hd, hs]
  split
  · split
    · unfold State.endOpening
      split
      · exact hans _ _ _ (hupd v _ hv)
      · rename_i hl
        have hl : v.listingCount h = 0 := Nat.eq_zero_of_not_pos hl
        split
        · have hu := unbindHold_only v h d
          have hb : P (v.unbindHold h d) := by rw [hu]; exact hhold v _ hv
          refine hans _ _ _ (hfree _ hb ?_)
          rw [State.slot, hu.calls]
          exact congrArg CallSlot.gen (slot_of_call hd)
        · exact hendc _ _ (hdrop _ _) hl
    · unfold State.endAdd
      dsimp only
      split
      · exact hdrop _ _
      · rename_i hl
        exact hendc _ _ (hdrop _ _) (Nat.eq_zero_of_not_pos hl)
    · exact hv
  · exact hv

theorem slot_answerSweep (u : State) (sw : Sweep) (a : AnswerCode) (data : List Byte) (j : Nat) :
    (u.answerSweep sw a data).slot j = u.slot j := slot_of_calls (answerSweep_only u sw a data).calls j

/-- Two handles of one slot and one generation are one. -/
theorem handle_ext {h k : Handle} (hs : h.slot = k.slot) (hg : h.gen = k.gen) : h = k := by
  cases h; cases k; simp_all

section

variable {v : State} {h : Handle} {d : Call} {sw : Sweep} (hd : v.call h = some d) (hs : d.sweep = some sw)

include hd hs

theorem endDelivery_endpoints : (v.endDelivery h).endpoints = v.endpoints :=
  endDelivery_keep (P := fun u => u.endpoints = v.endpoints) hd hs (fun u f hu => (updCall_only u h f).rest.1.trans hu)
    (fun u a data hu => (answerSweep_only u sw a data).endpoints.trans hu) (fun _ _ hu => hu) (fun _ hu _ => hu)
    (fun u c x hu hl _ _ => (enterEnding_endpoints (by rw [State.listingCount, hu]; exact hl) x).trans hu) rfl

theorem endDelivery_noPending (hn : v.noPending = true) : (v.endDelivery h).noPending = true :=
  endDelivery_keep (P := fun u => u.noPending = true) hd hs (fun u f hu => (updCall_only u h f).places.noPending.trans hu)
    (fun u a data hu => (answerSweep_only u sw a data).noPending.trans hu) (fun _ _ hu => hu) (fun _ hu _ => hu)
    (fun _ c x hu _ _ _ => enterEnding_noPending hu h c x) hn

theorem endDelivery_slot {k : Handle} (hk : k ≠ h) {c : Call} (hc : v.slot k.slot = ⟨k.gen, some c⟩) :
    (v.endDelivery h).slot k.slot = ⟨k.gen, some c⟩ := by
  refine endDelivery_keep (P := fun u => u.slot k.slot = ⟨k.gen, some c⟩) hd hs (fun u f hu => ?_)
    (fun u a data hu => (slot_answerSweep u sw a data _).trans hu) (fun _ _ hu => hu) (fun u hu hg => ?_) (fun u c' x hu _ hc' _ => ?_) hc
  · rw [slot_updCall, if_neg, hu]
    rintro ⟨h1, h2⟩
    rw [hu] at h2
    exact hk (handle_ext h1.symm h2)
  · have hne : h.slot ≠ k.slot := fun he => hk (handle_ext he.symm (by rw [he, hu] at hg; exact hg))
    rw [State.freeRecord, State.slot]
    exact (Table.get_set_ne _ _ _ _ _ hne).trans hu
  · have hne : h.slot ≠ k.slot := fun he => by
      have h1 := congrArg CallSlot.gen (slot_of_call hc')
      rw [he, hu] at h1
      exact hk (handle_ext he.symm h1)
    rw [slot_enterEnding hc', if_neg hne, hu]

theorem endDelivery_ending {k : Handle} (hk : k ≠ h) {x : EndReason} {c : Call} (hc : Ending v k x c) : Ending (v.endDelivery h) k x c := by
  refine endDelivery_keep (P := fun u => Ending u k x c) hd hs (fun u f hu => ?_) (fun u a data hu => hu.ports (answerSweep_only u sw a data))
    (fun _ _ hu => hu.congr rfl (fun _ => rfl) rfl rfl) (fun u hu hg => ?_) (fun u c' y hu _ hc' hl => hu.enterEnding hc' hl) hc
  · have ho := updCall_only u h f
    refine hu.congr ?_ (fun j => by rw [ep_congr ho.rest.1]) (by rw [ho]) (by rw [ho])
    rw [slot_updCall, if_neg]
    rintro ⟨h1, h2⟩
    rw [hu.slot] at h2
    exact hk (handle_ext h1.symm h2)
  · have hne : h.slot ≠ k.slot := fun he => hk (handle_ext he.symm (by rw [he, hu.slot] at hg; exact hg))
    refine hu.congr ?_ (fun _ => rfl) rfl rfl
    rw [State.freeRecord, State.slot]
    exact Table.get_set_ne _ _ _ _ _ hne

theorem endDelivery_port_idle {q : Port} (hq : (v.port q).inProgress = none) : (v.endDelivery h).port q = v.port q := by
  refine endDelivery_keep (P := fun u => u.port q = v.port q) hd hs (fun u f hu => ((updCall_only u h f).places.port q).trans hu)
    (fun u a data hu => ?_) (fun _ _ hu => (port_eq rfl rfl q).trans hu) (fun _ hu _ => (port_eq rfl rfl q).trans hu) (fun u c x hu _ hc hl => ?_) rfl
  · unfold State.answerSweep
    split
    · rw [port_answer]
      split
      · rw [hu, result_idle hq]
      · exact hu
    · exact hu
  · rw [← endCall_of_live hc hl, port_endCall_idle (by rw [hu]; exact hq), hu]

end

/-! ## The places where the arrival has landed -/

theorem once_of_listingsOk {s : State} (hl : s.listingsOk) (e : Nat) (cl : ListClass) : ((keys cl (s.ep e)).map (·.1)).Nodup := by
  by_cases he : e < 176
  · rw [← map_call_listings]; exact forall_ep hl.2.1 he cl
  · rw [keys_of_le (Nat.not_lt.1 he)]; exact List.nodup_nil

theorem once_landed {s : State} {h : Handle} {c : Call} (hl : s.listingsOk) {e : Nat} (hun : (s.ep e).lists h = false) (cl : ListClass) :
    ((keys cl (arrivalOf s h c e).1).map (·.1)).Nodup := by
  have honce := once_of_listingsOk hl e
  unfold arrivalOf
  by_cases hcl : cl = c.type.listClass
  · subst hcl
    have hsub := keys_arrive s.ctx c.type.listClass ⟨h, c.type, c.level, none, false, false, none⟩ (s.ep e)
    obtain ⟨m, hp, hm⟩ := hsub
    refine (hp.map (·.1)).nodup_iff.1 ((hm.map _).nodup ?_)
    rw [List.map_cons, List.nodup_cons]
    refine ⟨fun hmem => ?_, honce _⟩
    obtain ⟨q, hq, hqh⟩ := List.mem_map.1 hmem
    exact lists_false_iff.1 hun _ q hq hqh
  · rw [keys_arrive_ne hcl]; exact honce cl

theorem nowhere_iff {s t : State} (he : t.endpoints = s.endpoints) {k : Handle} :
    (∀ ep ∈ t.endpoints.cells, ep.lists k = false) ↔ s.listingCount k = 0 := by
  rw [State.listingCount, he, List.countP_eq_zero]
  simp

section

variable {s : State} {i : Nat} {c : Call} {sw : Sweep} {e : Nat} {es : List Nat}

/-- The endpoints that a delivering sweep has still to visit do not list its call. -/
theorem unlisted_of_rest (ha : SweepAt s i c sw e es) (hk : sw.kind ≠ .drop) (hl : s.listingsOk) : (s.ep e).lists (s.handleOf i) = false := by
  obtain ⟨-, hrec, hs, hr, -⟩ := ha
  exact ((hl.2.2 i c sw hrec hs hk).2 e (by rw [hr]; exact List.mem_cons_self ..)).2

/-- The count of a call's bumps: none, or one. -/
theorem landed_count (ha : SweepAt s i c sw e es) (hk : sw.kind ≠ .drop) (hl : s.listingsOk) {k : Handle}
    (hlost : .lost k .bump ∈ (arrivalOf s (s.handleOf i) c e).2) : (arrivalOf s (s.handleOf i) c e).2.count (.lost k .bump) = 1 := by
  have hun := unlisted_of_rest ha hk hl
  obtain ⟨-, -, -, -, he, -⟩ := ha
  have honce := once_of_listingsOk hl e c.type.listClass
  have hle := (arrive_lost_le (x := s.ctx) (l := ⟨s.handleOf i, c.type, c.level, none, false, false, none⟩) honce hun k).1
  have hpos := List.count_pos_iff.2 hlost
  unfold arrivalOf at hpos ⊢
  dsimp only at hle
  omega

/-- No other call's sweep waits for the port of a sweep whose request is in progress. -/
theorem landed_ports (ha : SweepAt s i c sw e es) (hheld : s.sweepsHeld) {k : Handle} {ck : Call} {w : Sweep} (hck : s.call k = some ck)
    (hw : ck.sweep = some w) (hans : w.answers = true) : ∀ q d w', q ≠ k → (landed s sw (s.handleOf i) c e es).call q = some d →
      d.sweep = some w' → w'.answers = true → w'.port ≠ w.port := by
  intro q d w' hq hd hw' hans'
  obtain ⟨h1, h2, -⟩ := landed_frame ha
  obtain ⟨-, hrec, hs, -⟩ := ha
  by_cases hqi : q.slot = i
  · have hslot := slot_of_call hd
    rw [hqi, h1] at hslot
    injection hslot with hg hr
    obtain rfl := Option.some.inj hr
    rw [deliveredCall_sweep hs] at hw'
    cases hw'
    have hqh : s.call q = some c := by
      rw [show q = s.handleOf i from handle_ext hqi hg.symm]; exact call_handleOf hrec
    exact sweep_ports_apart (sw' := sw) hheld hck hqh hq hw hs hans hans'
  · have hqs : s.call q = some d := (call_congr (h2 q.slot hqi)).symm.trans hd
    exact sweep_ports_apart hheld hck hqs hq hw hw' hans hans'

end

/-! ## The bumped calls -/

/-- The state in which the reports of a delivery have been taken. -/
structure Reported (s : State) (sw : Sweep) (h : Handle) (c : Call) (e : Nat) (es : List Nat) (v : State) : Prop where
  endpoints : v.endpoints = s.endpoints.set e (arrivalOf s h c e).1
  noPending : v.noPending = true
  own : ∃ p, v.slot h.slot = ⟨h.gen, some { c with
      part := p
      sweep := some { sw with
        rest := es, taken := sw.taken + 1, bumped := sw.bumped + (arrivalOf s h c e).2.count (.lost h .bump)
        lastLoss := if (arrivalOf s h c e).2.count (.lost h .bump) ≠ 0 ∧ v.listingCount h = 0 then some .displaced else none } }⟩ ∧
    ((arrivalOf s h c e).2.count (.lost h .bump) = 0 →
      (∀ k, c.part = .talk k → p = .talk { k with participants := k.participants ++ [⟨e, false⟩] }) ∧ ((∀ k, c.part ≠ .talk k) → p = c.part)) ∧
    ((arrivalOf s h c e).2.count (.lost h .bump) ≠ 0 → p = withoutStation e c.part)

theorem listingCount_congr {s t : State} (he : t.endpoints = s.endpoints) (k : Handle) : t.listingCount k = s.listingCount k := by
  rw [State.listingCount, he]; rfl

section

variable {s : State} {i : Nat} {c : Call} {sw : Sweep} {e : Nat} {es : List Nat}

theorem reported (ha : SweepAt s i c sw e es) (hk : sw.kind ≠ .drop) (hno : ¬ Skips s c e) :
    Reported s sw (s.handleOf i) c e es ((s.serveSweep sw).deliver (s.handleOf i) c e es) := by
  obtain ⟨h1, -, h3, -, -, -, h7⟩ := landed_frame ha
  obtain ⟨-, -, hs, -⟩ := ha
  have hofs := ofArrival s (s.handleOf i) c e
  obtain ⟨hdel, p, hp, hp0, hp1⟩ := bumpedTimes_delivered hs hk e ((arrivalOf s (s.handleOf i) c e).2.count (.lost (s.handleOf i) .bump)) es
    (decide ((landed s sw (s.handleOf i) c e es).listingCount (s.handleOf i) = 0))
  have hown := takeReports_bumped (e := e) hofs (h := s.handleOf i) h1 (.inl hdel)
  have hends := takeReports_endpoints (e := e) hofs (landed s sw (s.handleOf i) c e es)
  have hnv := takeReports_noPending (e := e) hofs h7
  rw [hp] at hown
  rw [deliver_eq hno]
  refine ⟨hends.trans h3, hnv, p, ?_, hp0, hp1⟩
  rw [listingCount_congr hends, hown]
  simp only [decide_eq_true_eq]

/-- A bumped call that is delivering, or is listed elsewhere, goes on. -/
theorem reported_bumped (ha : SweepAt s i c sw e es) (hk : sw.kind ≠ .drop) (hno : ¬ Skips s c e) (hl : s.listingsOk) {k : Handle} {ck : Call}
    (hlost : .lost k .bump ∈ (arrivalOf s (s.handleOf i) c e).2) (hkh : k ≠ s.handleOf i) (hck : s.call k = some ck)
    (hor : ck.delivering = true ∨ ((s.serveSweep sw).deliver (s.handleOf i) c e es).listingCount k ≠ 0) :
    ((s.serveSweep sw).deliver (s.handleOf i) c e es).slot k.slot =
      ⟨k.gen, some (bumpedTimes e 1 (decide (((s.serveSweep sw).deliver (s.handleOf i) c e es).listingCount k = 0)) ck)⟩ := by
  have hcount := landed_count ha hk hl hlost
  obtain ⟨-, h2, -⟩ := landed_frame ha
  have hofs := ofArrival s (s.handleOf i) c e
  have hk1 : k.slot ≠ i := fun hki => hkh (by rw [← handleOf_eq hck, hki])
  have hslot : (landed s sw (s.handleOf i) c e es).slot k.slot = ⟨k.gen, some ck⟩ := (h2 _ hk1).trans (slot_of_call hck)
  have hends := takeReports_endpoints (e := e) hofs (landed s sw (s.handleOf i) c e es)
  rw [deliver_eq hno, listingCount_congr hends] at hor ⊢
  rw [takeReports_bumped hofs hslot hor, hcount]

/-- What an end leaves of a part without a station, in terms of an earlier state with the same player and the same other stations. -/
theorem endingKeeps_bumped {y : State} {k : Handle} {part : CallPart}
    (hp : ∀ m j, part = .message m → m.player = some j → y.player j = s.player j)
    (hep : ∀ st, st ≠ e → (y.ep st).fg = (s.ep st).fg) :
    EndingKeeps s k (withoutStation e part) (y.endingPart k (withoutStation e part)) := by
  have hkeep := endingKeeps_endingPart y k (withoutStation e part)
  cases part with
  | program o lv => exact hkeep
  | page => exact hkeep
  | alarm a => exact hkeep
  | message m =>
    cases hm : m.player with
    | none => simpa [withoutStation, EndingKeeps, hm] using hkeep
    | some j => simpa [withoutStation, EndingKeeps, hm, hp m j rfl hm] using hkeep
  | talk t =>
    have hjoin : joined y k (t.participants.filter (·.station ≠ e)) = joined s k (t.participants.filter (·.station ≠ e)) :=
      joined_congr fun st hst => hep st (by
        obtain ⟨x, hx, rfl⟩ := List.mem_map.1 hst
        simpa using (List.mem_filter.1 hx).2)
    simpa only [withoutStation, EndingKeeps, hjoin] using hkeep

/-- A bumped call that is not delivering and is listed nowhere ends. -/
theorem reported_displaced (ha : SweepAt s i c sw e es) (hk : sw.kind ≠ .drop) (hno : ¬ Skips s c e) (hheld : s.sweepsHeld) (hl : s.listingsOk)
    {k : Handle} {ck : Call} (hlost : .lost k .bump ∈ (arrivalOf s (s.handleOf i) c e).2) (hkh : k ≠ s.handleOf i) (hck : s.call k = some ck)
    (hlive : ck.state.live = true) (hd : ck.delivering = false)
    (hz : ((s.serveSweep sw).deliver (s.handleOf i) c e es).listingCount k = 0) :
    ∃ d, Ending ((s.serveSweep sw).deliver (s.handleOf i) c e es) k .displaced d ∧
      (s.playersOk → EndingKeeps s k (withoutStation e ck.part) d.part) ∧
      ∀ w, ck.sweep = some w →
        SweepAnswered s ((s.serveSweep sw).deliver (s.handleOf i) c e es) k.slot w .unknownCall (stoppedData k w) := by
  have hcount := landed_count ha hk hl hlost
  have hports := fun {w} => landed_ports ha hheld (w := w) hck
  obtain ⟨-, h2, h3, -, h5, h6, -⟩ := landed_frame ha
  have hun := unlisted_of_rest ha hk hl
  obtain ⟨-, -, -, -, he, -⟩ := ha
  have hofs := ofArrival s (s.handleOf i) c e
  have hk1 : k.slot ≠ i := fun hki => hkh (by rw [← handleOf_eq hck, hki])
  have hslot : (landed s sw (s.handleOf i) c e es).slot k.slot = ⟨k.gen, some ck⟩ := (h2 _ hk1).trans (slot_of_call hck)
  have hends := takeReports_endpoints (e := e) hofs (landed s sw (s.handleOf i) c e es)
  rw [deliver_eq hno] at hz ⊢
  rw [listingCount_congr hends] at hz
  have hapart : Apart (landed s sw (s.handleOf i) c e es) k ck.type.listClass := fun j => by
    refine ⟨?_, fun d q hq hqk => absurd hqk (lists_false_iff.1 (lists_of_count hz j) d q hq)⟩
    rw [State.ep, h3, Table.get_set _ _ _ _ _ he]
    split
    · exact once_landed hl hun _
    · exact (apart_of_listingsOk hl hck j).1
  obtain ⟨y, hy⟩ := takeReports_displaced (e := e) hofs hslot hlive hd hz hcount hapart
  refine ⟨_, hy.ending, fun hpl => ?_, fun w hw q hans hq => ?_⟩
  · have hplayer : ∀ m j, ck.part = .message m → m.player = some j → y.player j = s.player j := fun m j hm hj => by
      have hcall := (hpl.2.2.1 k ck m j hck hm hj).2
      exact (hy.player j (by rw [h6]; exact hcall)).trans (h6 j)
    have hep : ∀ st, st ≠ e → (y.ep st).fg = (s.ep st).fg := fun st hst => by
      rw [ep_congr hy.endpoints, State.ep, h3, Table.get_set_ne _ _ _ _ _ hst.symm]; rfl
    exact endingKeeps_bumped hplayer hep
  · have hpw := h5 w.port
    have hstop := hy.answers w q hw hans (by rw [hpw]; exact hq) (hports hw hans)
    exact answered_congr hstop (by rw [hpw]) rfl rfl

end

theorem bumpsAreCounted : BumpsAreCounted := by
  intro s i c sw e es ha hk hheld hl hno h r
  have hrep := reported ha hk hno
  have hbump := fun k ck hlost hkh hck => reported_bumped ha hk hno hl (k := k) (ck := ck) hlost hkh hck
  have hdisp := fun k ck hlost hkh hck => reported_displaced ha hk hno hheld hl (k := k) (ck := ck) hlost hkh hck
  refine ⟨_, sweepDelivery_eq ha hk, ?_⟩
  generalize (s.serveSweep sw).deliver (s.handleOf i) c e es = v at hrep hbump hdisp
  obtain ⟨p, hown, -⟩ := hrep.own
  have hcv := call_of_slot hown
  have hne := endDelivery_noPending hcv rfl hrep.noPending
  have hends := (settle_endpoints hne s).trans (endDelivery_endpoints hcv rfl)
  intro k ck hlost hkh hck hlive nowhere delisted
  have hnow : nowhere ↔ v.listingCount k = 0 := nowhere_iff hends
  have hgoes : ck.delivering = true ∨ v.listingCount k ≠ 0 → ∃ u, (settle s (v.endDelivery h)).slot k.slot = ⟨k.gen, some u⟩ ∧
      u.sweep = (bumpedTimes e 1 (decide (v.listingCount k = 0)) ck).sweep ∧ u.state = ck.state ∧ delisted u := by
    intro hor
    obtain ⟨u, hu1, hu2, hu3, hu4⟩ := settle_goesOn (s0 := s) hne (endDelivery_slot hcv rfl hkh (hbump k ck hlost hkh hck hor))
    refine ⟨u, hu1, hu2, hu3 (fun he => ?_), fun q hq => hu4 _ ?_⟩
    · have : ck.state = .ending := he
      rw [this] at hlive; cases hlive
    · show (if 1 = 0 then ck.part else withoutStation e ck.part) = _
      rw [if_neg (by decide), hq]; rfl
  refine ⟨fun hd => ?_, fun hd hnw => ?_, fun hd hnw => ?_⟩
  · obtain ⟨u, hu1, hu2, hu3, hu4⟩ := hgoes (.inl hd)
    refine ⟨u, hu1, hu3, hu4, fun hnw => ?_, fun hnw => ?_⟩
    · rw [hu2, bumpedTimes, hd, decide_eq_true (hnow.1 hnw)]; rfl
    · rw [hu2, bumpedTimes, hd, decide_eq_false fun hz => hnw (hnow.2 hz)]; simp
  · obtain ⟨d, hd1, hd2, hd3⟩ := hdisp k ck hlost hkh hck hlive hd (hnow.1 hnw)
    have hend := endDelivery_ending hcv rfl hkh hd1
    refine ⟨(hend.settled hne s).1, fun hpl => hend.keeping hne s (hd2 hpl), fun w hw q hans hq => ?_⟩
    have hstop := hd3 w hw q hans hq
    have hidle := endDelivery_port_idle hcv rfl hstop.2
    exact settle_answered (answered_congr hstop rfl (by rw [hidle]) (by rw [hidle])) hne s
  · obtain ⟨u, hu1, hu2, hu3, hu4⟩ := hgoes (.inr fun hz => hnw (hnow.2 hz))
    refine ⟨u, hu1, hu3, ?_, hu4⟩
    rw [hu2, bumpedTimes, hd]; rfl

end Sys2Proof.Calls
end

section
/-! PROOFS. The last endpoint of a delivering sweep, and the sweep's end (02 R33 to R35; 06 R108, R111, R119; 07 R136). -/

namespace Sys2Proof.Calls

open Sys2Proof.Machine

/-! ## The end of a delivering sweep -/

/-- The state after an ended sweep's answer: the record is changed by `f`, the port has the answer, the rest is as it was. -/
theorem sweepDone {v : State} {h : Handle} {d : Call} {sw : Sweep} (hd : v.call h = some d) (f : Call → Call) (a : AnswerCode)
    (data : List Byte) :
    ((v.updCall h f).answerSweep sw a data).slot h.slot = ⟨h.gen, some (f d)⟩ ∧
      ((v.updCall h f).answerSweep sw a data).endpoints = v.endpoints ∧
      ((v.updCall h f).answerSweep sw a data).noPending = v.noPending ∧
      ((v.updCall h f).answerSweep sw a data).players = v.players ∧
      ∀ q ph, sw.answers = true → (v.port sw.port).inProgress = some ⟨q, ph⟩ →
        AnsweredWith v ((v.updCall h f).answerSweep sw a data) sw.port q a data := by
  have h1 := answerSweep_only (v.updCall h f) sw a data
  have h2 := updCall_only v h f
  refine ⟨(slot_answerSweep _ _ _ _ _).trans (slot_updCall_self hd f), h1.endpoints.trans h2.rest.1, h1.noPending.trans h2.places.noPending,
    h1.alarms.2.2.trans h2.places.players, fun q ph ha hq => ?_⟩
  have hp := h2.places.port sw.port
  exact answered_congr (answerSweep_answers ha (by rw [hp]; exact hq) a data) (by rw [hp]) rfl rfl

/-- A state `v` that the event has led from `s`, in which the delivering sweep of call `h` has no endpoint left. -/
structure AtEnd (s v : State) (h : Handle) (sw : Sweep) (d : Call) : Prop where
  slot : v.slot h.slot = ⟨h.gen, some d⟩
  sweep : d.sweep = some sw
  rest : sw.rest = []
  live : d.state.live = true
  noPending : v.noPending = true
  port : sw.answers = true → v.port sw.port = s.port sw.port
  apart : v.listingCount h = 0 → Apart v h d.type.listClass

section

variable {s v s0 : State} {h : Handle} {sw : Sweep} {d : Call} (hv : AtEnd s v h sw d)

include hv

theorem AtEnd.answered {t : State} {a : AnswerCode} {data : List Byte}
    (ht : ∀ q ph, sw.answers = true → (v.port sw.port).inProgress = some ⟨q, ph⟩ → AnsweredWith v t sw.port q a data)
    (hn : t.noPending = true) : SweepAnswered s (settle s0 t) h.slot sw a data := by
  intro q ha hq
  have hport := hv.port ha
  exact settle_answered (answered_congr (ht q _ ha (by rw [hport]; exact hq)) (by rw [hport]) rfl rfl) hn s0

/-- A call that is listed somewhere goes on, ACTIVE, and the request is answered OK with the counts. -/
theorem AtEnd.goesOn (hk : sw.kind ≠ .drop) (hl : v.listingCount h ≠ 0) :
    (∃ u, (settle s0 (v.endDelivery h)).slot h.slot = ⟨h.gen, some u⟩ ∧ u.sweep = none ∧
      u.state = (if sw.kind = .opening then .active else d.state) ∧ ∀ k, d.part = .talk k → u.part = .talk k) ∧
    (settle s0 (v.endDelivery h)).endpoints = v.endpoints ∧
    SweepAnswered s (settle s0 (v.endDelivery h)) h.slot sw .ok (sw.okData h d.type (v.heardCount h)) := by
  have hd := call_of_slot hv.slot
  have hpos : 0 < v.listingCount h := Nat.pos_of_ne_zero hl
  obtain ⟨f, he, hfs, hfst, hfp⟩ : ∃ f : Call → Call, v.endDelivery h = (v.updCall h f).answerSweep sw .ok (sw.okData h d.type (v.heardCount h)) ∧
      (f d).sweep = none ∧ (f d).state = (if sw.kind = .opening then .active else d.state) ∧ (f d).part = d.part := by
    cases hkind : sw.kind with
    | opening =>
      refine ⟨fun c => { c with state := .active, sweep := none }, ?_, rfl, rfl, rfl⟩
      simp only [State.endDelivery, hd, hv.sweep, hv.rest, hkind, if_true, State.endOpening, hpos]
    | add =>
      refine ⟨fun c => { c with sweep := none }, ?_, rfl, rfl, rfl⟩
      simp only [State.endDelivery, hd, hv.sweep, hv.rest, hkind, if_true, State.endAdd, hpos]
      rfl
    | drop => exact absurd hkind hk
  obtain ⟨h1, h2, h3, -, h5⟩ := sweepDone (sw := sw) hd f .ok (sw.okData h d.type (v.heardCount h))
  have hn := h3.trans hv.noPending
  rw [he]
  obtain ⟨u, hu1, hu2, hu3, hu4⟩ := settle_goesOn (s0 := s0) hn h1
  refine ⟨⟨u, hu1, hu2.trans hfs, ?_, fun k hk => hu4 k (hfp.trans hk)⟩, (settle_endpoints hn s0).trans h2, hv.answered h5 hn⟩
  rw [hu3, hfst]
  rw [hfst]
  split
  · decide
  · rintro hst
    have hlive := hv.live
    rw [hst] at hlive; cases hlive

/-- An opening sweep with no endpoint taken, of a call that is listed nowhere: the record is FREE. -/
theorem AtEnd.freed (hk : sw.kind = .opening) (ht : sw.taken = 0) (hl : v.listingCount h = 0) :
    (settle s0 (v.endDelivery h)).slot h.slot = ⟨h.gen, none⟩ ∧ (settle s0 (v.endDelivery h)).endpoints = v.endpoints ∧
      SweepAnswered s (settle s0 (v.endDelivery h)) h.slot sw .noTargets (sw.data h 0) := by
  have hd := call_of_slot hv.slot
  have he : v.endDelivery h = ((v.unbindHold h d).freeRecord h).answerSweep sw .noTargets (sw.data h 0) := by
    simp only [State.endDelivery, hd, hv.sweep, hv.rest, hk, if_true, State.endOpening, hl, Nat.lt_irrefl, if_false, ht]
  have hu := unbindHold_only v h d
  have ho := answerSweep_only ((v.unbindHold h d).freeRecord h) sw .noTargets (sw.data h 0)
  have hg : ((v.unbindHold h d).slot h.slot).gen = h.gen := by rw [slot_of_calls hu.calls, hv.slot]
  have hslot : (v.endDelivery h).slot h.slot = ⟨h.gen, none⟩ := by
    rw [he, slot_answerSweep, slot_freeRecord (slot_lt_of_call hd) hg, if_pos rfl]
  have hn : (v.endDelivery h).noPending = true := by
    rw [he, ho.noPending]
    show (v.unbindHold h d).noPending = true
    rw [hu]; exact hv.noPending
  have hends : (v.endDelivery h).endpoints = v.endpoints := by rw [he]; exact ho.endpoints.trans hu.endpoints
  have hset := settles_settle hn s0
  refine ⟨?_, hset.endpoints.trans hends, hv.answered (fun q ph ha hq => ?_) hn⟩
  · have h1 : ((settle s0 (v.endDelivery h)).slot h.slot).record = none := hset.free (by rw [hslot])
    have h2 : ((settle s0 (v.endDelivery h)).slot h.slot).gen = h.gen := (hset.gens _).trans (by rw [hslot])
    rw [← h1, ← h2]
  · have hp : ((v.unbindHold h d).freeRecord h).port sw.port = v.port sw.port := (port_eq rfl rfl _).trans (hu.port _)
    rw [he]
    exact answered_congr (answerSweep_answers ha (by rw [hp]; exact hq) _ _) (by rw [hp]) rfl rfl

/-- Any other call that is listed nowhere ends with the reason of its last loss. -/
theorem AtEnd.ended (hk : sw.kind ≠ .drop) (ht : sw.kind = .opening → sw.taken ≠ 0) (hl : v.listingCount h = 0) :
    EndedIn (settle s0 (v.endDelivery h)) h (sw.lastLoss.getD .displaced) ∧
      SweepAnswered s (settle s0 (v.endDelivery h)) h.slot sw (if sw.kind = .opening then .noTargets else .ok) (sw.data h 0) ∧
      ∀ s' p, EndingKeeps s' h p (v.endingPart h d.part) → EndedKeeping s' (settle s0 (v.endDelivery h)) h p := by
  have hd := call_of_slot hv.slot
  have hheard : v.heardCount h = 0 := (counts_unlisted fun e => lists_of_count hl e).2
  obtain ⟨a, he, hcode⟩ : ∃ a, v.endDelivery h = ((v.updCall h fun c => { c with sweep := none }).answerSweep sw a (sw.data h 0)).endCall h
      (sw.lastLoss.getD .displaced) ∧ a = if sw.kind = .opening then .noTargets else .ok := by
    cases hkind : sw.kind with
    | opening =>
      refine ⟨.noTargets, ?_, rfl⟩
      simp only [State.endDelivery, hd, hv.sweep, hv.rest, hkind, if_true, State.endOpening, hl, Nat.lt_irrefl, if_false, ht hkind]
      rfl
    | add =>
      refine ⟨.ok, ?_, rfl⟩
      have hdata : sw.okData h d.type (v.heardCount h) = sw.data h 0 := by
        rw [Sweep.okData, hheard, hkind]; simp
      simp only [State.endDelivery, hd, hv.sweep, hv.rest, hkind, if_true, State.endAdd, hl, Nat.lt_irrefl, if_false, hdata]
      rfl
    | drop => exact absurd hkind hk
  obtain ⟨h1, h2, h3, h4, h5⟩ := sweepDone (sw := sw) hd (fun c => { c with sweep := none }) a (sw.data h 0)
  have hapart := hv.apart hl
  rw [he, ← hcode]
  generalize (v.updCall h fun c => { c with sweep := none }).answerSweep sw a (sw.data h 0) = y at h1 h2 h3 h4 h5
  have hy := call_of_slot h1
  have hn : y.noPending = true := h3.trans hv.noPending
  have hend : y.endCall h (sw.lastLoss.getD .displaced) = y.enterEnding h { d with sweep := none } (sw.lastLoss.getD .displaced) :=
    endCall_of_live hy hv.live _
  have hay : Apart y h ({ d with sweep := none } : Call).type.listClass := fun e => by rw [ep_congr h2]; exact hapart e
  have hnz := endCall_noPending hn h (sw.lastLoss.getD .displaced)
  have hz := ending_enterEnding hy hay (sw.lastLoss.getD .displaced)
  rw [← hend] at hz
  refine ⟨(hz.settled hnz s0).1, hv.answered (fun q ph ha hq => ?_) hnz, fun s' p hp => hz.keeping hnz s0 ?_⟩
  · have hans := h5 q ph ha hq
    have hidle := port_endCall_idle hans.2 h (sw.lastLoss.getD .displaced)
    exact answered_congr hans rfl (by rw [hidle]) (by rw [hidle])
  · show EndingKeeps s' h p (y.endingPart h d.part)
    rw [endingPart_congr h2 h4]; exact hp

theorem AtEnd.ended_opening (hk : sw.kind = .opening) (ht : sw.taken ≠ 0) (hl : v.listingCount h = 0) :
    EndedIn (settle s0 (v.endDelivery h)) h (sw.lastLoss.getD .displaced) ∧
      SweepAnswered s (settle s0 (v.endDelivery h)) h.slot sw .noTargets (sw.data h 0) ∧
      ∀ s' p, EndingKeeps s' h p (v.endingPart h d.part) → EndedKeeping s' (settle s0 (v.endDelivery h)) h p := by
  have hend := hv.ended (s0 := s0) (by rw [hk]; decide) (fun _ => ht) hl
  rwa [if_pos hk] at hend

theorem AtEnd.ended_add (hk : sw.kind = .add) (hl : v.listingCount h = 0) :
    EndedIn (settle s0 (v.endDelivery h)) h (sw.lastLoss.getD .displaced) ∧
      SweepAnswered s (settle s0 (v.endDelivery h)) h.slot sw .ok (sw.data h 0) ∧
      ∀ s' p, EndingKeeps s' h p (v.endingPart h d.part) → EndedKeeping s' (settle s0 (v.endDelivery h)) h p := by
  have hno : sw.kind ≠ .opening := by rw [hk]; decide
  have hend := hv.ended (s0 := s0) (by rw [hk]; decide) (fun ho => absurd ho hno) hl
  rwa [if_neg hno] at hend

end

/-! ## The state at the end -/

section

variable {s : State} {i : Nat} {c : Call} {sw : Sweep} {e : Nat} {es : List Nat}

/-- The sweep after its last endpoint, which it has skipped. -/
def skippedLast (sw : Sweep) : Sweep := { sw with rest := [], skipped := sw.skipped + 1 }

theorem atEnd_skipped (ha : SweepAt s i c sw e []) (hl : s.listingsOk) (hlive : c.state.live = true) (hskip : Skips s c e) :
    AtEnd s ((s.serveSweep sw).deliver (s.handleOf i) c e []) (s.handleOf i) (skippedLast sw) { c with sweep := some (skippedLast sw) } ∧
      ((s.serveSweep sw).deliver (s.handleOf i) c e []).endpoints = s.endpoints ∧
      ((s.serveSweep sw).deliver (s.handleOf i) c e []).players = s.players := by
  have hcall := serveSweep_call ha
  obtain ⟨-, hrec, hs, -, -, -, hn⟩ := ha
  obtain ⟨-, hbe, -, hbp, hbn, -, hbq⟩ := serveSweep_frame s sw
  have hdel : (s.serveSweep sw).deliver (s.handleOf i) c e [] = (s.serveSweep sw).updCall (s.handleOf i) (sweptBy skippedLast) :=
    deliver_skips (by rw [ep_congr hbe]; exact skips_iff.1 hskip) _ _
  have hu := updCall_only (s.serveSweep sw) (s.handleOf i) (sweptBy skippedLast)
  have hends := hu.rest.1.trans hbe
  rw [hdel]
  refine ⟨⟨?_, rfl, rfl, hlive, hu.places.noPending.trans (hbn.trans hn), fun _ => (hu.places.port _).trans (hbq _), fun _ j => ?_⟩, hends,
    hu.places.players.trans hbp⟩
  · rw [slot_updCall_self hcall, sweptBy, hs]; rfl
  · rw [ep_congr hends]; exact apart_of_listingsOk hl (call_handleOf hrec) j

/-- A player that serves a delivering call stays with it through the reports of its own arrival. -/
theorem takeReports_player_own {rs : List Report} (hrs : OfArrival rs) {u : State} {h : Handle} {d : Call} {j : Nat}
    (hj : (u.player j).call = some h) (hd : u.call h = some d) (hdel : d.delivering = true) :
    (rs.foldl (State.takeReport e) u).player j = u.player j := by
  refine (takeReports_keep (P := fun v => v.player j = u.player j ∧ ∃ d, v.call h = some d ∧ d.delivering = true) hrs (fun _ _ h => h)
    (fun v k f hv hf _ => ⟨?_, ?_⟩) (fun v k c' hv _ hc' _ hnd _ => ?_) ⟨rfl, d, hd, hdel⟩).1
  · rw [State.player, (updCall_only v k f).places.players]; exact hv.1
  · obtain ⟨d', hd', hdel'⟩ := hv.2
    by_cases hk : h = k
    · subst hk
      refine ⟨f d', call_updCall_self hd' f, ?_⟩
      rcases hf with rfl | rfl
      · rw [bumped_delivering]; exact hdel'
      · rw [← hdel', ← bumped_delivering e d']; simp [keepsLoss, Call.delivering, Option.any_map]
    · exact ⟨d', by rw [call_updCall_ne hk]; exact hd', hdel'⟩
  · obtain ⟨d', hd', hdel'⟩ := hv.2
    have hk : k ≠ h := by
      rintro rfl
      obtain rfl := Option.some.inj (hd'.symm.trans hc')
      rw [hdel'] at hnd; cases hnd
    refine ⟨by rw [player_enterEnding_ne hk c' _ (by rw [hv.1]; exact hj), hv.1], d', ?_, hdel'⟩
    have hne : k.slot ≠ h.slot := fun he => hk (handle_ext he (by
      have h1 := slot_of_call hc'
      rw [he, slot_of_call hd'] at h1
      exact (congrArg CallSlot.gen h1).symm))
    rw [call_congr (s := v) (by rw [slot_enterEnding hc', if_neg hne]), hd']

theorem type_of_parts {c : Call} {p : CallPart} {sw : Option Sweep}
    (h : (∃ k k', c.part = .talk k ∧ p = .talk k') ∨ p = c.part ∨ p = withoutStation e c.part) :
    ({ c with part := p, sweep := sw } : Call).type = c.type := by
  rcases h with ⟨k, k', hc, rfl⟩ | rfl | rfl
  · rw [Call.type, Call.type, hc]
  · rfl
  · exact withoutStation_type e c

/-- The sweep after its last endpoint, which has taken the listing, with `n` bumps of the call. -/
def takenLast (sw : Sweep) (n : Nat) (nowhere : Prop) [Decidable nowhere] : Sweep :=
  { sw with
    rest := [], taken := sw.taken + 1, bumped := sw.bumped + n,
    lastLoss := if n ≠ 0 ∧ nowhere then some .displaced else none }

/-- What the last delivery leaves: the sweep is at its end, and the call is bumped or not. -/
structure TookLast (s v : State) (h : Handle) (c : Call) (sw : Sweep) (e n : Nat) (p : CallPart) : Prop where
  atEnd : AtEnd s v h (takenLast sw n (v.listingCount h = 0)) { c with part := p, sweep := some (takenLast sw n (v.listingCount h = 0)) }
  endpoints : v.endpoints = s.endpoints.set e (arrivalOf s h c e).1
  type : ({ c with part := p, sweep := some (takenLast sw n (v.listingCount h = 0)) } : Call).type = c.type
  kept : n = 0 → ∀ k, c.part = .talk k → p = .talk { k with participants := k.participants ++ [⟨e, false⟩] }
  lost : n ≠ 0 → p = withoutStation e c.part
  player : ∀ j, (s.player j).call = some h → v.player j = s.player j

theorem tookLast (ha : SweepAt s i c sw e []) (hk : sw.kind ≠ .drop) (hheld : s.sweepsHeld) (hl : s.listingsOk) (hlive : c.state.live = true)
    (hno : ¬ Skips s c e) : ∃ p, TookLast s ((s.serveSweep sw).deliver (s.handleOf i) c e []) (s.handleOf i) c sw e
      ((arrivalOf s (s.handleOf i) c e).2.count (.lost (s.handleOf i) .bump)) p := by
  have hun := unlisted_of_rest ha hk hl
  have hports := fun hans => landed_ports ha hheld (k := s.handleOf i) (ck := c) (w := sw) (call_handleOf ha.2.1) ha.2.2.1 hans
  obtain ⟨hends, hn, p, hown, hp0, hp1⟩ := reported ha hk hno
  obtain ⟨h1, -, h3, -, h5, h6, -⟩ := landed_frame ha
  obtain ⟨-, hrec, hs, -, he, -⟩ := ha
  have hofs := ofArrival s (s.handleOf i) c e
  have hdel : (deliveredCall e [] c).delivering = true := by rw [Call.delivering, deliveredCall_sweep hs]; simpa using hk
  have hland := call_of_slot (h := s.handleOf i) h1
  refine ⟨p, ⟨hown, rfl, rfl, hlive, hn, fun hans => ?_, fun hz j => ?_⟩, hends, ?_, fun h0 => (hp0 h0).1, hp1, fun j hj => ?_⟩
  · rw [deliver_eq hno]
    refine (takeReports_port hofs fun k d w hlost hd hnd hw hansw => ?_).trans (h5 _)
    by_cases hkh : k = s.handleOf i
    · subst hkh
      obtain rfl := Option.some.inj (hland.symm.trans hd)
      rw [hdel] at hnd; cases hnd
    · exact hports hans k d w hkh hd hw hansw
  · refine ⟨?_, fun d q hq hqh => absurd hqh (lists_false_iff.1 (lists_of_count hz j) d q hq)⟩
    rw [State.ep, hends, Table.get_set _ _ _ _ _ he]
    split
    · exact once_landed hl hun _
    · exact once_of_listingsOk hl j _
  · refine type_of_parts (e := e) ?_
    by_cases h0 : (arrivalOf s (s.handleOf i) c e).2.count (.lost (s.handleOf i) .bump) = 0
    · obtain ⟨ht, hoth⟩ := hp0 h0
      by_cases htalk : ∃ k, c.part = .talk k
      · obtain ⟨k, hk⟩ := htalk
        exact .inl ⟨k, _, hk, ht k hk⟩
      · exact .inr (.inl (hoth fun k hk => htalk ⟨k, hk⟩))
    · exact .inr (.inr (hp1 h0))
  · rw [deliver_eq hno]
    exact (takeReports_player_own hofs (by rw [h6]; exact hj) hland hdel).trans (h6 j)

end

end Sys2Proof.Calls
end

section
/-! PROOFS. The end of a delivering sweep (02 R33 to R35; 06 R108, R111, R119; 07 R136), and O39. -/

namespace Sys2Proof.Calls

open Sys2Proof.Machine

theorem heardCount_congr {s t : State} (he : t.endpoints = s.endpoints) (k : Handle) : t.heardCount k = s.heardCount k := by
  rw [State.heardCount, he]; rfl

section

variable {s : State} {i : Nat} {c : Call} {sw : Sweep} {e : Nat}

theorem lists_of_listingCount {t : State} {h : Handle} (hl : (t.ep e).lists h = true) : t.listingCount h ≠ 0 := by
  intro hz
  rw [lists_of_count hz e] at hl
  cases hl

/-- A listing that its own arrival does not bump stands at the endpoint. -/
theorem listed_of_not_bumped {v : State} {p : CallPart} {h : Handle} {n : Nat} (he : e < 176) (ht : TookLast s v h c sw e n p)
    (hno : .lost h .bump ∉ (arrivalOf s h c e).2) : v.listingCount h ≠ 0 := by
  refine lists_of_listingCount (e := e) (?_ : (v.ep e).lists h = true)
  rw [State.ep, ht.endpoints, Table.get_set_self _ _ _ _ he]
  exact lists_arrive_of_kept (x := s.ctx) (l := ⟨h, c.type, c.level, none, false, false, none⟩) hno (.inl rfl)

/-- After its own arrival has bumped it, a call is listed exactly where it was before. -/
theorem listed_iff_of_bumped (ha : SweepAt s i c sw e []) (hk : sw.kind ≠ .drop) (hl : s.listingsOk) {v : State} {p : CallPart} {n : Nat}
    (ht : TookLast s v (s.handleOf i) c sw e n p) (hlost : .lost (s.handleOf i) .bump ∈ (arrivalOf s (s.handleOf i) c e).2) :
    v.listingCount (s.handleOf i) = 0 ↔ s.listingCount (s.handleOf i) = 0 := by
  have hun := unlisted_of_rest ha hk hl
  have hcount := landed_count ha hk hl hlost
  obtain ⟨-, -, -, -, he, -⟩ := ha
  have hgone := (arrive_lost_le (x := s.ctx) (l := ⟨s.handleOf i, c.type, c.level, none, false, false, none⟩)
    (once_of_listingsOk hl e c.type.listClass) hun (s.handleOf i)).2 hcount
  have hsame : ∀ j, (v.ep j).lists (s.handleOf i) = (s.ep j).lists (s.handleOf i) := fun j => by
    rw [State.ep, ht.endpoints, Table.get_set _ _ _ _ _ he]
    split
    · next hj =>
      subst hj
      rw [hun, lists_false_iff]
      intro cl
      by_cases hcl : cl = c.type.listClass
      · rw [hcl]; exact hgone
      · unfold arrivalOf
        rw [keys_arrive_ne hcl]
        exact lists_false_iff.1 hun cl
    · rfl
  exact ⟨fun hz => (counts_unlisted fun j => (hsame j).symm.trans (lists_of_count hz j)).1,
    fun hz => (counts_unlisted fun j => (hsame j).trans (lists_of_count hz j)).1⟩

/-- What an end leaves of a call whose last arrival has bumped it. -/
theorem TookLast.endingKeeps {v : State} {p : CallPart} {n : Nat} (ht : TookLast s v (s.handleOf i) c sw e n p) (hn : n ≠ 0)
    (hrec : (s.slot i).record = some c) (hpl : s.playersOk) :
    EndingKeeps s (s.handleOf i) (withoutStation e c.part) (v.endingPart (s.handleOf i) p) := by
  rw [ht.lost hn]
  refine endingKeeps_bumped (fun m j hm hj => ht.player j (hpl.2.2.1 _ c m j (call_handleOf hrec) hm hj).2) fun st hst => ?_
  rw [State.ep, ht.endpoints, Table.get_set_ne _ _ _ _ _ hst.symm]
  rfl

theorem takenLast_reason (sw : Sweep) (nowhere : Prop) [Decidable nowhere] :
    (takenLast sw 1 nowhere).lastLoss.getD .displaced = .displaced := by
  rw [takenLast]
  by_cases hn : nowhere <;> simp [hn]

end

theorem sweepEnds : SweepEnds := by
  intro s i c sw e ha hheld hl hk hlive h counts okCounts nowhere r bumped
  have hnow : nowhere ↔ s.listingCount h = 0 := nowhere_iff rfl
  refine ⟨_, sweepDelivery_eq ha hk, by rw [State.settle_standing, endDelivery_standing, deliver_standing], ?_⟩
  have hskip := atEnd_skipped ha hl hlive
  have htook := tookLast ha hk hheld hl hlive
  have hmoved := fun {v p n} => listed_iff_of_bumped (v := v) (p := p) (n := n) ha hk hl
  have hone := landed_count ha hk hl (k := h)
  obtain ⟨-, hrec, hs, -, he, -⟩ := ha
  generalize (s.serveSweep sw).deliver (s.handleOf i) c e [] = v at hskip htook ⊢
  intro goesOn ended
  have hskipped : Skips s c e → AtEnd s v h (skippedLast sw) { c with sweep := some (skippedLast sw) } ∧ v.endpoints = s.endpoints ∧
      (v.listingCount h = 0 ↔ nowhere) ∧ v.heardCount h = s.heardCount h ∧
      ∀ x, EndedIn (settle s (v.endDelivery h)) h x →
        (∀ s' p, EndingKeeps s' h p (v.endingPart h c.part) → EndedKeeping s' (settle s (v.endDelivery h)) h p) → ended x c.part := by
    intro hsk
    obtain ⟨hat, hends, hpl⟩ := hskip hsk
    refine ⟨hat, hends, by rw [listingCount_congr hends, hnow], heardCount_congr hends h, fun x hx hkeep => ⟨hx, fun _ => hkeep s _ ?_⟩⟩
    rw [endingPart_congr hends hpl]
    exact endingKeeps_endingPart s h c.part
  refine ⟨fun hsk hnw => ?_, fun hsk hnw hop ht => ?_, fun hsk hnw hop ht => ?_, fun hsk hnw hadd => ?_, ?_,
    fun hno hnb => ?_, fun hno hb hnw => ?_, fun hno hb hnw hop => ?_, fun hno hb hnw hadd => ?_⟩
  · obtain ⟨hat, hends, hcnt, hheard, -⟩ := hskipped hsk
    obtain ⟨⟨u, hu1, hu2, hu3, hu4⟩, h2, h3⟩ := hat.goesOn (s0 := s) hk (mt hcnt.1 hnw)
    rw [hheard] at h3
    exact ⟨⟨u, hu1, hu2, hu3, hu4⟩, h2.trans hends, h3⟩
  · obtain ⟨hat, hends, hcnt, -⟩ := hskipped hsk
    obtain ⟨h1, h2, h3⟩ := hat.freed (s0 := s) hop ht (hcnt.2 hnw)
    refine ⟨h1, h2.trans hends, ?_⟩
    rw [Sweep.data, show (skippedLast sw).taken = 0 from ht] at h3
    exact h3
  · obtain ⟨hat, -, hcnt, -, hend⟩ := hskipped hsk
    obtain ⟨h1, h2, h3⟩ := hat.ended_opening (s0 := s) hop ht (hcnt.2 hnw)
    exact ⟨hend _ h1 h3, h2⟩
  · obtain ⟨hat, -, hcnt, -, hend⟩ := hskipped hsk
    obtain ⟨h1, h2, h3⟩ := hat.ended_add (s0 := s) hadd (hcnt.2 hnw)
    exact ⟨hend _ h1 h3, h2⟩
  · intro _ hs0
    exact arrive_empty (x := s.ctx) (ep := s.ep e) (l := ⟨h, c.type, c.level, none, false, false, none⟩) hs0 h
  · obtain ⟨p, ht⟩ := htook hno
    rw [show List.count _ (arrivalOf s (s.handleOf i) c e).2 = 0 from List.count_eq_zero.2 hnb] at ht
    obtain ⟨⟨u, hu1, hu2, hu3, hu4⟩, h2, h3⟩ := ht.atEnd.goesOn (s0 := s) hk (listed_of_not_bumped he ht hnb)
    rw [ht.type, ← heardCount_congr h2] at h3
    exact ⟨⟨u, hu1, hu2, hu3, fun k hk => hu4 _ (ht.kept rfl k hk)⟩, h2.trans ht.endpoints, h3⟩
  · obtain ⟨p, ht⟩ := htook hno
    rw [hone hb] at ht
    obtain ⟨⟨u, hu1, hu2, hu3, hu4⟩, h2, h3⟩ := ht.atEnd.goesOn (s0 := s) hk (mt (hmoved ht hb).1 (mt hnow.2 hnw))
    rw [ht.type, ← heardCount_congr h2] at h3
    refine ⟨⟨u, hu1, hu2, hu3, fun k hk => hu4 _ ?_⟩, h2.trans ht.endpoints, h3⟩
    rw [ht.lost (by decide), hk]; rfl
  · obtain ⟨p, ht⟩ := htook hno
    rw [hone hb] at ht
    obtain ⟨h1, h2, h3⟩ := ht.atEnd.ended_opening (s0 := s) hop (Nat.succ_ne_zero _) ((hmoved ht hb).2 (hnow.1 hnw))
    rw [takenLast_reason] at h1
    exact ⟨⟨h1, fun hpl => h3 s _ (ht.endingKeeps (by decide) hrec hpl)⟩, h2⟩
  · obtain ⟨p, ht⟩ := htook hno
    rw [hone hb] at ht
    obtain ⟨h1, h2, h3⟩ := ht.atEnd.ended_add (s0 := s) hadd ((hmoved ht hb).2 (hnow.1 hnw))
    rw [takenLast_reason] at h1
    exact ⟨⟨h1, fun hpl => h3 s _ (ht.endingKeeps (by decide) hrec hpl)⟩, h2⟩

/-- Settles O39. -/
theorem sweepDeliversListings : Obligations.SweepDeliversListings := ⟨sweepDelivers, bumpsAreCounted, sweepEnds, sweepsWaitTheirTurn⟩

end Sys2Proof.Calls
end

section
/-! PROOFS. The choice of an alarm slot: the lowest FREE one, the record to displace, and the live call of a program (08 R143, R144). -/

namespace Sys2Proof.Calls

open Sys2Proof.Machine

/-! ## The first and the best of a list -/

theorem alarmSlots_eq : alarmSlots = List.range' 60 4 := rfl

theorem mem_alarmSlots_iff {k : Nat} : k ∈ alarmSlots ↔ 60 ≤ k ∧ k < 64 := by
  rw [alarmSlots_eq, List.mem_range'_1]

/-- The first alarm slot with a property. -/
theorem find_alarmSlots {p : Nat → Bool} {k : Nat} :
    alarmSlots.find? p = some k ↔ (60 ≤ k ∧ k < 64) ∧ p k = true ∧ ∀ j, 60 ≤ j → j < k → p j = false := by
  rw [alarmSlots_eq, List.find?_range'_eq_some, List.mem_range'_1]
  simp only [Bool.not_eq_true']
  tauto

theorem find_alarmSlots_none {p : Nat → Bool} (h : ∀ j, 60 ≤ j → j < 64 → p j = false) : alarmSlots.find? p = none := by
  rw [List.find?_eq_none]
  intro j hj
  obtain ⟨h1, h2⟩ := mem_alarmSlots hj
  rw [h j h1 h2]; decide

/-- The one element that is better than every other is picked. -/
theorem pickBy_eq {α : Type} {better : α → α → Bool} {l : List α} {x : α} (hx : x ∈ l)
    (hb : ∀ y ∈ l, y ≠ x → better x y = true ∧ better y x = false) : pickBy better l = some x := by
  induction l with
  | nil => cases hx
  | cons y ys ih =>
    have hys := fun hx => ih hx fun z hz => hb z (List.mem_cons_of_mem _ hz)
    rw [pickBy]
    by_cases hy : y = x
    · subst hy
      cases hp : pickBy better ys with
      | none => rfl
      | some z =>
        by_cases hz : z = y
        · rw [hz]; simp
        · simp only [(hb z (List.mem_cons_of_mem _ (pickBy_mem hp)) hz).2, Bool.false_eq_true, if_false]
    · rw [hys ((List.mem_cons.1 hx).resolve_left (Ne.symm hy))]
      simp only [(hb y List.mem_cons_self hy).1, if_true]

theorem pickBy_ne_none {α : Type} {better : α → α → Bool} {l : List α} (h : l ≠ []) : pickBy better l ≠ none := by
  cases l with
  | nil => exact absurd rfl h
  | cons y ys =>
    rw [pickBy]
    split
    · nofun
    · split <;> nofun

/-! ## The records of the alarm slots -/

section

variable {s : State}

theorem mem_alarmRecords_iff {h : Handle} {c : Call} :
    (h, c) ∈ s.alarmRecords ↔ ∃ k, (60 ≤ k ∧ k < 64) ∧ (s.slot k).record = some c ∧ h = s.handleOf k := by
  simp only [State.alarmRecords, List.mem_filterMap, Option.map_eq_some_iff, mem_alarmSlots_iff]
  constructor
  · rintro ⟨k, hk, d, hd, he⟩
    cases he
    exact ⟨k, hk, hd, rfl⟩
  · rintro ⟨k, hk, hd, rfl⟩
    exact ⟨k, hk, c, hd, rfl⟩

theorem mem_alarmRecords_slot {k : Nat} {c : Call} (hk : 60 ≤ k ∧ k < 64) (hc : (s.slot k).record = some c) :
    (s.handleOf k, c) ∈ s.alarmRecords := mem_alarmRecords_iff.2 ⟨k, hk, hc, rfl⟩

/-- The live alarm of a program, as a test of an alarm slot. -/
def runsProgram (s : State) (id k : Nat) : Bool :=
  ((s.slot k).record.map (s.handleOf k, ·)).any fun r => r.2.state.live && r.2.alarm.any (·.program == id)

theorem runsProgram_iff {id k : Nat} : runsProgram s id k = true ↔
    ∃ r a, (s.slot k).record = some r ∧ r.state.live = true ∧ r.part = .alarm a ∧ a.program = id := by
  unfold runsProgram
  cases hr : (s.slot k).record with
  | none => simp
  | some r =>
    cases hp : r.part <;> simp [Call.alarm, hp]

theorem liveCallOf_eq (id : Nat) : s.liveCallOf id = (alarmSlots.find? (runsProgram s id)).bind fun k =>
    (s.slot k).record.map fun _ => s.handleOf k := by
  rw [State.liveCallOf, State.alarmRecords, List.find?_filterMap, Option.map_bind]
  refine congrArg _ (funext fun k => ?_)
  exact Option.map_map ..

theorem liveCallOf_of_liveAt {id k : Nat} (h : LiveAt s id k) : s.liveCallOf id = some (s.handleOf k) := by
  obtain ⟨h1, h2, hr, hmin⟩ := h
  have hf : alarmSlots.find? (runsProgram s id) = some k :=
    find_alarmSlots.2 ⟨⟨h1, h2⟩, runsProgram_iff.2 hr, fun j hj hjk => by
      rw [← Bool.not_eq_true, runsProgram_iff]; exact hmin j hj hjk⟩
  obtain ⟨r, -, hr, -⟩ := hr
  rw [liveCallOf_eq, hf, Option.bind_some, hr]; rfl

theorem liveCallOf_none {id : Nat} (h : ∀ k, ¬ LiveAt s id k) : s.liveCallOf id = none := by
  rw [liveCallOf_eq]
  cases hf : alarmSlots.find? (runsProgram s id) with
  | none => rfl
  | some k =>
    obtain ⟨⟨h1, h2⟩, hr, hmin⟩ := find_alarmSlots.1 hf
    refine absurd ⟨h1, h2, runsProgram_iff.1 hr, fun j hj hjk => ?_⟩ (h k)
    rw [← runsProgram_iff, hmin j hj hjk]; decide

/-! ## The slot of a new alarm -/

theorem freeAlarm_of_lowest {k : Nat} (h : LowestFree s k) : s.freeAlarm = some k := by
  obtain ⟨h1, h2, hf, hmin⟩ := h
  refine find_alarmSlots.2 ⟨⟨h1, h2⟩, by rw [hf]; rfl, fun j hj hjk => ?_⟩
  have := hmin j hj hjk
  cases hr : (s.slot j).record with
  | none => rw [hr] at this; cases this
  | some r => rfl

theorem freeAlarm_of_taken (h : AllTaken s) : s.freeAlarm = none := by
  refine find_alarmSlots_none fun j h1 h2 => ?_
  have := h j h1 h2
  cases hr : (s.slot j).record with
  | none => rw [hr] at this; cases this
  | some r => rfl

theorem mem_filter_records {p : Handle × Call → Bool} {x : Handle × Call} : x ∈ s.alarmRecords.filter p ↔
    ∃ k c, (60 ≤ k ∧ k < 64) ∧ (s.slot k).record = some c ∧ x = (s.handleOf k, c) ∧ p x = true := by
  obtain ⟨h, c⟩ := x
  rw [List.mem_filter, mem_alarmRecords_iff]
  constructor
  · rintro ⟨⟨k, hk, hc, rfl⟩, hp⟩; exact ⟨k, c, hk, hc, rfl, hp⟩
  · rintro ⟨k, c', hk, hc, he, hp⟩; cases he; exact ⟨⟨k, hk, hc, rfl⟩, hp⟩

theorem toDisplace_of_displaces {n k : Nat} {r : Call} (h : Displaces s n k r) : s.toDisplace n = some (s.handleOf k, r) := by
  obtain ⟨-, h1, h2, hr, hcase⟩ := h
  have hother : ∀ {j : Nat} {c : Call}, (s.slot j).record = some c → ((s.handleOf j, c) : Handle × Call) ≠ (s.handleOf k, r) → j ≠ k := by
    rintro j c hc hne rfl
    rw [hr] at hc; cases hc
    exact hne rfl
  unfold State.toDisplace
  rcases hcase with ⟨hend, hfirst⟩ | ⟨hlive, hlow, hbest⟩
  · have hpick : pickBy (fun a b => decide (a.2.endSeq < b.2.endSeq)) (s.alarmRecords.filter (·.2.state = .ended)) = some (s.handleOf k, r) := by
      refine pickBy_eq (mem_filter_records.2 ⟨k, r, ⟨h1, h2⟩, hr, rfl, by simpa using hend⟩) fun y hy hne => ?_
      obtain ⟨j, c, ⟨hj1, hj2⟩, hc, rfl, hp⟩ := mem_filter_records.1 hy
      have hlt := hfirst j c hj1 hj2 (hother hc hne) hc (by simpa using hp)
      exact ⟨by simpa using hlt, by simpa using hlt.le⟩
    rw [hpick]
  · have hnone : s.alarmRecords.filter (·.2.state = .ended) = [] := by
      refine List.eq_nil_iff_forall_not_mem.2 fun y hy => ?_
      obtain ⟨j, c, ⟨hj1, hj2⟩, hc, rfl, hp⟩ := mem_filter_records.1 hy
      have hp : c.state = .ended := by simpa using hp
      by_cases hjk : j = k
      · subst hjk
        rw [hr] at hc; cases hc
        rw [hp] at hlive; cases hlive
      · exact (hbest j c hj1 hj2 hjk hc).1 hp
    have hpick : pickBy stolenBefore (s.alarmRecords.filter (·.2.state.live)) = some (s.handleOf k, r) := by
      refine pickBy_eq (mem_filter_records.2 ⟨k, r, ⟨h1, h2⟩, hr, rfl, hlive⟩) fun y hy hne => ?_
      obtain ⟨j, c, ⟨hj1, hj2⟩, hc, rfl, hp⟩ := mem_filter_records.1 hy
      have hor := (hbest j c hj1 hj2 (hother hc hne) hc).2 hp
      unfold stolenBefore
      simp only [Bool.or_eq_true, Bool.and_eq_true, decide_eq_true_eq, beq_iff_eq, Bool.or_eq_false_iff, Bool.and_eq_false_imp, decide_eq_false_iff_not]
      omega
    rw [hnone, hpick]
    simpa [pickBy] using hlow

theorem toDisplace_of_noSlot {n : Nat} (h : NoSlot s n) : s.toDisplace n = none := by
  have hnone : s.alarmRecords.filter (·.2.state = .ended) = [] := by
    refine List.eq_nil_iff_forall_not_mem.2 fun y hy => ?_
    obtain ⟨j, c, ⟨hj1, hj2⟩, hc, rfl, hp⟩ := mem_filter_records.1 hy
    obtain ⟨x, hx, hne, -⟩ := h j hj1 hj2
    rw [hc] at hx; cases hx
    exact hne (by simpa using hp)
  rw [State.toDisplace, hnone]
  simp only [pickBy]
  cases hp : pickBy stolenBefore (s.alarmRecords.filter (·.2.state.live)) with
  | none => rfl
  | some y =>
    obtain ⟨j, c, ⟨hj1, hj2⟩, hc, rfl, hp⟩ := mem_filter_records.1 (pickBy_mem hp)
    obtain ⟨x, hx, -, hle⟩ := h j hj1 hj2
    rw [hc] at hx; cases hx
    have := hle hp
    simp [Option.filter]; omega

theorem obtain_lowest {n k : Nat} (h : LowestFree s k) : s.obtainAlarmSlot n = some (s, k, none) := by
  simp only [State.obtainAlarmSlot, freeAlarm_of_lowest h]

theorem obtain_displaced {n k : Nat} {r : Call} (h : Displaces s n k r) :
    s.obtainAlarmSlot n = some ((s.displace (s.handleOf k) r).1, k, some (s.displace (s.handleOf k) r).2) := by
  simp only [State.obtainAlarmSlot, freeAlarm_of_taken h.1, toDisplace_of_displaces h]; rfl

theorem obtain_none {n : Nat} (h : NoSlot s n) : s.obtainAlarmSlot n = none := by
  have ht : AllTaken s := fun j h1 h2 => by
    obtain ⟨x, hx, -⟩ := h j h1 h2
    rw [hx]; rfl
  simp only [State.obtainAlarmSlot, freeAlarm_of_taken ht, toDisplace_of_noSlot h]

end

end Sys2Proof.Calls
end

section
/-! PROOFS. The players and the calls they serve (07 R131, R133, R138; 08 R150, R153). -/

namespace Sys2Proof.Calls

open Sys2Proof.Machine

/-! ## The arbiter's two moves -/

/-- A property that a pause and a gift of a player keep, kept by the arbiter, by the pause of unheard messages and by the search of a
player for an ALARM. -/
structure ArbiterKeeps (P : State → Prop) : Prop where
  pause : ∀ s h c m i, P s → s.call h = some c → c.part = .message m → m.player = some i → P (s.pauseMessage h m)
  give : ∀ s i h c m, P s → i < 4 → (s.player i).call = none → s.call h = some c → c.part = .message m → c.state = .active →
    m.player = none → P (s.giveToMessage i h m)

theorem idlePlayer_spec {s : State} {i : Nat} (h : s.idlePlayer = some i) : i < 4 ∧ (s.player i).call = none :=
  ⟨List.mem_range.1 (List.mem_of_find?_eq_some h), by simpa using List.find?_some h⟩

theorem idlePlayer_none {s : State} (h : s.idlePlayer = none) {i : Nat} (hi : i < 4) : ∃ k, (s.player i).call = some k := by
  have := List.find?_eq_none.1 h i (List.mem_range.2 hi)
  exact Option.ne_none_iff_exists'.1 fun hn => this (by rw [hn]; rfl)

theorem victim_spec {s : State} {h : Handle} {c : Call} (hv : s.victim = some (h, c)) :
    s.call h = some c ∧ ∃ m i, c.message = some m ∧ m.player = some i := by
  obtain ⟨hmem, hp⟩ := List.mem_filter.1 (pickBy_mem hv)
  refine ⟨mem_records.1 hmem, ?_⟩
  obtain ⟨m, hm, hi⟩ := (Option.any_eq_true ..).1 hp
  obtain ⟨i, hi⟩ := Option.isSome_iff_exists.1 hi
  exact ⟨m, i, hm, hi⟩

theorem nextWaiting_spec {s : State} {h : Handle} {c : Call} (hw : s.nextWaiting = some (h, c)) :
    s.call h = some c ∧ c.state = .active ∧ ∀ m, c.message = some m → m.player = none := by
  obtain ⟨hmem, hp⟩ := List.mem_filter.1 (pickBy_mem hw)
  refine ⟨mem_records.1 hmem, ?_⟩
  cases hm : c.message with
  | none => simp [State.messageWaits, hm] at hp
  | some m =>
    simp only [State.messageWaits, hm, Bool.and_eq_true, Option.isNone_iff_eq_none, beq_iff_eq] at hp
    obtain ⟨⟨⟨hs, hpl⟩, -⟩, -⟩ := hp
    exact ⟨hs, fun m' hm' => by cases hm'; exact hpl⟩

section

variable {P : State → Prop} (hP : ArbiterKeeps P)

include hP

theorem ArbiterKeeps.pauseUnheard {s : State} (hs : P s) : P s.pauseUnheard := by
  unfold State.pauseUnheard
  generalize s.handles = l
  induction l generalizing s with
  | nil => exact hs
  | cons h l ih =>
    refine ih (?_ : P (s.pauseIfUnheard h))
    unfold State.pauseIfUnheard
    split
    · rename_i c hc
      split
      · rename_i m hm
        split
        · rename_i hp
          simp only [Bool.and_eq_true, Option.isSome_iff_exists] at hp
          obtain ⟨⟨i, hi⟩, -⟩ := hp
          exact hP.pause s h c m i hs hc (part_of_message hm) hi
        · exact hs
      · exact hs
    · exact hs

theorem ArbiterKeeps.serveRounds (n : Nat) {s : State} (hs : P s) : P (State.serveRounds n s) := by
  induction n generalizing s with
  | zero => exact hs
  | succ n ih =>
    unfold State.serveRounds
    split
    · rename_i i h c hi hw
      split
      · rename_i m hm
        obtain ⟨hlt, hidle⟩ := idlePlayer_spec hi
        obtain ⟨hc, ha, hpl⟩ := nextWaiting_spec hw
        exact ih (hP.give s i h c m hs hlt hidle hc (part_of_message hm) ha (hpl m hm))
      · exact hs
    · exact hs

theorem ArbiterKeeps.servePlayers {s : State} (hs : P s) : P s.servePlayers := hP.serveRounds 4 hs

theorem ArbiterKeeps.playerForAlarm {s : State} (hs : P s) : P s.playerForAlarm.1 := by
  unfold State.playerForAlarm
  split
  · exact hs
  · split
    · rename_i h c hv
      obtain ⟨hc, m, i, hm, hi⟩ := victim_spec hv
      rw [hm]
      exact hP.pause s h c m i hs hc (part_of_message hm) hi
    · exact hs

end

/-! ## What the players serve -/

/-- Call `h` holds player `i`: an ACTIVE message that names it, or an alarm whose step position names it. -/
def HoldsPlayer (s : State) (h : Handle) (i : Nat) : Prop :=
  ∃ c, s.call h = some c ∧ c.state.live = true ∧
    ((∃ m, c.part = .message m ∧ c.state = .active ∧ m.player = some i) ∨
      60 ≤ h.slot ∧ ∃ a x, c.part = .alarm a ∧ (s.alarmSeq h.slot).position = some x ∧ x.player = some i)

/-- An opening sweep has an endpoint taken or still to visit. -/
def Sweep.fed (sw : Sweep) : Prop := 0 < sw.taken ∨ sw.rest ≠ []

/-- The part of the invariant on players that a start of an alarm relies on. -/
structure PlayersHeld (s : State) : Prop where
  typed : ∀ h c, s.call h = some c → ((∃ a, c.part = .alarm a) ↔ 60 ≤ h.slot)
  player : ∀ i h, i < 4 → (s.player i).call = some h → HoldsPlayer s h i
  message : ∀ h c m i, s.call h = some c → c.part = .message m → m.player = some i → i < 4 ∧ (s.player i).call = some h
  phrase : ∀ k x i, 60 ≤ k → k < 64 → (s.alarmSeq k).position = some x → x.player = some i → x.kind = .phrase
  running : ∀ k x, 60 ≤ k → k < 64 → (s.alarmSeq k).position = some x → ∃ c, (s.slot k).record = some c ∧ c.state.live = true
  sweep : ∀ h c a sw, s.call h = some c → c.part = .alarm a → c.sweep = some sw → sw.kind = .opening → Sweep.fed sw

theorem type_alarm_iff {c : Call} : c.type = .alarm ↔ ∃ a, c.part = .alarm a := by
  unfold Call.type
  cases c.part <;> simp

theorem playersHeld_of_playersOk {s : State} (hc : s.callsOk) (hp : s.playersOk) : PlayersHeld s := by
  obtain ⟨-, hplayer, hmessage, hsweep, -, hseq⟩ := hp
  have htyped : ∀ h c, s.call h = some c → ((∃ a, c.part = .alarm a) ↔ 60 ≤ h.slot) := fun h c hcall => by
    rw [← (fieldsOk_of_recordOk ((inOrder_of_callsOk hc).recordOk hcall)).type, type_alarm_iff]
  have hslot : ∀ {h c a}, s.call h = some c → c.part = .alarm a → 60 ≤ h.slot := fun hcall hpart => (htyped _ _ hcall).1 ⟨_, hpart⟩
  refine ⟨htyped, fun i h hi hh => ?_, hmessage, fun k x i hk hk' hx hi => ((hseq k x hk hk' hx).2 i hi).1,
    fun k x hk hk' hx => ?_, fun h c a sw hcall hpart hsw hk => hsweep h.slot c sw (hslot hcall hpart) (record_of_call hcall) hsw hk⟩
  obtain ⟨c, hcall, hlive, ⟨m, hm, hact, hmi, -⟩ | ⟨a, x, ha, hx⟩⟩ := hplayer i h hi hh
  · exact ⟨c, hcall, hlive, .inl ⟨m, hm, hact, hmi⟩⟩
  · exact ⟨c, hcall, hlive, .inr ⟨hslot hcall ha, a, x, ha, hx⟩⟩
  · obtain ⟨c, -, hc, -, hlive⟩ := (hseq k x hk hk' hx).1
    exact ⟨c, hc, hlive⟩

theorem PlayersHeld.onePlayer {s : State} (hs : PlayersHeld s) (h : Handle) : OnePlayer s h := by
  intro i j hi hj hih hjh
  obtain ⟨c, hc, -, hci⟩ := hs.player i h hi hih
  obtain ⟨d, hd, -, hdj⟩ := hs.player j h hj hjh
  obtain rfl := Option.some.inj (hc.symm.trans hd)
  rcases hci with ⟨m, hm, -, hmi⟩ | ⟨-, a, x, ha, hx, hxi⟩ <;> rcases hdj with ⟨m', hm', -, hmj⟩ | ⟨-, a', x', ha', hx', hxj⟩
  · cases hm.symm.trans hm'; exact Option.some.inj (hmi.symm.trans hmj)
  · cases hm.symm.trans ha'
  · cases ha.symm.trans hm'
  · obtain rfl := Option.some.inj (hx.symm.trans hx'); exact Option.some.inj (hxi.symm.trans hxj)

/-! ## Changes of records that keep it -/

/-- A record that holds what it held: a live call stays live, a message keeps its part, an alarm stays one with its opening sweep fed. -/
structure HeldTo (c d : Call) : Prop where
  live : c.state.live = true → d.state.live = true
  active : c.state = .active → d.state = .active
  message : ∀ m, c.part = .message m ↔ d.part = .message m
  alarm : (∃ a, c.part = .alarm a) ↔ ∃ a, d.part = .alarm a
  sweep : ∀ a sw', c.part = .alarm a → d.sweep = some sw' → sw'.kind = .opening →
    ∃ sw, c.sweep = some sw ∧ sw.kind = .opening ∧ (Sweep.fed sw → Sweep.fed sw')

theorem HeldTo.refl (c : Call) : HeldTo c c :=
  ⟨id, id, fun _ => .rfl, .rfl, fun _ sw' _ hs hk => ⟨sw', hs, hk, id⟩⟩

theorem heldTo_of_eq {c d : Call} (hs : d.state = c.state) (hp : d.part = c.part) (hw : d.sweep = c.sweep) : HeldTo c d :=
  ⟨fun h => by rw [hs]; exact h, fun h => by rw [hs]; exact h, fun _ => by rw [hp], by rw [hp],
    fun _ sw' _ hs hk => ⟨sw', hw ▸ hs, hk, id⟩⟩

theorem rel_heldTo_refl (o : Option Call) : Option.Rel HeldTo o o := by
  cases o
  · exact .none
  · exact .some (.refl _)

/-- A record of the later state comes from one of the earlier. -/
theorem rel_back {α β : Type} {R : α → β → Prop} {o : Option α} {p : Option β} (h : Option.Rel R o p) {y : β} (hy : p = some y) :
    ∃ x, o = some x ∧ R x y := by
  cases h with
  | none => cases hy
  | some hr => cases hy; exact ⟨_, rfl, hr⟩

theorem rel_forward {α β : Type} {R : α → β → Prop} {o : Option α} {p : Option β} (h : Option.Rel R o p) {x : α} (hx : o = some x) :
    ∃ y, p = some y ∧ R x y := by
  cases h with
  | none => cases hx
  | some hr => cases hx; exact ⟨_, rfl, hr⟩

theorem rel_call {R : Call → Call → Prop} {s t : State} (hg : ∀ i, (t.slot i).gen = (s.slot i).gen)
    (hr : ∀ i, Option.Rel R (s.slot i).record (t.slot i).record) (h : Handle) : Option.Rel R (s.call h) (t.call h) := by
  rw [call_eq, call_eq, hg]
  split
  · exact hr _
  · exact .none

theorem PlayersHeld.of_records {s t : State} (hs : PlayersHeld s) (hp : t.players = s.players) (ha : t.alarms = s.alarms)
    (hr : ∀ h, Option.Rel HeldTo (s.call h) (t.call h)) : PlayersHeld t := by
  have hpl : ∀ i, t.player i = s.player i := fun i => by rw [State.player, State.player, hp]
  have hseq : ∀ i, t.alarmSeq i = s.alarmSeq i := fun i => by rw [State.alarmSeq, State.alarmSeq, ha]
  refine ⟨fun h d hd => ?_, fun i h hi hh => ?_, fun h d m i hd hm hi => ?_, fun k x i => by rw [hseq]; exact hs.phrase k x i, fun k x h1 h2 hx => ?_,
    fun h d a sw' hd hpart hsw hk => ?_⟩
  · obtain ⟨c, hc, hcd⟩ := rel_back (hr h) hd
    rw [← hcd.alarm]; exact hs.typed h c hc
  · obtain ⟨c, hc, hlive, hor⟩ := hs.player i h hi (by rw [← hpl]; exact hh)
    obtain ⟨d, hd, hcd⟩ := rel_forward (hr h) hc
    refine ⟨d, hd, hcd.live hlive, ?_⟩
    rcases hor with ⟨m, hm, hact, hmi⟩ | ⟨hslot, a, x, hal, hx, hxi⟩
    · exact .inl ⟨m, (hcd.message m).1 hm, hcd.active hact, hmi⟩
    · obtain ⟨a', ha'⟩ := hcd.alarm.1 ⟨a, hal⟩
      exact .inr ⟨hslot, a', x, ha', by rw [hseq]; exact hx, hxi⟩
  · obtain ⟨c, hc, hcd⟩ := rel_back (hr h) hd
    rw [hpl]
    exact hs.message h c m i hc ((hcd.message m).2 hm) hi
  · obtain ⟨c, hc, hlive⟩ := hs.running k x h1 h2 (by rw [← hseq]; exact hx)
    obtain ⟨d, hd, hcd⟩ := rel_forward (hr (s.handleOf k)) (call_handleOf hc)
    exact ⟨d, record_of_call hd, hcd.live hlive⟩
  · obtain ⟨c, hc, hcd⟩ := rel_back (hr h) hd
    obtain ⟨a', ha'⟩ := hcd.alarm.2 ⟨a, hpart⟩
    obtain ⟨sw, hsw', hk', hfed⟩ := hcd.sweep a' sw' ha' hsw hk
    exact hfed (hs.sweep h c a' sw hc ha' hsw' hk')

theorem PlayersHeld.congr {s t : State} (hs : PlayersHeld s) (hc : t.calls = s.calls) (hp : t.players = s.players)
    (ha : t.alarms = s.alarms) : PlayersHeld t :=
  hs.of_records hp ha fun h => by
    rw [call_congr (slot_of_calls hc h.slot)]; exact rel_heldTo_refl _

theorem PlayersHeld.updCall {s : State} (hs : PlayersHeld s) {h : Handle} {f : Call → Call} (hf : ∀ c, s.call h = some c → HeldTo c (f c)) :
    PlayersHeld (s.updCall h f) := by
  have ho := updCall_only s h f
  refine hs.of_records (by rw [ho]) (by rw [ho]) fun k => ?_
  by_cases hk : k = h
  · subst hk
    cases hc : s.call k with
    | none => rw [updCall_none hc, hc]; exact .none
    | some c => rw [call_updCall_self hc]; exact .some (hf c hc)
  · rw [call_updCall_ne hk]; exact rel_heldTo_refl _

end Sys2Proof.Calls
end

section
/-! PROOFS. What keeps the players and their calls together: the arbiter, an entry to ENDING, the freeing and the taking of a slot, and
the steps of an alarm (02 R26, R43; 07 R133 to R138; 08 R150). -/

namespace Sys2Proof.Calls

open Sys2Proof.Machine

theorem player_setPlayer {s : State} {i : Nat} (hi : i < 4) (x : Player) (j : Nat) :
    (s.setPlayer i x).player j = if i = j then x else s.player j := Table.get_set _ _ _ _ _ hi

theorem alarmSeq_setAlarmSeq {s : State} {k : Nat} (h1 : 60 ≤ k) (h2 : k < 64) (q : AlarmSeq) {j : Nat} (hj : 60 ≤ j) :
    (s.setAlarmSeq k q).alarmSeq j = if k = j then q else s.alarmSeq j := by
  rw [State.alarmSeq, State.setAlarmSeq, Table.get_set _ _ _ _ _ (by omega)]
  refine if_congr ?_ rfl rfl
  omega

/-- Two calls in one slot are one call. -/
theorem handle_eq_of_slot {s : State} {h k : Handle} {c d : Call} (hc : s.call h = some c) (hd : s.call k = some d)
    (he : k.slot = h.slot) : k = h := by
  rw [← handleOf_eq hc, ← handleOf_eq hd, he]

theorem HoldsPlayer.congr {s t : State} {h : Handle} {i : Nat} (hs : HoldsPlayer s h i) (hc : t.call h = s.call h)
    (ha : 60 ≤ h.slot → t.alarmSeq h.slot = s.alarmSeq h.slot) : HoldsPlayer t h i := by
  obtain ⟨c, hcall, hlive, hor⟩ := hs
  refine ⟨c, hc.trans hcall, hlive, hor.imp id ?_⟩
  rintro ⟨hslot, a, x, hx⟩
  exact ⟨hslot, a, x, by rw [ha hslot]; exact hx⟩

/-! ## The arbiter -/

/-- What the two moves of the arbiter change: the record of one message, and the call of one player. -/
theorem PlayersHeld.moved {s t : State} (hs : PlayersHeld s) {h : Handle} {c d : Call} {m m' : MessagePart} {i : Nat}
    (hc : s.call h = some c) (hm : c.part = .message m) (hcall : t.call h = some d) (hother : ∀ k, k ≠ h → t.call k = s.call k) (ha : t.alarms = s.alarms)
    (hpart : d.part = .message m') (hlive : d.state = c.state) (hplayer : ∀ j, j < 4 → j ≠ i → t.player j = s.player j)
    (hfree : ∀ k, (s.player i).call = some k → k = h) (hown : ∀ j, j ≠ i → j < 4 → (s.player j).call ≠ some h)
    (hi : ((t.player i).call = none ∧ m'.player = none) ∨
      (i < 4 ∧ (t.player i).call = some h ∧ m'.player = some i ∧ d.state = .active)) : PlayersHeld t := by
  have hseq : ∀ j, t.alarmSeq j = s.alarmSeq j := fun j => by rw [State.alarmSeq, State.alarmSeq, ha]
  refine ⟨fun k d' hd => ?_, fun j k hj hk => ?_, fun k d' m j hd hm hmj => ?_, fun k x j => by rw [hseq]; exact hs.phrase k x j,
    fun k x h1 h2 hx => ?_, fun k d' a sw hd hm => ?_⟩
  · by_cases hkh : k = h
    · subst hkh
      obtain rfl := Option.some.inj (hcall.symm.trans hd)
      have htyped := hs.typed k c hc
      rw [hm] at htyped
      rw [hpart, ← htyped]
      simp
    · exact hs.typed k d' ((hother k hkh).symm.trans hd)
  · by_cases hji : j = i
    · subst hji
      rcases hi with ⟨hnone, -⟩ | ⟨-, hsome, hm, hact⟩
      · rw [hnone] at hk; cases hk
      · cases hsome.symm.trans hk
        exact ⟨d, hcall, by rw [hact]; rfl, .inl ⟨m', hpart, hact, hm⟩⟩
    · rw [hplayer j hj hji] at hk
      have hne : k ≠ h := fun he => hown j hji hj (he ▸ hk)
      exact (hs.player j k hj hk).congr (hother k hne) fun _ => hseq _
  · by_cases hkh : k = h
    · subst hkh
      obtain rfl := Option.some.inj (hcall.symm.trans hd)
      cases hpart.symm.trans hm
      rcases hi with ⟨-, hnone⟩ | ⟨hlt, hsome, hm', -⟩
      · cases hnone.symm.trans hmj
      · cases hm'.symm.trans hmj; exact ⟨hlt, hsome⟩
    · obtain ⟨hj, hjk⟩ := hs.message k d' m j ((hother k hkh).symm.trans hd) hm hmj
      refine ⟨hj, ?_⟩
      rw [hplayer j hj fun hji => hkh (hfree k (hji ▸ hjk))]
      exact hjk
  · obtain ⟨c', hc', hl⟩ := hs.running k x h1 h2 (by rw [← hseq]; exact hx)
    have hc' := call_handleOf hc'
    by_cases hkh : s.handleOf k = h
    · subst hkh
      obtain rfl := Option.some.inj (hc.symm.trans hc')
      exact ⟨d, record_of_call hcall, by rw [hlive]; exact hl⟩
    · exact ⟨c', record_of_call ((hother _ hkh).trans hc'), hl⟩
  · by_cases hkh : k = h
    · subst hkh
      obtain rfl := Option.some.inj (hcall.symm.trans hd)
      cases hpart.symm.trans hm
    · exact hs.sweep k d' a sw ((hother k hkh).symm.trans hd) hm

theorem playersHeld_arbiter : ArbiterKeeps PlayersHeld where
  pause s h c m i hs hc hm hi := by
    obtain ⟨hlt, hplay⟩ := hs.message h c m i hc hm hi
    have hone := hs.onePlayer h
    refine hs.moved hc hm (h := h) (i := i) (m' := { m with offset := 0, player := none, playback := .paused })
      (d := { c with part := .message { m with offset := 0, player := none, playback := .paused } }) ?_ (fun k hk => ?_) ?_ rfl rfl
      (fun j _ hj => ?_) (fun k hk => ?_) (fun j hji hj hjh => hji (hone j i hj hlt hjh hplay)) (.inl ⟨?_, rfl⟩)
    · simp only [State.pauseMessage, hi]
      exact call_updCall_self (s := s.freePlayer i) hc _
    · simp only [State.pauseMessage, hi]
      exact call_updCall_ne (s := s.freePlayer i) hk _
    · rw [pauseMessage_only s h m]
    · simp only [State.pauseMessage, hi]
      rw [State.player, (updCall_only _ _ _).places.players]
      exact (player_freePlayer hlt j).trans (if_neg (Ne.symm hj))
    · exact Option.some.inj (hk.symm.trans hplay)
    · simp only [State.pauseMessage, hi]
      rw [State.player, (updCall_only _ _ _).places.players]
      exact congrArg Player.call ((player_freePlayer hlt i).trans (if_pos rfl))
  give s i h c m hs hi hidle hc hm ha hmp := by
    refine hs.moved hc hm (h := h) (i := i) (m' := { m with player := some i, playback := .playing })
      (call_updCall_self (s := s.setPlayer i _) hc _) (fun k hk => call_updCall_ne (s := s.setPlayer i _) hk _) ?_ rfl rfl
      (fun j _ hj => ?_) (fun k hk => ?_) (fun j _ hj hjh => ?_) (.inr ⟨hi, ?_, rfl, ha⟩)
    · rw [giveToMessage_only s i h m]
    · rw [State.giveToMessage, State.player, (updCall_only _ _ _).places.players]
      exact (player_setPlayer hi _ j).trans (if_neg (Ne.symm hj))
    · rw [hidle] at hk; cases hk
    · obtain ⟨d, hd, -, ⟨m', hm', -, hmj⟩ | ⟨-, a, -, ha, -⟩⟩ := hs.player j h hj hjh <;> obtain rfl := Option.some.inj (hc.symm.trans hd)
      · cases hm.symm.trans hm'
        cases hmp.symm.trans hmj
      · cases hm.symm.trans ha
    · rw [State.giveToMessage, State.player, (updCall_only _ _ _).places.players]
      exact congrArg Player.call ((player_setPlayer hi _ i).trans (if_pos rfl))

/-! ## ENDING, FREE and taken slots -/

theorem PlayersHeld.enterEnding {s : State} (hs : PlayersHeld s) {h : Handle} {c : Call} (hc : s.call h = some c)
    (x : EndReason) : PlayersHeld (s.enterEnding h c x) := by
  have hslot : c.type = .alarm ↔ 60 ≤ h.slot := type_alarm_iff.trans (hs.typed h c hc)
  have hpl := fun {j} hj => player_enterEnding (hs.onePlayer h) c x (j := j) hj
  have hcall := call_enterEnding hc x
  have hother : ∀ k d, k ≠ h → s.call k = some d → (s.enterEnding h c x).call k = s.call k := fun k d hk hd =>
    call_congr (by rw [slot_enterEnding hc, if_neg fun he => hk (handle_eq_of_slot hc hd he.symm)])
  have hback : ∀ k d, k ≠ h → (s.enterEnding h c x).call k = some d → s.call k = some d := fun k d hk hd => by
    have hne : h.slot ≠ k.slot := fun he => by
      have h1 := slot_of_call hd
      rw [slot_enterEnding hc, if_pos he] at h1
      exact hk (handle_ext he.symm (congrArg CallSlot.gen h1).symm)
    rw [← hd]
    exact (call_congr (by rw [slot_enterEnding hc, if_neg hne])).symm
  have hseq : ∀ j, 60 ≤ j → ((s.enterEnding h c x).alarmSeq j = s.alarmSeq j ∨ (j = h.slot ∧ (s.enterEnding h c x).alarmSeq j = .initial)) := by
    intro j hj
    rw [State.alarmSeq, (enterEnding_alarms s h c x).1]
    by_cases ht : c.type = .alarm
    · have h1 := hslot.1 ht
      have h2 := slot_lt_of_call hc
      rw [if_pos ht, Table.get_set _ _ _ _ _ (by omega)]
      by_cases he : h.slot = j
      · exact .inr ⟨he.symm, if_pos (by omega)⟩
      · exact .inl (if_neg (by omega))
    · rw [if_neg ht]; exact .inl rfl
  refine ⟨fun k d hd => ?_, fun j k hj hk => ?_, fun k d m j hd hm hmj => ?_, fun k y j h1 h2 hy hyj => ?_,
    fun k y h1 h2 hy => ?_, fun k d a sw hd hp hsw => ?_⟩
  · by_cases hkh : k = h
    · subst hkh
      obtain rfl := Option.some.inj (hcall.symm.trans hd)
      rw [← type_alarm_iff, endingPart_type, hslot]
    · exact hs.typed k d (hback k d hkh hd)
  · rw [hpl hj] at hk
    by_cases hjh : (s.player j).call = some h
    · rw [if_pos hjh] at hk; cases hk
    · rw [if_neg hjh] at hk
      have hne : k ≠ h := fun he => hjh (he ▸ hk)
      have hheld := hs.player j k hj hk
      obtain ⟨d, hd, -⟩ := hheld
      exact (hs.player j k hj hk).congr (hother k d hne hd) fun hk60 =>
        (hseq k.slot hk60).resolve_right fun he => hne (handle_eq_of_slot hc hd he.1)
  · by_cases hkh : k = h
    · subst hkh
      obtain rfl := Option.some.inj (hcall.symm.trans hd)
      have hover := (over_endingPart s k c.part).message m hm
      cases hover.1.symm.trans hmj
    · obtain ⟨hj, hjk⟩ := hs.message k d m j (hback k d hkh hd) hm hmj
      refine ⟨hj, ?_⟩
      rw [hpl hj, if_neg fun he => hkh (Option.some.inj (hjk.symm.trans he))]
      exact hjk
  · rcases hseq k h1 with he | ⟨-, he⟩ <;> rw [he] at hy
    · exact hs.phrase k y j h1 h2 hy hyj
    · cases hy
  · rcases hseq k h1 with he | ⟨-, he⟩ <;> rw [he] at hy
    · obtain ⟨d, hd, hl⟩ := hs.running k y h1 h2 hy
      have hne : h.slot ≠ k := fun hk => by
        rw [← he, State.alarmSeq, (enterEnding_alarms s h c x).1, if_pos (hslot.2 (hk ▸ h1)), hk, Table.get_set_self _ _ _ _ (by omega)] at hy
        cases hy
      exact ⟨d, by rw [slot_enterEnding hc, if_neg hne]; exact hd, hl⟩
    · cases hy
  · by_cases hkh : k = h
    · subst hkh
      obtain rfl := Option.some.inj (hcall.symm.trans hd)
      cases hsw
    · exact hs.sweep k d a sw (hback k d hkh hd) hp hsw

theorem call_freeRecord_ne {s : State} {h k : Handle} {c : Call} (hc : s.call h = some c) (hk : k ≠ h) :
    (s.freeRecord h).call k = s.call k := by
  rw [call_eq, call_eq, slot_freeRecord (slot_lt_of_call hc) (congrArg CallSlot.gen (slot_of_call hc))]
  split
  · next he =>
    rw [← he, slot_of_call hc, if_neg, if_neg]
    all_goals exact fun hg => hk (handle_ext he.symm hg.symm)
  · rfl

theorem call_freeRecord {s : State} {h : Handle} {c : Call} (hc : s.call h = some c) : (s.freeRecord h).call h = none := by
  rw [call_eq, slot_freeRecord (slot_lt_of_call hc) (congrArg CallSlot.gen (slot_of_call hc)), if_pos rfl]
  simp

theorem PlayersHeld.freeRecord {s : State} (hs : PlayersHeld s) {h : Handle} {c : Call} (hc : s.call h = some c)
    (hidle : 60 ≤ h.slot → (s.alarmSeq h.slot).position = none) (hno : ∀ i, i < 4 → (s.player i).call ≠ some h) : PlayersHeld (s.freeRecord h) := by
  have hnone := call_freeRecord hc
  have hother := fun {k} hk => call_freeRecord_ne (k := k) hc hk
  have hback : ∀ k d, (s.freeRecord h).call k = some d → s.call k = some d := fun k d hd => by
    rw [← hother fun he => by rw [he, hnone] at hd; cases hd]; exact hd
  refine ⟨fun k d hd => hs.typed k d (hback k d hd), fun i k hi hk => (hs.player i k hi hk).congr (hother fun he => hno i hi (he ▸ hk)) fun _ => rfl,
    fun k d m i hd => hs.message k d m i (hback k d hd), hs.phrase, fun k x h1 h2 hx => ?_, fun k d a sw hd => hs.sweep k d a sw (hback k d hd)⟩
  obtain ⟨d, hd, hl⟩ := hs.running k x h1 h2 hx
  refine ⟨d, record_of_call ((hother (k := s.handleOf k) fun he => ?_).trans (call_handleOf hd)), hl⟩
  have hk : h.slot = k := by rw [← he]; rfl
  have hnone := hidle (by omega)
  rw [hk] at hnone
  cases hnone.symm.trans hx

/-- A call that is not live holds no player. -/
theorem PlayersHeld.not_served {s : State} (hs : PlayersHeld s) {h : Handle} {c : Call} (hc : s.call h = some c)
    (hl : c.state.live = false) : ∀ i, i < 4 → (s.player i).call ≠ some h := fun i hi hh => by
  obtain ⟨d, hd, hlive, -⟩ := hs.player i h hi hh
  obtain rfl := Option.some.inj (hc.symm.trans hd)
  rw [hl] at hlive; cases hlive

/-- No player serves a call in slot `k`. -/
def Unserved (s : State) (k : Nat) : Prop := ∀ i h, i < 4 → (s.player i).call = some h → h.slot ≠ k

theorem PlayersHeld.unserved {s : State} (hs : PlayersHeld s) {k : Nat} (hf : (s.slot k).record = none) : Unserved s k := by
  rintro i h hi hh rfl
  obtain ⟨c, hc, -⟩ := hs.player i h hi hh
  rw [record_of_call hc] at hf; cases hf

theorem slot_takeSlot {s : State} {k : Nat} (hk : k < 64) (c : Call) (j : Nat) :
    (s.takeSlot k c).slot j = if k = j then ⟨((s.slot k).gen + 1) % 256, some { c with openSeq := s.seq }⟩ else s.slot j :=
  slot_set _ hk j

theorem PlayersHeld.takeSlot {s : State} (hs : PlayersHeld s) {k : Nat} (hk : k < 64) (h60 : 60 ≤ k) (hf : (s.slot k).record = none) {c : Call}
    {a : AlarmPart} (hpart : c.part = .alarm a) (hsw : ∀ sw, c.sweep = some sw → sw.kind = .opening → Sweep.fed sw) :
    PlayersHeld (s.takeSlot k c) := by
  have hother : ∀ h, h.slot ≠ k → (s.takeSlot k c).call h = s.call h := fun h hh =>
    call_congr (by rw [slot_takeSlot hk, if_neg (Ne.symm hh)])
  have hnew : ∀ h d, h.slot = k → (s.takeSlot k c).call h = some d → d.part = c.part ∧ d.sweep = c.sweep := fun h d hh hd => by
    have h1 := slot_of_call hd
    rw [slot_takeSlot hk, if_pos hh.symm] at h1
    obtain rfl := Option.some.inj (congrArg CallSlot.record h1)
    exact ⟨rfl, rfl⟩
  have hun := hs.unserved hf
  refine ⟨fun h d hd => ?_, fun i h hi hh => (hs.player i h hi hh).congr (hother h (hun i h hi hh)) fun _ => rfl,
    fun h d m i hd hdm hmi => ?_, hs.phrase,
    fun j x h1 h2 hx => ?_, fun h d a sw hd ha hw ho => ?_⟩
  · by_cases hh : h.slot = k
    · exact ⟨fun _ => by omega, fun _ => ⟨a, (hnew h d hh hd).1.trans hpart⟩⟩
    · exact hs.typed h d ((hother h hh).symm.trans hd)
  · by_cases hh : h.slot = k
    · cases ((hnew h d hh hd).1.trans hpart).symm.trans hdm
    · exact hs.message h d m i ((hother h hh).symm.trans hd) hdm hmi
  · obtain ⟨d, hd, hl⟩ := hs.running j x h1 h2 hx
    refine ⟨d, ?_, hl⟩
    rw [slot_takeSlot hk, if_neg, hd]
    rintro rfl
    rw [hf] at hd; cases hd
  · by_cases hh : h.slot = k
    · exact hsw sw ((hnew h d hh hd).2.symm.trans hw) ho
    · exact hs.sweep h d a sw ((hother h hh).symm.trans hd) ha hw ho

/-! ## The steps of an alarm -/

theorem PlayersHeld.setAlarmSeq {s : State} (hs : PlayersHeld s) {k : Nat} (h1 : 60 ≤ k) (h2 : k < 64) (hu : Unserved s k) {c : Call}
    (hc : (s.slot k).record = some c) (hlive : c.state.live = true) {q : AlarmSeq} (hq : ∀ x i, q.position = some x → x.player = some i → x.kind = .phrase) : PlayersHeld (s.setAlarmSeq k q) := by
  have hseq := fun {j} hj => alarmSeq_setAlarmSeq (s := s) h1 h2 q (j := j) hj
  refine ⟨hs.typed, fun i h hi hh => (hs.player i h hi hh).congr rfl fun h60 => ?_, hs.message, fun j x i hj hj' hx hxi => ?_,
    fun j x hj hj' hx => ?_, hs.sweep⟩
  · rw [hseq h60, if_neg (Ne.symm (hu i h hi hh))]
  · rw [hseq hj] at hx
    split at hx
    · exact hq x i hx hxi
    · exact hs.phrase j x i hj hj' hx hxi
  · rw [hseq hj] at hx
    split at hx
    · next he => exact ⟨c, he ▸ hc, hlive⟩
    · exact hs.running j x hj hj' hx

theorem heldTo_markSubstituted {c : Call} {a : AlarmPart} (h : c.part = .alarm a) :
    HeldTo c { c with part := .alarm { a with substituted := true } } :=
  ⟨id, id, fun m => by rw [h]; exact ⟨nofun, nofun⟩, ⟨fun _ => ⟨_, rfl⟩, fun _ => ⟨a, h⟩⟩, fun _ sw' _ hs hk => ⟨sw', hs, hk, id⟩⟩

theorem PlayersHeld.markSubstituted {s : State} (hs : PlayersHeld s) (h : Handle) : PlayersHeld (s.markSubstituted h) :=
  hs.updCall fun c _ => by
    split
    · next a ha => exact heldTo_markSubstituted ha
    · exact .refl c

end Sys2Proof.Calls
end

section
/-! PROOFS. The beginning of an alarm's step, and the player that an alarm receives (07 R137, R138; 08 R150 to R153). -/

namespace Sys2Proof.Calls

open Sys2Proof.Machine

/-- An alarm stands in slot `k`, and no player serves it. -/
structure AwaitsStep (s : State) (h : Handle) (c : Call) (a : AlarmPart) : Prop where
  held : PlayersHeld s
  call : s.call h = some c
  part : c.part = .alarm a
  live : c.state.live = true
  unserved : Unserved s h.slot

theorem AwaitsStep.low {s : State} {h : Handle} {c : Call} {a : AlarmPart} (hs : AwaitsStep s h c a) : 60 ≤ h.slot :=
  (hs.held.typed h c hs.call).1 ⟨a, hs.part⟩

theorem alarm_ne_message {s : State} {h k : Handle} {c d : Call} {a : AlarmPart} {m : MessagePart} (hc : s.call h = some c)
    (ha : c.part = .alarm a) (hd : s.call k = some d) (hm : d.part = .message m) : k.slot ≠ h.slot := fun he => by
  obtain rfl := handle_eq_of_slot hc hd he
  obtain rfl := Option.some.inj (hc.symm.trans hd)
  cases ha.symm.trans hm

/-- The arbiter leaves an alarm's slot as it is, and gives its call no player. -/
theorem arbiter_awaits (h : Handle) (c : Call) (a : AlarmPart) : ArbiterKeeps fun s => AwaitsStep s h c a where
  pause s k d m i hs hd hm hi := by
    have hne := alarm_ne_message hs.call hs.part hd hm
    refine ⟨playersHeld_arbiter.pause s k d m i hs.held hd hm hi, ?_, hs.part, hs.live, fun j q hj hq => ?_⟩
    · simp only [State.pauseMessage, hi]
      exact (call_updCall_ne (s := s.freePlayer i) (fun he => hne (by rw [he])) _).trans hs.call
    · simp only [State.pauseMessage, hi] at hq
      rw [State.player, (updCall_only _ _ _).places.players] at hq
      obtain ⟨hlt, -⟩ := hs.held.message k d m i hd hm hi
      change ((s.freePlayer i).player j).call = some q at hq
      rw [player_freePlayer hlt] at hq
      split at hq
      · cases hq
      · exact hs.unserved j q hj hq
  give s i k d m hs hi hidle hd hm ha hmp := by
    have hne := alarm_ne_message hs.call hs.part hd hm
    refine ⟨playersHeld_arbiter.give s i k d m hs.held hi hidle hd hm ha hmp, ?_, hs.part, hs.live, fun j q hj hq => ?_⟩
    · exact (call_updCall_ne (s := s.setPlayer i _) (fun he => hne (by rw [he])) _).trans hs.call
    · rw [State.giveToMessage, State.player, (updCall_only _ _ _).places.players] at hq
      change ((s.setPlayer i _).player j).call = some q at hq
      rw [player_setPlayer hi] at hq
      split at hq
      · cases hq; exact hne
      · exact hs.unserved j q hj hq

/-! ## A player for an alarm -/

/-- The player that an ALARM receives is one of the four, and IDLE. -/
theorem playerForAlarm_idle {s : State} (hs : PlayersHeld s) {i : Nat} (hi : s.playerForAlarm.2 = some i) :
    i < 4 ∧ (s.playerForAlarm.1.player i).call = none := by
  unfold State.playerForAlarm at hi ⊢
  split at hi
  · rename_i j hj
    cases hi
    exact idlePlayer_spec hj
  · rename_i hj
    split at hi
    · rename_i k c hv
      obtain ⟨hc, m, j, hm, hmj⟩ := victim_spec hv
      simp only [hm] at hi ⊢
      cases hmj.symm.trans hi
      obtain ⟨hlt, -⟩ := hs.message k c m i hc (part_of_message hm) hi
      refine ⟨hlt, ?_⟩
      simp only [State.pauseMessage, hi]
      rw [State.player, (updCall_only _ _ _).places.players]
      exact congrArg Player.call ((player_freePlayer hlt i).trans (if_pos rfl))
    · cases hi

/-- The slot of the call that a player serves. -/
def servedSlot (s : State) (i : Nat) : Nat := ((s.player i).call.map Handle.slot).getD 0

/-- With an alarm slot that no player serves, one of the four players is IDLE or held by a message. -/
theorem playerForAlarm_isSome {s : State} (hs : PlayersHeld s) {k : Nat} (h1 : 60 ≤ k) (h2 : k < 64) (hu : Unserved s k) :
    ∃ i, s.playerForAlarm.2 = some i := by
  unfold State.playerForAlarm
  split
  · exact ⟨_, rfl⟩
  · rename_i hidle
    split
    · rename_i q c hv
      obtain ⟨-, m, i, hm, hi⟩ := victim_spec hv
      exact ⟨i, by rw [hm]; exact hi⟩
    · rename_i hv
      exfalso
      have hnone : ∀ q c m i, s.call q = some c → c.part = .message m → m.player ≠ some i := fun q c m i hc hm hi => by
        have hmem : (q, c) ∈ s.records.filter fun r => r.2.message.any (·.player.isSome) :=
          List.mem_filter.2 ⟨mem_records.2 hc, by simp [Call.message, hm, hi]⟩
        have hne : s.records.filter (fun r => r.2.message.any (·.player.isSome)) ≠ [] := List.ne_nil_of_mem hmem
        exact pickBy_ne_none hne hv
      have hserved : ∀ i, i < 4 → ∃ q x, (s.player i).call = some q ∧ servedSlot s i = q.slot ∧ 60 ≤ q.slot ∧ q.slot < 64 ∧
          (s.alarmSeq q.slot).position = some x ∧ x.player = some i := fun i hi => by
        obtain ⟨q, hq⟩ := idlePlayer_none hidle hi
        obtain ⟨c, hc, -, ⟨m, hm, -, hmi⟩ | ⟨hslot, a, x, -, hx, hxi⟩⟩ := hs.player i q hi hq
        · exact absurd hmi (hnone q c m i hc hm)
        · exact ⟨q, x, hq, by rw [servedSlot, hq]; rfl, hslot, slot_lt_of_call hc, hx, hxi⟩
      have hmaps : ∀ i ∈ Finset.range 4, servedSlot s i ∈ (Finset.Ico 60 64).erase k := fun i hi => by
        obtain ⟨q, x, hq, he, hq1, hq2, -⟩ := hserved i (Finset.mem_range.1 hi)
        rw [Finset.mem_erase, Finset.mem_Ico, he]
        exact ⟨hu i q (Finset.mem_range.1 hi) hq, hq1, hq2⟩
      have hcard : ((Finset.Ico 60 64).erase k).card < (Finset.range 4).card := by
        rw [Finset.card_erase_of_mem (Finset.mem_Ico.2 ⟨h1, h2⟩)]; decide
      obtain ⟨i, hi, j, hj, hne, he⟩ := Finset.exists_ne_map_eq_of_card_lt_of_maps_to hcard hmaps
      obtain ⟨q, x, -, hqi, -, -, hx, hxi⟩ := hserved i (Finset.mem_range.1 hi)
      obtain ⟨q', x', -, hqj, -, -, hx', hxj⟩ := hserved j (Finset.mem_range.1 hj)
      rw [hqi, hqj] at he
      rw [he, hx'] at hx
      cases hx
      exact hne (Option.some.inj (hxi.symm.trans hxj))

/-! ## The beginning of a step -/

theorem PlayersHeld.startPhrase {s : State} {h : Handle} {c : Call} {a : AlarmPart} (hs : AwaitsStep s h c a) {i : Nat} (hi : i < 4)
    (hidle : (s.player i).call = none) {pl : Player} (hpl : pl.call = some h) {q : AlarmSeq} {x : StepPosition}
    (hx : q.position = some x) (hxi : x.player = some i) (hk : x.kind = .phrase) :
    PlayersHeld ((s.setPlayer i pl).setAlarmSeq h.slot q) := by
  have h2 := slot_lt_of_call hs.call
  have hseq : ∀ {j}, 60 ≤ j → ((s.setPlayer i pl).setAlarmSeq h.slot q).alarmSeq j = if h.slot = j then q else s.alarmSeq j :=
    fun hj => alarmSeq_setAlarmSeq hs.low h2 q hj
  have hplay := fun j => player_setPlayer (s := s) hi pl j
  refine ⟨hs.held.typed, fun j k hj hk => ?_, fun k d m j hd hm hmj => ?_, fun j y n h1 h2 hy hyn => ?_, fun j y h1 h2 hy => ?_, hs.held.sweep⟩
  · change ((s.setPlayer i pl).player j).call = some k at hk
    rw [hplay] at hk
    split at hk
    · next he =>
      subst he
      cases hpl.symm.trans hk
      exact ⟨c, hs.call, hs.live, .inr ⟨hs.low, a, x, hs.part, by rw [hseq hs.low, if_pos rfl]; exact hx, hxi⟩⟩
    · refine (hs.held.player j k hj hk).congr rfl fun h60 => ?_
      rw [hseq h60, if_neg (Ne.symm (hs.unserved j k hj hk))]
  · obtain ⟨hj, hjk⟩ := hs.held.message k d m j hd hm hmj
    refine ⟨hj, ?_⟩
    change ((s.setPlayer i pl).player j).call = some k
    rw [hplay, if_neg, hjk]
    rintro rfl
    cases hidle.symm.trans hjk
  · rw [hseq h1] at hy
    split at hy
    · cases hx.symm.trans hy; exact hk
    · exact hs.held.phrase j y n h1 h2 hy hyn
  · rw [hseq h1] at hy
    split at hy
    · next he => exact ⟨c, he ▸ record_of_call hs.call, hs.live⟩
    · exact hs.held.running j y h1 h2 hy

theorem AwaitsStep.setAlarmSeq {s : State} {h : Handle} {c : Call} {a : AlarmPart} (hs : AwaitsStep s h c a) {q : AlarmSeq}
    (hq : ∀ x, q.position = some x → x.player = none) : PlayersHeld (s.setAlarmSeq h.slot q) :=
  hs.held.setAlarmSeq hs.low (slot_lt_of_call hs.call) hs.unserved (record_of_call hs.call) hs.live fun x i hx hxi => by
    rw [hq x hx] at hxi; cases hxi

/-- A PHRASE step's position. -/
def phrasePosition (rep idx i : Nat) : StepPosition :=
  { repeatNo := rep, index := idx, kind := .phrase, framesLeft := 0, player := some i, onF2 := false, toSwitch := 0 }

theorem beginPhrase_eq {s : State} {h : Handle} {rep idx id i : Nat} (hi : s.playerForAlarm.2 = some i) :
    s.beginPhrase h rep idx id = (s.playerForAlarm.1.setPlayer i ⟨some h, some id, 0, false, 0⟩).setAlarmSeq h.slot
      { s.playerForAlarm.1.alarmSeq h.slot with position := some (phrasePosition rep idx i) } := by
  simp only [State.beginPhrase, hi]
  rfl

/-- A PHRASE step of an alarm: it has one of the four players. -/
theorem beginPhrase_spec {s : State} {h : Handle} {c : Call} {a : AlarmPart} (hs : AwaitsStep s h c a) (rep idx id : Nat) :
    PlayersHeld (s.beginPhrase h rep idx id) ∧ ∃ i, i < 4 ∧
      (s.beginPhrase h rep idx id).player i = ⟨some h, some id, 0, false, 0⟩ ∧
      ((s.beginPhrase h rep idx id).alarmSeq h.slot).position = some (phrasePosition rep idx i) ∧
      (s.beginPhrase h rep idx id).call h = some c := by
  obtain ⟨i, hi⟩ := playerForAlarm_isSome hs.held hs.low (slot_lt_of_call hs.call) hs.unserved
  obtain ⟨hlt, hidle⟩ := playerForAlarm_idle hs.held hi
  have hv := (arbiter_awaits h c a).playerForAlarm hs
  rw [beginPhrase_eq hi]
  refine ⟨.startPhrase hv hlt hidle rfl rfl rfl rfl, i, hlt, ?_, ?_, hv.call⟩
  · exact (player_setPlayer hlt _ i).trans (if_pos rfl)
  · exact congrArg AlarmSeq.position ((alarmSeq_setAlarmSeq hs.low (slot_lt_of_call hs.call) _ hs.low).trans (if_pos rfl))

theorem beginStep_held {s : State} {h : Handle} {c : Call} {a : AlarmPart} (hs : AwaitsStep s h c a) (g : AlarmProgram) (rep idx : Nat) :
    PlayersHeld (s.beginStep h g rep idx) := by
  unfold State.beginStep
  split
  · exact hs.held
  · exact hs.setAlarmSeq fun x hx => by cases hx; rfl
  · exact hs.setAlarmSeq fun x hx => by cases hx; rfl
  · split
    · exact (beginPhrase_spec hs rep idx _).1
    · exact (hs.setAlarmSeq fun x hx => by cases hx; rfl).markSubstituted h

/-- A step that begins in a state with the same phrases has begun. -/
theorem stepBegun_beginStep {s v : State} {h : Handle} {c : Call} {a : AlarmPart} (hs : AwaitsStep v h c a) (hp : v.phrases = s.phrases)
    (g : AlarmProgram) (rep idx : Nat) : StepBegun s (v.beginStep h g rep idx) h.slot g rep idx := by
  have h2 := slot_lt_of_call hs.call
  have hseq := fun q => (alarmSeq_setAlarmSeq (s := v) hs.low h2 q hs.low).trans (if_pos rfl)
  have hphrase : ∀ id, v.phrase id = s.phrase id := fun id => by rw [State.phrase, State.phrase, hp]
  unfold StepBegun State.beginStep
  cases g.steps[idx]? with
  | none => trivial
  | some st =>
    cases st with
    | tone ms => exact hseq _
    | silence ms => exact congrArg AlarmSeq.position (hseq _)
    | phrase id =>
      dsimp only
      rw [hphrase]
      split
      · obtain ⟨-, i, hi, hpl, hpos, hcall⟩ := beginPhrase_spec hs rep idx id
        exact ⟨i, hi, by rw [hpl]; simp only [handleOf_eq hcall], hpos⟩
      · have ho := updCall_only (v.setAlarmSeq h.slot (toneStart g rep idx .substituted (framesOfMs (s.phrase id).substituteMs))) h
        refine ⟨?_, ?_⟩
        · rw [State.markSubstituted, State.alarmSeq, ho]
          exact hseq _
        · refine ⟨_, { a with substituted := true }, record_of_call (call_updCall_self (s := v.setAlarmSeq _ _) hs.call _), ?_, rfl⟩
          simp only [hs.part]

end Sys2Proof.Calls
end

section
/-! PROOFS. The commands that may release an alarm slot, and the start of an alarm, keep the players and their calls together (02 R26 to R36;
07 R131, R138; 08 R143, R144, R150). -/

namespace Sys2Proof.Calls

open Sys2Proof.Machine

section

variable {s : State} (hs : PlayersHeld s)

include hs

theorem PlayersHeld.endCall (h : Handle) (x : EndReason) : PlayersHeld (s.endCall h x) := by
  rcases endCall_cases s h x with ⟨c, hc, -, he⟩ | ⟨-, he⟩ <;> rw [he]
  · exact hs.enterEnding hc x
  · exact hs

theorem PlayersHeld.ports {t : State} (ht : OnlyPorts s t) : PlayersHeld t := hs.congr ht.calls (by rw [ht]) (by rw [ht])

theorem PlayersHeld.idle_position {h : Handle} {c : Call} (hc : s.call h = some c) (hl : c.state.live = false) (h60 : 60 ≤ h.slot) :
    (s.alarmSeq h.slot).position = none := by
  by_contra hne
  obtain ⟨x, hx⟩ := Option.ne_none_iff_exists'.1 hne
  obtain ⟨d, hd, hlive⟩ := hs.running h.slot x h60 (slot_lt_of_call hc) hx
  obtain rfl := Option.some.inj ((record_of_call hc).symm.trans hd)
  rw [hl] at hlive; cases hlive

/-- A record that is not live may become FREE. -/
theorem PlayersHeld.freeOver {h : Handle} {c : Call} (hc : s.call h = some c) (hl : c.state.live = false) : PlayersHeld (s.freeRecord h) :=
  hs.freeRecord hc (hs.idle_position hc hl) (hs.not_served hc hl)

/-! ## The settling of an event -/

theorem PlayersHeld.endFadedAt (h : Handle) : PlayersHeld (s.endFadedAt h) := by
  unfold State.endFadedAt
  split
  · rename_i c hc
    split
    · rename_i he
      have hslot := fun j => slot_setRecord (s := s) (some { c with state := .ended, endSeq := s.seq }) (slot_lt_of_call hc) j
      have hcalls : PlayersHeld (s.setRecord h.slot (some { c with state := .ended, endSeq := s.seq })) := by
        refine hs.of_records rfl rfl fun k => ?_
        rw [call_eq, call_eq, hslot]
        by_cases hk : h.slot = k.slot
        · have hsk := slot_of_call hc
          rw [if_pos hk, ← hk, hsk]
          split
          · refine .some ⟨fun hl => ?_, fun hl => ?_, fun _ => .rfl, .rfl, fun _ sw' _ hs hk => ⟨sw', hs, hk, id⟩⟩
            · rw [he.1] at hl; cases hl
            · cases he.1.symm.trans hl
          · exact .none
        · rw [if_neg hk]; exact rel_heldTo_refl _
      exact hcalls.congr rfl rfl rfl
    · exact hs
  · exact hs

omit hs in
theorem PlayersHeld.foldl {α : Type} {f : State → α → State} (hf : ∀ s x, PlayersHeld s → PlayersHeld (f s x)) (l : List α) {s : State}
    (hs : PlayersHeld s) : PlayersHeld (l.foldl f s) := by
  induction l generalizing s with
  | nil => exact hs
  | cons x l ih => exact ih (hf s x hs)

theorem PlayersHeld.servePlayers : PlayersHeld s.servePlayers := playersHeld_arbiter.servePlayers hs

theorem PlayersHeld.settleCalls : PlayersHeld s.settleCalls :=
  (PlayersHeld.foldl (fun _ h hs => hs.endFadedAt h) _ (playersHeld_arbiter.pauseUnheard hs)).servePlayers

end

/-! ## The start of an alarm -/

theorem PlayersHeld.displace {s : State} (hs : PlayersHeld s) {h : Handle} {c : Call} (hc : s.call h = some c)
    (hst : c.state = .ended ∨ c.state.live = true) : PlayersHeld (s.displace h c).1 := by
  unfold State.displace
  split
  · rename_i he
    exact (hs.congr rfl rfl rfl : PlayersHeld (s.stopExpiry h)).freeOver hc (by rw [he]; rfl)
  · rename_i hne
    have hlive := hst.resolve_left hne
    rw [endCall_live hc hlive]
    exact ((hs.enterEnding hc .displaced).freeOver (call_enterEnding hc .displaced) rfl).servePlayers

/-- The slot of a displaced record is FREE. -/
theorem displace_free {s : State} {h : Handle} {c : Call} (hc : s.call h = some c) : ((s.displace h c).1.slot h.slot).record = none := by
  unfold State.displace
  split
  · exact record_freeRecord (slot_lt_of_call hc)
  · exact (follow_servePlayers _).free (record_freeRecord (slot_lt_of_call hc))

/-- A new alarm in a FREE slot awaits its first step. -/
theorem awaits_takeSlot {s : State} (hs : PlayersHeld s) {k : Nat} (h60 : 60 ≤ k) (h64 : k < 64) (hf : (s.slot k).record = none)
    {p : Port} {id : Nat} {g : AlarmProgram} {sw : Sweep} (hsw : Sweep.fed sw) :
    AwaitsStep (s.takeSlot k (Call.newAlarm p id g sw)) ((s.takeSlot k (Call.newAlarm p id g sw)).handleOf k)
      { Call.newAlarm p id g sw with openSeq := s.seq } { program := id, substituted := false, unserved := 0 } where
  held := hs.takeSlot h64 h60 hf rfl fun sw' h _ => by cases h; exact hsw
  call := call_handleOf (by rw [slot_takeSlot h64, if_pos rfl])
  part := rfl
  live := rfl
  unserved := hs.unserved hf

theorem PlayersHeld.openAlarm {s : State} (hs : PlayersHeld s) {k : Nat} (h60 : 60 ≤ k) (h64 : k < 64) (hf : (s.slot k).record = none)
    {p : Port} {id : Nat} {g : AlarmProgram} {sw : Sweep} (hsw : Sweep.fed sw) : PlayersHeld (s.openAlarm p id g sw k) :=
  beginStep_held (awaits_takeSlot hs h60 h64 hf hsw) g 1 0

theorem PlayersHeld.startProgram {s : State} (hs : PlayersHeld s) (p : Port) (id : Nat) (ans : Bool) (g : AlarmProgram) :
    PlayersHeld (s.startProgram p id ans g).state := by
  unfold State.startProgram
  split
  · exact hs
  · dsimp only
    split
    · exact hs
    · rename_i hrest
      split
      · exact hs
      · rename_i s1 i d ho
        unfold State.obtainAlarmSlot at ho
        split at ho
        · rename_i j hj
          cases ho
          obtain ⟨h1, h2⟩ := mem_alarmSlots (List.mem_of_find?_eq_some hj)
          exact hs.openAlarm h1 h2 (by simpa using List.find?_some hj) (.inr hrest)
        · split at ho
          · rename_i h c ht
            cases ho
            obtain ⟨hm, hst⟩ := mem_of_toDisplace ht
            obtain ⟨hc, h1, h2⟩ := mem_alarmRecords hm
            exact (hs.displace hc hst).openAlarm h1 h2 (displace_free hc) (.inr hrest)
          · cases ho

theorem PlayersHeld.startAlarm {s : State} (hs : PlayersHeld s) (p : Port) (id : Nat) (ans : Bool) : PlayersHeld (s.startAlarm p id ans).state := by
  unfold State.startAlarm
  split
  · exact hs
  · split
    · exact hs
    · exact hs.startProgram p id ans _

/-! ## The end of a step -/

theorem PlayersHeld.nextStep {s : State} {h : Handle} {c : Call} {a : AlarmPart} (hs : AwaitsStep s h c a) (g : AlarmProgram)
    (x : StepPosition) : PlayersHeld (s.nextStep h g x) := by
  unfold State.nextStep
  split
  · exact beginStep_held hs _ _ _
  · split
    · exact beginStep_held hs _ _ _
    · exact hs.held.endCall _ _

theorem programOf_spec {s : State} {h : Handle} {g : AlarmProgram} (hg : s.programOf h = some g) :
    ∃ c a, s.call h = some c ∧ c.part = .alarm a := by
  unfold State.programOf at hg
  split at hg
  · rename_i c hc
    obtain ⟨a, ha, -⟩ := Option.bind_eq_some_iff.1 hg
    refine ⟨c, a, hc, ?_⟩
    unfold Call.alarm at ha
    split at ha
    · cases ha; assumption
    · cases ha
  · cases hg

/-- A player that serves the slot of an alarm serves that alarm, and its step position names the player. -/
theorem PlayersHeld.position_of_served {s : State} (hs : PlayersHeld s) {h : Handle} {c : Call} {a : AlarmPart} (hc : s.call h = some c)
    (ha : c.part = .alarm a) {i : Nat} {k : Handle} (hi : i < 4) (hk : (s.player i).call = some k) (hslot : k.slot = h.slot) :
    k = h ∧ ∃ x, (s.alarmSeq h.slot).position = some x ∧ x.player = some i := by
  obtain ⟨d, hd, -, hor⟩ := hs.player i k hi hk
  obtain rfl := handle_eq_of_slot hc hd hslot
  obtain rfl := Option.some.inj (hc.symm.trans hd)
  rcases hor with ⟨m, hm, -⟩ | ⟨-, -, x, -, hx, hxi⟩
  · cases ha.symm.trans hm
  · exact ⟨rfl, x, hx, hxi⟩

theorem PlayersHeld.alarmStepEnd {s : State} (hs : PlayersHeld s) (i : Nat) : PlayersHeld (s.alarmStepEnd i) := by
  unfold State.alarmStepEnd
  split
  · rename_i x g hx hg
    split
    · rename_i hdue
      obtain ⟨c, a, hc, ha⟩ := programOf_spec hg
      have h60 : 60 ≤ i := (hs.typed _ c hc).1 ⟨a, ha⟩
      obtain ⟨d, hd, hlive⟩ := hs.running i x h60 (slot_lt_of_call hc) hx
      obtain rfl := Option.some.inj ((record_of_call hc).symm.trans hd)
      refine PlayersHeld.nextStep ⟨hs, hc, ha, hlive, fun j k hj hk hslot => ?_⟩ g x
      obtain ⟨-, y, hy, hyj⟩ := hs.position_of_served hc ha hj hk hslot
      obtain rfl := Option.some.inj (hx.symm.trans hy)
      exact hdue.1 (hs.phrase i x j h60 (slot_lt_of_call hc) hx hyj)
    · exact hs
  · exact hs

theorem PlayersHeld.freePlayer {s : State} (hs : PlayersHeld s) {i : Nat} (hi : i < 4) {h : Handle} {c : Call} {a : AlarmPart}
    (hh : (s.player i).call = some h) (hc : s.call h = some c) (ha : c.part = .alarm a) : PlayersHeld (s.freePlayer i) := by
  have hpl := fun j => player_freePlayer (s := s) hi j
  refine ⟨hs.typed, fun j k hj hk => ?_, fun k d m j hd hm hmj => ?_, hs.phrase, hs.running, hs.sweep⟩
  · rw [hpl] at hk
    split at hk
    · cases hk
    · exact (hs.player j k hj hk).congr rfl fun _ => rfl
  · obtain ⟨hj, hjk⟩ := hs.message k d m j hd hm hmj
    refine ⟨hj, ?_⟩
    rw [hpl, if_neg, hjk]
    rintro rfl
    obtain rfl := Option.some.inj (hh.symm.trans hjk)
    have hd' : s.call h = some d := hd
    obtain rfl := Option.some.inj (hc.symm.trans hd')
    cases ha.symm.trans hm

theorem player_lt {s : State} {i : Nat} {h : Handle} (hh : (s.player i).call = some h) : i < 4 := by
  by_contra hi
  rw [State.player, Table.get_of_le _ _ _ (Nat.not_lt.1 hi)] at hh
  cases hh

theorem PlayersHeld.alarmPhraseComplete {s : State} (hs : PlayersHeld s) (i : Nat) : PlayersHeld (s.alarmPhraseComplete i) := by
  unfold State.alarmPhraseComplete
  split
  · rename_i h hh
    have hi := player_lt hh
    split
    · rename_i x g hx hg
      split
      · obtain ⟨c, a, hc, ha⟩ := programOf_spec hg
        have h60 : 60 ≤ h.slot := (hs.typed _ c hc).1 ⟨a, ha⟩
        obtain ⟨d, hd, hlive⟩ := hs.running h.slot x h60 (slot_lt_of_call hc) hx
        obtain rfl := Option.some.inj ((record_of_call hc).symm.trans hd)
        have haw : AwaitsStep (s.freePlayer i) h c a := ⟨hs.freePlayer hi hh hc ha, hc, ha, hlive, fun j k hj hk hslot => by
          rw [player_freePlayer hi] at hk
          split at hk
          · cases hk
          · next hne =>
            obtain ⟨-, y, hy, hyj⟩ := hs.position_of_served hc ha hj hk hslot
            obtain ⟨-, y', hy', hyi⟩ := hs.position_of_served hc ha hi hh rfl
            obtain rfl := Option.some.inj (hy.symm.trans hy')
            exact hne (Option.some.inj (hyi.symm.trans hyj))⟩
        exact PlayersHeld.nextStep ((arbiter_awaits h c a).servePlayers haw) g x
      · exact hs
    · exact hs
  · exact hs

end Sys2Proof.Calls
end

section
/-! PROOFS. The sweeps keep the players and their calls together (02 R32 to R36). -/

namespace Sys2Proof.Calls

open Sys2Proof.Machine

/-! ## What the sweeps do to a record -/

theorem withoutStation_message {e : Nat} {p : CallPart} {m : MessagePart} : withoutStation e p = .message m ↔ p = .message m := by
  cases p <;> simp [withoutStation]

theorem withoutStation_alarm {e : Nat} {p : CallPart} {a : AlarmPart} : withoutStation e p = .alarm a ↔ p = .alarm a := by
  cases p <;> simp [withoutStation]

theorem heldTo_withoutStation (c : Call) (e : Nat) : HeldTo c { c with part := withoutStation e c.part } :=
  ⟨id, id, fun _ => withoutStation_message.symm, by simp only [withoutStation_alarm], fun _ sw' _ hs hk => ⟨sw', hs, hk, id⟩⟩

theorem HeldTo.trans {c d e : Call} (h : HeldTo c d) (h' : HeldTo d e) : HeldTo c e where
  live := h'.live ∘ h.live
  active := h'.active ∘ h.active
  message m := (h.message m).trans (h'.message m)
  alarm := h.alarm.trans h'.alarm
  sweep a sw2 ha hs hk := by
    obtain ⟨a', ha'⟩ := h.alarm.1 ⟨a, ha⟩
    obtain ⟨sw1, hs1, hk1, hf1⟩ := h'.sweep a' sw2 ha' hs hk
    obtain ⟨sw, hs0, hk0, hf0⟩ := h.sweep a sw1 ha hs1 hk1
    exact ⟨sw, hs0, hk0, hf1 ∘ hf0⟩

/-- A change of the sweep that leaves an alarm's opening sweep fed. -/
theorem heldTo_sweptBy {c : Call} {f : Sweep → Sweep} (hk : ∀ sw, (f sw).kind = sw.kind)
    (hf : ∀ a sw, c.part = .alarm a → c.sweep = some sw → sw.kind = .opening → Sweep.fed sw → Sweep.fed (f sw)) : HeldTo c (sweptBy f c) :=
  ⟨id, id, fun _ => .rfl, .rfl, fun a sw' ha hs ho => by
    obtain ⟨sw, hsw, rfl⟩ := Option.map_eq_some_iff.1 hs
    exact ⟨sw, hsw, (hk sw).symm.trans ho, hf a sw ha hsw ((hk sw).symm.trans ho)⟩⟩

/-- A call whose sweep is over. -/
theorem heldTo_dropSweep {c : Call} {st : CallState} (hl : c.state.live = true → st.live = true) (ha : c.state = .active → st = .active) :
    HeldTo c { c with state := st, sweep := none } :=
  ⟨hl, ha, fun _ => .rfl, .rfl, fun _ _ _ hs => by cases hs⟩

theorem heldTo_countBump (c : Call) : HeldTo c c.countBump := by
  unfold Call.countBump
  split
  · exact heldTo_sweptBy (f := fun sw => { sw with bumped := sw.bumped + 1 }) (fun _ => rfl) fun _ _ _ _ _ h => h
  · exact .refl c

theorem heldTo_bumped (e : Nat) (c : Call) : HeldTo c (bumped e c) := by
  unfold bumped
  rw [dropParticipant_eq]
  exact (heldTo_withoutStation c e).trans (heldTo_countBump _)

theorem heldTo_bumpOf {e : Nat} {f : Call → Call} (hf : BumpOf e f) (c : Call) : HeldTo c (f c) := by
  rcases hf with rfl | rfl
  · exact heldTo_bumped e c
  · exact (heldTo_bumped e c).trans
      (heldTo_sweptBy (f := fun sw => { sw with lastLoss := some .displaced }) (fun _ => rfl) fun _ _ _ _ _ h => h)

theorem heldTo_deliveredCall (e : Nat) (es : List Nat) (c : Call) : HeldTo c (deliveredCall e es c) := by
  obtain ⟨p, hp, -, htalk, -, hother⟩ := deliveredCall_eq e es c
  have hm : ∀ m, c.part = .message m ↔ p = .message m := fun m => by
    by_cases hk : ∃ k, c.part = .talk k
    · obtain ⟨k, hk⟩ := hk
      rw [hk, htalk k hk]; simp
    · rw [hother fun k h => hk ⟨k, h⟩]
  have ha : ∀ a, c.part = .alarm a ↔ p = .alarm a := fun a => by
    by_cases hk : ∃ k, c.part = .talk k
    · obtain ⟨k, hk⟩ := hk
      rw [hk, htalk k hk]; simp
    · rw [hother fun k h => hk ⟨k, h⟩]
  rw [hp]
  refine ⟨id, id, hm, by simp only [ha], fun a sw' _ hs ho => ?_⟩
  obtain ⟨sw, hsw, rfl⟩ := Option.map_eq_some_iff.1 hs
  exact ⟨sw, hsw, ho, fun _ => .inl (Nat.succ_pos _)⟩

/-! ## The sweeps -/

section

variable {s : State} (hs : PlayersHeld s)

include hs

theorem PlayersHeld.setEp (e : Nat) (x : Endpoint) : PlayersHeld (s.setEp e x) := hs.congr rfl rfl rfl

theorem PlayersHeld.takeReports {e : Nat} {rs : List Report} (hrs : OfArrival rs) : PlayersHeld (rs.foldl (State.takeReport e) s) :=
  takeReports_keep hrs (fun _ _ h => h.congr rfl rfl rfl) (fun _ _ _ h hf _ => h.updCall fun c _ => heldTo_bumpOf hf c)
    (fun _ _ _ h _ hc _ _ _ => h.enterEnding hc .displaced) hs

theorem PlayersHeld.answerSweep (sw : Sweep) (a : AnswerCode) (d : List Byte) : PlayersHeld (s.answerSweep sw a d) :=
  hs.ports (answerSweep_only _ _ _ _)

theorem PlayersHeld.dropSweep (h : Handle) : PlayersHeld (s.dropSweep h) := hs.updCall fun _ _ => heldTo_dropSweep id id

theorem PlayersHeld.deliver {h : Handle} {c : Call} (hc : s.call h = some c) (e : Nat) (es : List Nat) : PlayersHeld (s.deliver h c e es) := by
  cases hskip : c.skips (s.ep e) with
  | true =>
    rw [deliver_skips hskip]
    refine hs.updCall fun d hd => heldTo_sweptBy (fun _ => rfl) fun a sw ha _ _ => ?_
    obtain rfl := Option.some.inj (hc.symm.trans hd)
    simp [Call.skips, Call.type, Call.talkFull, ha] at hskip
  | false =>
    rw [deliver_arrives hskip]
    exact ((hs.updCall fun c _ => heldTo_deliveredCall e es c).setEp e _).takeReports fun _ hr => arrive_report hr

theorem PlayersHeld.freeOpening {h : Handle} {c : Call} {sw : Sweep} (hc : s.call h = some c) (hs' : c.sweep = some sw)
    (hk : sw.kind = .opening) (hst : c.state = .opening) (hr : sw.rest = []) (ht : sw.taken = 0) : PlayersHeld (s.freeRecord h) := by
  have hna : ∀ a, c.part ≠ .alarm a := fun a ha => by
    rcases hs.sweep h c a sw hc ha hs' hk with hf | hf
    · omega
    · exact hf hr
  refine hs.freeRecord hc (fun h60 => ?_) fun i hi hh => ?_
  · obtain ⟨a, ha⟩ := (hs.typed h c hc).2 h60
    exact absurd ha (hna a)
  · obtain ⟨d, hd, -, ⟨m, -, hact, -⟩ | ⟨-, a, -, ha, -⟩⟩ := hs.player i h hi hh <;> obtain rfl := Option.some.inj (hc.symm.trans hd)
    · cases hst.symm.trans hact
    · exact hna a ha

theorem PlayersHeld.endDelivery {b : Bool} (ho : InOrder b none s) (h : Handle) : PlayersHeld (s.endDelivery h) := by
  unfold State.endDelivery
  split
  · exact hs
  · rename_i c hc
    split
    · exact hs
    · rename_i sw hsw
      split
      · rename_i hr
        split
        · rename_i hk
          unfold State.endOpening
          split
          · exact (hs.updCall fun _ _ => heldTo_dropSweep (fun _ => rfl) fun _ => rfl).answerSweep _ _ _
          · split
            · rename_i ht
              obtain ⟨-, -, -, -, -, -, hopen, -⟩ := ho.recordOk hc
              have hst : c.state = .opening := hopen.2 (by rw [hsw]; simp [hk])
              have hu := unbindHold_only s h c
              have hsu : PlayersHeld (s.unbindHold h c) := hs.congr hu.calls (by rw [hu]) (by rw [hu])
              have hcu : (s.unbindHold h c).call h = some c := (call_congr (slot_of_calls hu.calls _)).trans hc
              exact (hsu.freeOpening hcu hsw hk hst hr ht).answerSweep _ _ _
            · exact ((hs.dropSweep h).answerSweep _ _ _).endCall _ _
        · unfold State.endAdd
          dsimp only
          split
          · exact (hs.dropSweep h).answerSweep _ _ _
          · exact ((hs.dropSweep h).answerSweep _ _ _).endCall _ _
        · exact hs
      · exact hs

theorem PlayersHeld.sweepTurn (ho : InOrder false none s) {h : Handle} {c : Call} {sw : Sweep} (hc : s.call h = some c)
    (hsw : c.sweep = some sw) (hk : sw.kind ≠ .drop) : PlayersHeld (s.sweepTurn h c sw.rest) := by
  unfold State.sweepTurn
  split
  · exact hs.endDelivery ho h
  · rename_i e es hr
    exact (hs.deliver hc e es).endDelivery (ho.deliver hc hsw hk hr) h

theorem PlayersHeld.endDrop (h : Handle) (st : CallState) : PlayersHeld (s.endDrop h st) := by
  unfold State.endDrop
  split
  · exact hs
  · exact (hs.dropSweep h).answerSweep _ _ _

theorem PlayersHeld.dropSwept {h : Handle} {c : Call} {sw : Sweep} (hc : s.call h = some c) (hsw : c.sweep = some sw) (hk : sw.kind = .drop)
    {f : Sweep → Sweep} (hf : ∀ sw, (f sw).kind = sw.kind) : PlayersHeld (s.updSweep h f) :=
  hs.updCall fun d hd => heldTo_sweptBy hf fun a sw' _ hs' ho => by
    obtain rfl := Option.some.inj (hc.symm.trans hd)
    obtain rfl := Option.some.inj (hsw.symm.trans hs')
    cases hk.symm.trans ho

theorem PlayersHeld.removedAt {h : Handle} {c : Call} {sw : Sweep} (hc : s.call h = some c) (hsw : c.sweep = some sw) (hk : sw.kind = .drop)
    {f : Sweep → Sweep} (hf : ∀ sw, (f sw).kind = sw.kind) (e : Nat) : PlayersHeld (removedAt s h c e f) := by
  have h1 := hs.dropSwept hc hsw hk hf
  rw [removedAt_eq]
  generalize (s.ep e).remove s.ctx c.type.listClass h .drop = r
  split
  · have h2 := (h1.setEp e r.1).updCall (h := h) (f := fun c => c.dropParticipant e) fun d _ => by
      rw [dropParticipant_eq]; exact heldTo_withoutStation d e
    have ho := updCall_only ((s.updSweep h f).setEp e r.1) h fun c => c.dropParticipant e
    generalize ((s.updSweep h f).setEp e r.1).updCall h (fun c => c.dropParticipant e) = v at h2 ho
    have hp : v.players = (s.updSweep h f).players := by rw [ho]; rfl
    have ha : v.alarms = (s.updSweep h f).alarms := by rw [ho]; rfl
    exact h2.congr rfl hp.symm ha.symm
  · exact h1.congr rfl rfl rfl

theorem PlayersHeld.dropTurn {h : Handle} {c : Call} {sw : Sweep} (hc : s.call h = some c) (hsw : c.sweep = some sw) (hk : sw.kind = .drop) :
    PlayersHeld (s.dropTurn h c sw.rest) := by
  unfold State.dropTurn
  split
  · exact hs.endDrop _ _
  · rename_i e es hr
    split
    · have h1 := hs.removedAt hc hsw hk (f := takeAway es) (fun _ => rfl) e
      dsimp only
      split
      · exact (h1.endDrop _ _).endCall _ _
      · split
        · exact h1.endDrop _ _
        · exact h1
    · have h1 := hs.dropSwept hc hsw hk (f := passOver es) fun _ => rfl
      dsimp only
      split
      · exact h1.endDrop _ _
      · exact h1

end

end Sys2Proof.Calls
end

section
/-! PROOFS. What the displacement of an alarm record and the opening of an alarm do (02 R43; 08 R143, R144, R150, R155). -/

namespace Sys2Proof.Calls

open Sys2Proof.Machine

/-! ## The slot that is had -/

theorem slot_ext {a b : CallSlot} (hg : a.gen = b.gen) (hr : a.record = b.record) : a = b := by
  cases a; cases b; simp_all

/-- `v` is `s` but for what an end of a call and the arbiter may change. -/
def OnlyObtaining (s v : State) : Prop :=
  v = { s with
    system := v.system, bridge := v.bridge, endpoints := v.endpoints, calls := v.calls, holds := v.holds, players := v.players,
    triggers := v.triggers, alarms := v.alarms, expiries := v.expiries }

theorem OnlyEnding.obtaining {s v : State} (h : OnlyEnding s v) : OnlyObtaining s v := by
  unfold OnlyObtaining; rw [h]

theorem OnlyPlay.obtaining {s v : State} (h : OnlyPlay s v) : OnlyObtaining s v := by
  unfold OnlyObtaining; rw [h]

theorem OnlyObtaining.trans {s v w : State} (h : OnlyObtaining s v) (h' : OnlyObtaining v w) : OnlyObtaining s w := by
  unfold OnlyObtaining at *; rw [h', h]

/-- State `v`, reached from `s`, has slot `k` FREE for a new alarm; `old` is the record that stood in it. -/
structure Obtained (s v : State) (k : Nat) (old : Option Call) : Prop where
  low : 60 ≤ k
  high : k < 64
  slot : v.slot k = ⟨(s.slot k).gen, none⟩
  held : PlayersHeld v
  only : OnlyObtaining s v
  trigger : ∀ i, i < 4 → v.trigger i = if old.any (·.state.live) = true then released (s.handleOf k) (s.trigger i) else s.trigger i
  unlisted : old.isSome = true → ∀ e, (v.ep e).lists (s.handleOf k) = false
  stopped : ∀ r sw, old = some r → r.sweep = some sw → SweepAnswered s v k sw .unknownCall (stoppedData (s.handleOf k) sw)
  port : ∀ q, (∀ r sw, old = some r → r.sweep = some sw → sw.answers = true → sw.port ≠ q) → v.port q = s.port q

theorem obtained_lowest {s : State} (hs : PlayersHeld s) {k : Nat} (h : LowestFree s k) : Obtained s s k none := by
  obtain ⟨h1, h2, hf, -⟩ := h
  exact ⟨h1, h2, by rw [← hf], hs, rfl, fun _ _ => rfl, (nomatch ·), fun _ _ h => (nomatch h), fun _ _ => rfl⟩

/-- The code of a sweep that its ALARM's displacement stops. -/
theorem stopCode_displaced {t : CallType} (ht : t = .alarm) (sw : Sweep) : sw.stopCode t .displaced = .unknownCall := by
  unfold Sweep.stopCode
  cases sw.kind <;> simp [ht]

theorem sweep_of_dead {s : State} (ho : InOrder false none s) {h : Handle} {c : Call} (hc : s.call h = some c)
    (hl : c.state.live = false) : c.sweep = none := by
  obtain ⟨-, -, -, -, -, -, -, hdead⟩ := ho.recordOk hc
  exact hdead hl

/-- The listings name live calls of their class, and no class of an endpoint lists a call twice. -/
structure Placed (s : State) : Prop where
  named : ∀ e cl, ∀ k ∈ keys cl (s.ep e), k.2.1.listClass = cl ∧ Named s k
  once : ∀ e cl, ((keys cl (s.ep e)).map (·.1)).Nodup

theorem placed_of_listingsOk {s : State} (hl : s.listingsOk) : Placed s := by
  obtain ⟨hname, honce, -⟩ := hl
  refine ⟨fun e cl k hk => ?_, fun e cl => ?_⟩ <;> by_cases he : e < 176
  · rw [keys_eq] at hk
    obtain ⟨l, hl, rfl⟩ := List.mem_map.1 hk
    exact forall_ep hname he cl l hl
  · rw [keys_of_le (Nat.not_lt.1 he)] at hk; cases hk
  · rw [← map_call_listings]; exact forall_ep honce he cl
  · rw [keys_of_le (Nat.not_lt.1 he)]; exact List.nodup_nil

theorem InOrder.placed {s : State} {skip : Option Nat} (h : InOrder true skip s) : Placed s := ⟨h.named rfl, h.once rfl⟩

theorem Placed.same {s t : State} (h : Placed s) (hc : t.calls = s.calls) (he : t.endpoints = s.endpoints) : Placed t := by
  have hep := ep_congr he
  refine ⟨fun e cl k hk => ?_, fun e cl => by rw [hep]; exact h.once e cl⟩
  obtain ⟨hcl, c, hcall, hrest⟩ := h.named e cl k (by rw [← hep]; exact hk)
  exact ⟨hcl, c, (call_congr (slot_of_calls hc _)).trans hcall, hrest⟩

theorem Placed.apart {s : State} (hs : Placed s) {h : Handle} {c : Call} (hc : s.call h = some c) : Apart s h c.type.listClass := by
  intro e
  refine ⟨hs.once e _, fun d k hk hkh => ?_⟩
  obtain ⟨hd, c', hc', -, ht, -⟩ := hs.named e d k hk
  rw [hkh, hc] at hc'
  cases hc'
  rw [← hd, ht]

/-- No listing names a call that is not live. -/
theorem unlisted_of_dead {s : State} (hs : Placed s) {k : Nat} (hdead : ∀ r, (s.slot k).record = some r → r.state.live = false) (e : Nat) :
    (s.ep e).lists (s.handleOf k) = false := by
  refine lists_false_iff.2 fun cl q hq hqk => ?_
  obtain ⟨-, c, hc, hlive, -⟩ := hs.named e cl q hq
  rw [hqk] at hc
  rw [hdead c (record_of_call hc)] at hlive; cases hlive

theorem obtained_ended {s : State} (hs : PlayersHeld s) (ho : InOrder false none s) (hl : Placed s) {k : Nat} {r : Call} (h1 : 60 ≤ k)
    (h2 : k < 64) (hr : (s.slot k).record = some r) (he : r.state = .ended) :
    Obtained s (s.displace (s.handleOf k) r).1 k (some r) := by
  have hc := call_handleOf hr
  have hdead : r.state.live = false := by rw [he]; rfl
  have hv : (s.displace (s.handleOf k) r).1 = (s.stopExpiry (s.handleOf k)).freeRecord (s.handleOf k) := by simp [State.displace, he]
  rw [hv]
  refine ⟨h1, h2, ?_, (hs.congr rfl rfl rfl : PlayersHeld (s.stopExpiry _)).freeOver hc hdead, rfl, fun i _ => ?_, fun _ e => ?_,
    fun r' sw hr' hsw => ?_, fun _ _ => rfl⟩
  · exact (slot_freeRecord (s := s.stopExpiry _) h2 rfl k).trans (if_pos rfl)
  · rw [if_neg (by simp [hdead])]; rfl
  · exact unlisted_of_dead hl (fun c hc' => by rw [hr] at hc'; cases hc'; exact hdead) e
  · cases hr'
    cases (sweep_of_dead ho hc hdead).symm.trans hsw

theorem obtained_live {s : State} (hs : PlayersHeld s) (hl : Placed s) {k : Nat} {r : Call} (h1 : 60 ≤ k)
    (h2 : k < 64) (hr : (s.slot k).record = some r) (hlive : r.state.live = true) :
    Obtained s (s.displace (s.handleOf k) r).1 k (some r) := by
  have hc := call_handleOf hr
  have ht : r.type = .alarm := type_alarm_iff.2 ((hs.typed _ _ hc).2 h1)
  have hne : r.state ≠ .ended := fun he => by rw [he] at hlive; cases hlive
  have hv : (s.displace (s.handleOf k) r).1 = ((s.enterEnding (s.handleOf k) r .displaced).freeRecord (s.handleOf k)).servePlayers := by
    simp [State.displace, hne, endCall_live hc hlive]
  have hw := (hs.enterEnding hc .displaced).freeOver (call_enterEnding hc .displaced) rfl
  have hend := ending_enterEnding hc (hl.apart hc) .displaced
  have honly := (enterEnding_only s (s.handleOf k) r .displaced).obtaining
  have htrig := fun {i} hi => trigger_enterEnding s (s.handleOf k) r .displaced (i := i) hi
  have hans := fun {sw q ph} h ha hq => enterEnding_answers (s := s) (h := s.handleOf k) (c := r) (sw := sw) (q := q) (ph := ph) h ha hq .displaced
  have hport := port_enterEnding s (s.handleOf k) r .displaced
  rw [hv]
  generalize s.enterEnding (s.handleOf k) r .displaced = w at hw hend honly htrig hans hport
  have hserve := servePlayers_only (w.freeRecord (s.handleOf k))
  have hset := settles_serveRounds 4 (w.freeRecord (s.handleOf k))
  have hfree : (w.freeRecord (s.handleOf k)).slot k = ⟨(s.slot k).gen, none⟩ :=
    (slot_freeRecord (s := w) (h := s.handleOf k) h2 (congrArg CallSlot.gen hend.slot :) k).trans (if_pos rfl)
  refine ⟨h1, h2, ?_, hw.servePlayers, (honly.trans (w := w.freeRecord (s.handleOf k)) rfl).trans hserve.obtaining, fun i hi => ?_, fun _ e => ?_, fun r' sw hr' hsw => ?_,
    fun q hq => ?_⟩
  · have hr' := hset.free (i := k) (by rw [hfree])
    have hg := (hset.gens k).trans (congrArg CallSlot.gen hfree)
    exact slot_ext hg hr'
  · rw [if_pos (by simpa using hlive)]
    rw [hserve]
    exact (htrig hi).trans (if_pos ht)
  · rw [ep_congr hserve.endpoints]; exact hend.unlisted e
  · cases hr'
    intro q hq hin
    have h := hans hsw hq hin
    rw [stopCode_displaced ht] at h
    have hp := hserve.port sw.port
    exact answered_congr h rfl (by rw [hp]; rfl) (by rw [hp]; rfl)
  · rcases hport q with ⟨sw, hsw, ha, hp, -⟩ | ⟨-, hp⟩
    · exact absurd hp (hq r sw rfl hsw ha)
    · exact (hserve.port q).trans hp

end Sys2Proof.Calls
end

section
/-! PROOFS. The opening of an alarm in the slot that is had, and what the settling of the event leaves of it (02 R43; 08 R143, R150). -/

namespace Sys2Proof.Calls

open Sys2Proof.Machine

/-! ## A step's frame -/

/-- `t` is `s` but for its calls, players and step positions. -/
def OnlySteps (s t : State) : Prop := t = { s with calls := t.calls, players := t.players, alarms := t.alarms }

theorem OnlySteps.trans {s t u : State} (h : OnlySteps s t) (h' : OnlySteps t u) : OnlySteps s u := by
  unfold OnlySteps at *; rw [h', h]

theorem OnlyPlay.steps {s t : State} (h : OnlyPlay s t) : OnlySteps s t := by
  unfold OnlySteps; rw [h]

theorem OnlySteps.port {s t : State} (h : OnlySteps s t) : ∀ q, t.port q = s.port q := port_eq (by rw [h]) (by rw [h])

theorem beginPhrase_only (s : State) (h : Handle) (rep idx id : Nat) : OnlySteps s (s.beginPhrase h rep idx id) := by
  refine (playerForAlarm_only s).steps.trans ?_
  unfold State.beginPhrase
  dsimp only
  split <;> rfl

theorem beginStep_only (s : State) (h : Handle) (g : AlarmProgram) (rep idx : Nat) : OnlySteps s (s.beginStep h g rep idx) := by
  unfold State.beginStep
  split
  · rfl
  · rfl
  · rfl
  · split
    · exact beginPhrase_only _ _ _ _ _
    · exact OnlySteps.trans (t := s.setAlarmSeq h.slot _) rfl (updCall_only _ _ _).play.steps

/-- A step that begins leaves its alarm's record, but for the mark of a substituted phrase. -/
theorem call_beginStep {s : State} {h : Handle} {c : Call} {a : AlarmPart} (hs : AwaitsStep s h c a) (g : AlarmProgram) (rep idx : Nat) :
    ∃ b, (s.beginStep h g rep idx).call h = some { c with part := .alarm { a with substituted := b } } := by
  have hsame : some c = some ({ c with part := .alarm { a with substituted := a.substituted } } : Call) := by
    rw [← hs.part]
  unfold State.beginStep
  split
  · exact ⟨_, hs.call.trans hsame⟩
  · exact ⟨_, hs.call.trans hsame⟩
  · exact ⟨_, hs.call.trans hsame⟩
  · split
    · obtain ⟨-, i, -, -, -, hcall⟩ := beginPhrase_spec hs rep idx _
      exact ⟨_, hcall.trans hsame⟩
    · refine ⟨true, (call_updCall_self (s := s.setAlarmSeq _ _) hs.call _).trans ?_⟩
      simp only [hs.part]

/-! ## The opened alarm -/

/-- The record of a new alarm, opened as call number `n`; `b` marks a substituted phrase. -/
def openedAlarm (p : Port) (id : Nat) (g : AlarmProgram) (sw : Sweep) (n : Nat) (b : Bool) : Call :=
  { Call.newAlarm p id g sw with openSeq := n, part := .alarm { program := id, substituted := b, unserved := 0 } }

/-- The sweep of a new alarm. -/
def alarmSweep (s : State) (p : Port) (answers : Bool) (g : AlarmProgram) (d : Option (Handle × EndReason)) : Sweep :=
  let x := s.expand .alarm [] (fun _ => false) g.targets
  { Sweep.start .opening p answers x.1 x.2 with displaced := d }

section

variable {s v : State} {k : Nat} {old : Option Call} {p : Port} {answers : Bool} {id : Nat} {g : AlarmProgram}
  {d : Option (Handle × EndReason)}

theorem Obtained.awaits (hv : Obtained s v k old) (ht : (s.expand .alarm [] (fun _ => false) g.targets).1 ≠ []) :
    AwaitsStep (v.takeSlot k (Call.newAlarm p id g (alarmSweep s p answers g d)))
      ((v.takeSlot k (Call.newAlarm p id g (alarmSweep s p answers g d))).handleOf k)
      (openedAlarm p id g (alarmSweep s p answers g d) v.seq false) { program := id, substituted := false, unserved := 0 } :=
  awaits_takeSlot hv.held hv.low hv.high (by rw [hv.slot]) (.inr ht)

/-- What the opening of an alarm leaves as it is. -/
theorem openAlarm_only (v : State) (p : Port) (id : Nat) (g : AlarmProgram) (sw : Sweep) (k : Nat) :
    v.openAlarm p id g sw k = { v with
      calls := (v.openAlarm p id g sw k).calls, players := (v.openAlarm p id g sw k).players,
      alarms := (v.openAlarm p id g sw k).alarms, seq := v.seq + 1 } := by
  have h := beginStep_only (v.takeSlot k (Call.newAlarm p id g sw)) ((v.takeSlot k (Call.newAlarm p id g sw)).handleOf k) g 1 0
  unfold OnlySteps at h
  exact h

theorem alarmOpened_openAlarm (hv : Obtained s v k old) (ht : (s.expand .alarm [] (fun _ => false) g.targets).1 ≠ []) :
    AlarmOpened s (v.openAlarm p id g (alarmSweep s p answers g d) k) p answers id k g d := by
  have haw := hv.awaits (p := p) (answers := answers) (id := id) (d := d) ht
  have hgen : (v.takeSlot k (Call.newAlarm p id g (alarmSweep s p answers g d))).handleOf k = ⟨k, ((s.slot k).gen + 1) % 256⟩ := by
    rw [State.handleOf, slot_takeSlot hv.high, if_pos rfl, hv.slot]
  obtain ⟨b, hb⟩ := call_beginStep haw g 1 0
  have hslot := slot_of_call hb
  rw [hgen] at hslot
  have hopen : (v.openAlarm p id g (alarmSweep s p answers g d) k).slot k =
      ⟨((s.slot k).gen + 1) % 256, some (openedAlarm p id g (alarmSweep s p answers g d) v.seq b)⟩ := by
    unfold State.openAlarm
    dsimp only
    rw [hgen]
    exact hslot
  exact ⟨stepBegun_beginStep haw (s := s) (by rw [State.takeSlot, hv.only]; rfl) g 1 0, _, _, hopen, rfl, rfl, rfl, rfl, rfl, rfl, rfl, rfl, rfl⟩

theorem openAlarm_held (hv : Obtained s v k old) (ht : (s.expand .alarm [] (fun _ => false) g.targets).1 ≠ []) :
    PlayersHeld (v.openAlarm p id g (alarmSweep s p answers g d) k) := beginStep_held (hv.awaits ht) g 1 0

end

/-! ## The settling of the event -/

/-- State `t` is what the settling of an event leaves of `s`: an alarm keeps its player. -/
structure Settled (s t : State) : Prop where
  settles : Settles s t
  only : OnlySettled s t
  player : ∀ i h c a, (s.player i).call = some h → s.call h = some c → c.part = .alarm a → c.state.live = true → t.player i = s.player i

/-- The settling of the calls leaves a live alarm's record and its player. -/
theorem arbiter_alarm {h : Handle} {c : Call} {a : AlarmPart} (ha : c.part = .alarm a) {i : Nat} {pl : Player} (hpl : pl.call = some h) :
    ArbiterKeeps fun v => PlayersHeld v ∧ v.call h = some c ∧ v.player i = pl where
  pause s k d m j hs hd hm hj := by
    obtain ⟨hheld, hc, hp⟩ := hs
    have hne := alarm_ne_message hc ha hd hm
    obtain ⟨hlt, hjk⟩ := hheld.message k d m j hd hm hj
    refine ⟨playersHeld_arbiter.pause s k d m j hheld hd hm hj, ?_, ?_⟩
    · simp only [State.pauseMessage, hj]
      exact (call_updCall_ne (s := s.freePlayer j) (fun he => hne (by rw [he])) _).trans hc
    · simp only [State.pauseMessage, hj]
      rw [State.player, (updCall_only _ _ _).places.players]
      refine ((player_freePlayer hlt i).trans (if_neg ?_)).trans hp
      rintro rfl
      rw [hp, hpl] at hjk
      exact hne (by rw [Option.some.inj hjk])
  give s j k d m hs hj hidle hd hm hact hmp := by
    obtain ⟨hheld, hc, hp⟩ := hs
    have hne := alarm_ne_message hc ha hd hm
    refine ⟨playersHeld_arbiter.give s j k d m hheld hj hidle hd hm hact hmp, ?_, ?_⟩
    · exact (call_updCall_ne (s := s.setPlayer j _) (fun he => hne (by rw [he])) _).trans hc
    · rw [State.giveToMessage, State.player, (updCall_only _ _ _).places.players]
      refine ((player_setPlayer hj _ i).trans (if_neg ?_)).trans hp
      rintro rfl
      rw [hp, hpl] at hidle
      cases hidle

theorem endFadedAt_call {s : State} {h : Handle} {c : Call} (hc : s.call h = some c) (hl : c.state.live = true) (k : Handle) :
    (s.endFadedAt k).call h = some c := by
  unfold State.endFadedAt
  split
  · rename_i d hd
    split
    · rename_i he
      refine (call_congr (s := s) ?_).trans hc
      refine (slot_setRecord (s := s) _ (slot_lt_of_call hd) h.slot).trans (if_neg fun hs => ?_)
      obtain rfl := handle_eq_of_slot hd hc hs.symm
      obtain rfl := Option.some.inj (hd.symm.trans hc)
      rw [he.1] at hl; cases hl
    · exact hc
  · exact hc

theorem endFadedAt_players (s : State) (k : Handle) : (s.endFadedAt k).players = s.players := by
  unfold State.endFadedAt
  split
  · split <;> rfl
  · rfl

theorem refresh_player (s : State) (i : Nat) : s.refresh.player i = s.player i := rfl

theorem settleCalls_alarm {s : State} (hs : PlayersHeld s) {i : Nat} {h : Handle} {c : Call} {a : AlarmPart}
    (hi : (s.player i).call = some h) (hc : s.call h = some c) (ha : c.part = .alarm a) (hl : c.state.live = true) :
    s.settleCalls.call h = some c ∧ s.settleCalls.player i = s.player i := by
  have hP := arbiter_alarm ha (i := i) hi
  have hpause := hP.pauseUnheard ⟨hs, hc, rfl⟩
  have hfade : ∀ (l : List Handle) (u : State), (PlayersHeld u ∧ u.call h = some c ∧ u.player i = s.player i) →
      (PlayersHeld (l.foldl State.endFadedAt u) ∧ (l.foldl State.endFadedAt u).call h = some c ∧
        (l.foldl State.endFadedAt u).player i = s.player i) := by
    intro l
    induction l with
    | nil => exact fun u hu => hu
    | cons k l ih =>
      rintro u ⟨h1, h2, h3⟩
      refine ih _ ⟨h1.endFadedAt k, endFadedAt_call h2 hl k, ?_⟩
      rw [← h3, State.player, endFadedAt_players]; rfl
  exact (hP.servePlayers (hfade _ _ hpause)).2

theorem settled_once {s : State} (hs : PlayersHeld s) : Settled s s.settleCalls.refresh where
  settles := (settles_settleCalls s).trans (settles_refresh _)
  only := refresh_only (settleCalls_only s)
  player _ _ _ _ hi hc ha hl := (refresh_player _ _).trans (settleCalls_alarm hs hi hc ha hl).2

theorem settled_twice {s : State} (hs : PlayersHeld s) : Settled s s.settleCalls.settleCalls.refresh where
  settles := ((settles_settleCalls s).trans (settles_settleCalls _)).trans (settles_refresh _)
  only := refresh_only ((settleCalls_only s).trans (settleCalls_only _))
  player i h c a hi hc ha hl := by
    obtain ⟨h1, h2⟩ := settleCalls_alarm hs hi hc ha hl
    exact (refresh_player _ _).trans ((settleCalls_alarm hs.settleCalls (by rw [h2]; exact hi) h1 ha hl).2.trans h2)

/-- Without a pending start. -/
theorem settled_settle {s : State} (hs : PlayersHeld s) (hn : s.noPending = true) (s0 : State) : Settled s (settle s0 s) := by
  rcases settle_rounds hn s0 with he | he <;> rw [he]
  · exact settled_once hs
  · exact settled_twice hs

section

variable {s t u : State} (ht : Settled t u)

include ht

theorem Settled.alarmSeq (k : Nat) : u.alarmSeq k = t.alarmSeq k := by rw [State.alarmSeq, ht.only]; rfl

theorem Settled.trigger (i : Nat) : u.trigger i = t.trigger i := by rw [State.trigger, ht.only]; rfl

theorem Settled.endpoints : u.endpoints = t.endpoints := ht.settles.endpoints

theorem Settled.port (q : Port) : (u.port q).answers = (t.port q).answers ∧ (u.port q).inProgress = (t.port q).inProgress := by
  rw [ht.only]; cases q <;> exact ⟨rfl, rfl⟩

theorem Settled.answered {i : Nat} {sw : Sweep} {a : AnswerCode} {data : List Byte} (h : SweepAnswered s t i sw a data) :
    SweepAnswered s u i sw a data := fun q hq hin =>
  answered_congr (h q hq hin) rfl (ht.port _).1 (ht.port _).2

/-- The record of a live alarm after the settling. -/
theorem Settled.alarm {k : Nat} {n : Nat} {r : Call} {a : AlarmPart} (hk : t.slot k = ⟨n, some r⟩) (ha : r.part = .alarm a)
    (hl : r.state.live = true) : ∃ r' m, u.slot k = ⟨n, some r'⟩ ∧ r'.part = .alarm { a with unserved := m } ∧
      r' = { r with part := r'.part, listingCount := r'.listingCount, heardCount := r'.heardCount, endSeq := r'.endSeq } := by
  obtain ⟨r', hr', hset⟩ := ht.settles.slot (k := ⟨k, n⟩) hk
  obtain ⟨m, hm⟩ := hset.part.alarm a ha
  refine ⟨r', m, hr', hm, ?_⟩
  have hstate := hset.state_eq fun he => by rw [he] at hl; cases hl
  have hf := hset.fields
  rw [hstate] at hf
  exact hf

theorem Settled.handleOf (k : Nat) : u.handleOf k = t.handleOf k := ht.settles.handleOf k

theorem Settled.stepBegun {k : Nat} {g : AlarmProgram} {rep idx : Nat} (h : StepBegun s t k g rep idx) {n : Nat} {r : Call} {a : AlarmPart}
    (hk : t.slot k = ⟨n, some r⟩) (ha : r.part = .alarm a) (hl : r.state.live = true) : StepBegun s u k g rep idx := by
  obtain ⟨r', m, hr', ha', -⟩ := ht.alarm hk ha hl
  have hseq := ht.alarmSeq k
  have hhand := ht.handleOf k
  unfold StepBegun at h ⊢
  cases hst : g.steps[idx]? with
  | none => trivial
  | some st =>
    rw [hst] at h
    cases st with
    | tone ms => dsimp only at h ⊢; rw [hseq]; exact h
    | silence ms => dsimp only at h ⊢; rw [hseq]; exact h
    | phrase id =>
      dsimp only at h ⊢
      split at h
      · rename_i hv
        rw [if_pos hv]
        obtain ⟨i, hi, hp, hpos⟩ := h
        refine ⟨i, hi, ?_, by rw [hseq]; exact hpos⟩
        have hrec : (t.slot k).record = some r := by rw [hk]
        rw [ht.player i (t.handleOf k) r a (by rw [hp]) (call_handleOf hrec) ha hl, hp, hhand]
      · rename_i hv
        rw [if_neg hv]
        obtain ⟨htone, r0, a0, hr0, ha0, hsub⟩ := h
        rw [hk] at hr0
        obtain rfl := Option.some.inj hr0
        cases ha.symm.trans ha0
        exact ⟨by rw [hseq]; exact htone, r', _, by rw [hr'], ha', hsub⟩

theorem Settled.alarmOpened {p : Port} {answers : Bool} {id k : Nat} {g : AlarmProgram} {d : Option (Handle × EndReason)}
    (h : AlarmOpened s t p answers id k g d) : AlarmOpened s u p answers id k g d := by
  obtain ⟨hstep, r, a, hslot, h1, h2, h3, h4, h5, h6, hpart, h7, h8⟩ := h
  have hl : r.state.live = true := by rw [h4]; rfl
  obtain ⟨r', m, hr', ha', heq⟩ := ht.alarm hslot hpart hl
  refine ⟨ht.stepBegun hstep hslot hpart hl, r', { a with unserved := m }, hr', ?_⟩
  rw [ha', heq]
  exact ⟨h1, h2, h3, h4, h5, h6, rfl, h7, h8⟩

end

end Sys2Proof.Calls
end

section
/-! PROOFS. What a start of an alarm comes to, and a try at an input (08 R143, R144, R147). -/

namespace Sys2Proof.Calls

open Sys2Proof.Machine

section

variable {s : State} {id : Nat} {g : AlarmProgram}

/-! ## The outcomes of a start -/

theorem startAlarm_badParam (hg : s.program id = none) (p : Port) (answers : Bool) :
    s.startAlarm p id answers = ⟨.badParam, [], s, none⟩ := by simp only [State.startAlarm, hg]

theorem startAlarm_active {k : Nat} (hg : s.program id = some g) (hk : LiveAt s id k) (p : Port) (answers : Bool) :
    s.startAlarm p id answers = ⟨.alreadyActive, byteHandle (s.handleOf k), s, none⟩ := by
  simp only [State.startAlarm, hg, liveCallOf_of_liveAt hk]

variable (hg : s.program id = some g) (hno : ∀ k, ¬ LiveAt s id k)

include hg hno

theorem startAlarm_program (p : Port) (answers : Bool) : s.startAlarm p id answers = s.startProgram p id answers g := by
  simp only [State.startAlarm, hg, liveCallOf_none hno]

theorem startAlarm_notReady (hr : s.geometryReady g.targets = false) (p : Port) (answers : Bool) :
    s.startAlarm p id answers = ⟨.notReady, [], s, none⟩ := by
  rw [startAlarm_program hg hno, State.startProgram, hr]; rfl

variable (hr : s.geometryReady g.targets = true)

include hr

theorem startAlarm_noTargets (ht : (s.expand .alarm [] (fun _ => false) g.targets).1 = []) (p : Port) (answers : Bool) :
    s.startAlarm p id answers = ⟨.noTargets, byte1 0 ++ byte1 (s.expand .alarm [] (fun _ => false) g.targets).2, s, none⟩ := by
  rw [startAlarm_program hg hno, State.startProgram, hr]
  simp only [Bool.not_true, Bool.false_eq_true, if_false, ht, if_true]

variable (ht : (s.expand .alarm [] (fun _ => false) g.targets).1 ≠ [])

include ht

theorem startAlarm_limit (hn : NoSlot s g.level) (p : Port) (answers : Bool) :
    s.startAlarm p id answers = ⟨.alarmLimit, [], s, none⟩ := by
  rw [startAlarm_program hg hno, State.startProgram, hr]
  simp only [Bool.not_true, Bool.false_eq_true, if_false, ht, obtain_none hn]

theorem startAlarm_opened {v : State} {k : Nat} {d : Option (Handle × EndReason)} (ho : s.obtainAlarmSlot g.level = some (v, k, d)) (p : Port)
    (answers : Bool) : s.startAlarm p id answers =
      ⟨.ok, [], v.openAlarm p id g (alarmSweep s p answers g d) k, some ((v.openAlarm p id g (alarmSweep s p answers g d) k).handleOf k)⟩ := by
  rw [startAlarm_program hg hno, State.startProgram, hr]
  simp only [Bool.not_true, Bool.false_eq_true, if_false, ht, ho]
  rfl

end

/-! ## The slot with its old record -/

theorem displaced_reason (s : State) (h : Handle) (r : Call) :
    (s.displace h r).2 = (h, if r.state = .ended then r.reason.getD .displaced else .displaced) := by
  unfold State.displace
  split <;> rfl

/-- What a start relies on. -/
structure StartsIn (s : State) : Prop where
  held : PlayersHeld s
  order : InOrder false none s
  listings : Placed s

theorem obtained_displaced {s : State} (hs : StartsIn s) {n k : Nat} {r : Call} (h : Displaces s n k r) :
    Obtained s (s.displace (s.handleOf k) r).1 k (some r) := by
  obtain ⟨-, h1, h2, hr, ⟨he, -⟩ | ⟨hlive, -⟩⟩ := h
  · exact obtained_ended hs.held hs.order hs.listings h1 h2 hr he
  · exact obtained_live hs.held hs.listings h1 h2 hr hlive

/-! ## A try of a start -/

section

variable {s : State} {i : Nat}

theorem trigger_setTrigger (hi : i < 4) (x : Trigger) (j : Nat) : (s.setTrigger i x).trigger j = if i = j then x else s.trigger j :=
  Table.get_set _ _ _ _ _ hi

/-- A start that fails with a code that leaves no mark. -/
theorem tryTrigger_failed (hi : i < 4) {a : AnswerCode} {data : List Byte} (hok : a ≠ .ok) (hlimit : a ≠ .alarmLimit)
    (hr : s.startAlarm .bridge (s.trigger i).program false = ⟨a, data, s, none⟩) :
    (s.tryTrigger i).trigger i = { s.trigger i with pending := none, lastResult := some a } ∧ (s.tryTrigger i).endpoints = s.endpoints := by
  have hafter : (s.trigger i).afterTry ⟨a, data, s, none⟩ = { s.trigger i with pending := none, lastResult := some a } := by
    unfold Trigger.afterTry
    split
    · next h => exact absurd h hok
    · next h => exact absurd h hlimit
    · rfl
  refine ⟨?_, by rw [State.tryTrigger, hr]; rfl⟩
  rw [State.tryTrigger, hr, hafter]
  exact (trigger_setTrigger hi _ i).trans (if_pos rfl)

theorem tryTrigger_limit (hi : i < 4) (hr : s.startAlarm .bridge (s.trigger i).program false = ⟨.alarmLimit, [], s, none⟩) :
    (s.tryTrigger i).trigger i =
        { s.trigger i with pending := some ((s.trigger i).pending.getD s.seq), lastResult := some .alarmLimit } ∧
      (s.tryTrigger i).endpoints = s.endpoints := by
  refine ⟨?_, by rw [State.tryTrigger, hr]; rfl⟩
  rw [State.tryTrigger, hr]
  exact (trigger_setTrigger hi _ i).trans (if_pos rfl)

/-- The try that opens an alarm. -/
def triedOpen (v : State) (i k id : Nat) (g : AlarmProgram) (sw : Sweep) : State :=
  let t := v.openAlarm .bridge id g sw k
  (t.setTrigger i { v.trigger i with
    pending := none, lastResult := some .ok, owned := if (v.trigger i).mode = .held then some (t.handleOf k) else (v.trigger i).owned }).nextSeq

section

variable {v : State} {k : Nat} {old : Option Call} {g : AlarmProgram} {d : Option (Handle × EndReason)}

theorem openAlarm_trigger (v : State) (p : Port) (id : Nat) (g : AlarmProgram) (sw : Sweep) (k i : Nat) :
    (v.openAlarm p id g sw k).trigger i = v.trigger i := by rw [State.trigger, openAlarm_only]; rfl

theorem openAlarm_endpoints (v : State) (p : Port) (id : Nat) (g : AlarmProgram) (sw : Sweep) (k : Nat) :
    (v.openAlarm p id g sw k).endpoints = v.endpoints := by rw [openAlarm_only]

theorem openAlarm_port (v : State) (p : Port) (id : Nat) (g : AlarmProgram) (sw : Sweep) (k : Nat) (q : Port) :
    (v.openAlarm p id g sw k).port q = v.port q := port_eq (by rw [openAlarm_only]) (by rw [openAlarm_only]) q

/-- An input's record but for the call it owns. -/
theorem Obtained.trigger_fields (hv : Obtained s v k old) (hi : i < 4) :
    v.trigger i = { s.trigger i with owned := (v.trigger i).owned } := by
  rw [hv.trigger i hi]
  split
  · unfold released; split <;> rfl
  · rfl

/-- An input that owned a live record displaced owns it no more. -/
theorem Obtained.owned {r : Call} (hv : Obtained s v k (some r)) (hi : i < 4) : (v.trigger i).owned =
    if r.state.live = true ∧ (s.trigger i).owned = some (s.handleOf k) then none else (s.trigger i).owned := by
  rw [hv.trigger i hi]
  by_cases hl : r.state.live = true
  · rw [if_pos (by simpa using hl), released]
    by_cases ho : (s.trigger i).owned = some (s.handleOf k)
    · rw [if_pos ho, if_pos ⟨hl, ho⟩]
    · rw [if_neg ho, if_neg fun h => ho h.2]
  · rw [if_neg (by simpa using hl), if_neg fun h => hl h.1]

theorem tryTrigger_opened
    (hr : s.startAlarm .bridge (s.trigger i).program false = ⟨.ok, [], v.openAlarm .bridge (s.trigger i).program g (alarmSweep s .bridge false g d) k,
      some ((v.openAlarm .bridge (s.trigger i).program g (alarmSweep s .bridge false g d) k).handleOf k)⟩) :
    s.tryTrigger i = triedOpen v i k (s.trigger i).program g (alarmSweep s .bridge false g d) := by
  rw [State.tryTrigger, hr, triedOpen]
  dsimp only
  rw [openAlarm_trigger]
  rfl

/-- The opening of an alarm by a try. -/
theorem triedOpen_opened (hi : i < 4) (hv : Obtained s v k old) (ht : (s.expand .alarm [] (fun _ => false) g.targets).1 ≠ []) (id : Nat) :
    let t := triedOpen v i k id g (alarmSweep s .bridge false g d)
    AlarmOpened s t .bridge false id k g d ∧
    t.trigger i = { v.trigger i with
      pending := none, lastResult := some .ok, owned := if (v.trigger i).mode = .held then some (t.handleOf k) else (v.trigger i).owned } ∧
    (∀ j, j ≠ i → t.trigger j = v.trigger j) ∧ t.endpoints = v.endpoints ∧ (∀ q, t.port q = v.port q) ∧ PlayersHeld t := by
  intro t
  refine ⟨alarmOpened_openAlarm hv ht, (trigger_setTrigger hi _ i).trans (if_pos rfl), fun j hj => ?_, openAlarm_endpoints .., fun q => ?_,
    (openAlarm_held hv ht).congr rfl rfl rfl⟩
  · exact ((trigger_setTrigger hi _ j).trans (if_neg (Ne.symm hj))).trans (openAlarm_trigger ..)
  · exact (port_eq rfl rfl q).trans (openAlarm_port ..)

end

/-- A try of a start at an input. -/
theorem triedStart_tryTrigger (hs : StartsIn s) (hi : i < 4) : TriedStart s (s.tryTrigger i) i := by
  unfold TriedStart
  intro x targets failed opened
  refine ⟨fun hg => tryTrigger_failed hi (by decide) (by decide) (startAlarm_badParam hg _ _),
    fun g k hg hk => tryTrigger_failed hi (by decide) (by decide) (startAlarm_active hg hk _ _), fun g hg hno => ⟨fun hr =>
    tryTrigger_failed hi (by decide) (by decide) (startAlarm_notReady hg hno hr _ _), fun hr => ⟨fun ht =>
    tryTrigger_failed hi (by decide) (by decide) (startAlarm_noTargets hg hno hr ht _ _), fun ht => ⟨fun hn =>
    tryTrigger_limit hi (startAlarm_limit hg hno hr ht hn _ _), fun k hk => ?_, fun k r hk => ?_⟩⟩⟩⟩
  · have hv := obtained_lowest hs.held hk
    rw [tryTrigger_opened (startAlarm_opened hg hno hr ht (obtain_lowest hk) _ _)]
    obtain ⟨h1, h2, -⟩ := triedOpen_opened (d := none) hi hv ht x.program
    exact ⟨h1, h2⟩
  · have hv := obtained_displaced hs hk
    have ho := obtain_displaced hk
    rw [displaced_reason] at ho
    rw [tryTrigger_opened (startAlarm_opened hg hno hr ht ho _ _)]
    obtain ⟨h1, h2, h3, h4, h5, -⟩ := triedOpen_opened (d := some (s.handleOf k, if r.state = .ended then r.reason.getD .displaced else .displaced))
      hi hv ht x.program
    refine ⟨h1, ?_, fun j hj hji hlive howned => ?_, fun ep hep => ?_, fun sw hsw q hq hin => ?_⟩
    · rw [h2, hv.trigger_fields hi, hv.owned hi]
    · rw [h3 j hji, hv.trigger j hj, if_pos (by simpa using hlive), released, if_pos howned]
    · rw [h4] at hep
      obtain ⟨e, -, rfl⟩ := Table.exists_get_of_mem (Endpoint.initial 0) hep
      exact hv.unlisted rfl e
    · exact answered_congr (hv.stopped r sw rfl hsw q hq hin) rfl (by rw [h5]) (by rw [h5])

end

end Sys2Proof.Calls
end

section
/-! PROOFS. START_ALARM by request (08 R143, R144). -/

namespace Sys2Proof.Calls

open Sys2Proof.Machine

section

variable (s : State) (p : Port) (o : Owner) (c : Instr) (ph : Phase)

theorem begun_liveAt (id k : Nat) : LiveAt (s.begun p o c ph) id k = LiveAt s id k := by cases p <;> rfl

theorem begun_program (id : Nat) : (s.begun p o c ph).program id = s.program id := by cases p <;> rfl

theorem begun_geometryReady (ts : List Target) : (s.begun p o c ph).geometryReady ts = s.geometryReady ts := by cases p <;> rfl

theorem begun_noSlot (n : Nat) : NoSlot (s.begun p o c ph) n = NoSlot s n := by cases p <;> rfl

theorem begun_lowestFree (k : Nat) : LowestFree (s.begun p o c ph) k = LowestFree s k := by cases p <;> rfl

theorem begun_displaces (n k : Nat) (r : Call) : Displaces (s.begun p o c ph) n k r = Displaces s n k r := by cases p <;> rfl

theorem begun_alarmOpened : AlarmOpened (s.begun p o c ph) = AlarmOpened s := by cases p <;> rfl

theorem begun_handleOf (k : Nat) : (s.begun p o c ph).handleOf k = s.handleOf k := by cases p <;> rfl

theorem begun_trigger (i : Nat) : (s.begun p o c ph).trigger i = s.trigger i := by cases p <;> rfl

theorem begun_port_self : (s.begun p o c ph).port p = { s.port p with inProgress := some ⟨c, ph⟩ } := by cases p <;> rfl

theorem begun_startsIn (hp : PlayersHeld s) (ho : InOrder false none s) (hl : s.listingsOk) : StartsIn (s.begun p o c ph) where
  held := hp.congr (begun_calls ..) (begun_players ..) (by cases p <;> rfl)
  order := ho.same (begun_calls ..) (begun_endpoints ..) (by cases p <;> rfl)
  listings := placed_of_listingsOk (listingsOk_congr (begun_calls ..) (begun_endpoints ..) hl)

end

theorem alarmOpened_enterPhase (s t : State) (q : Port) (ph : Phase) : AlarmOpened s (t.enterPhase q ph) = AlarmOpened s t := by
  cases q <;> rfl

theorem enterPhase_only (s : State) (p : Port) (ph : Phase) : OnlyPorts s (s.enterPhase p ph) := setPort_only _ _ _

theorem enterPhase_port_self (s : State) (p : Port) (ph : Phase) : (s.enterPhase p ph).port p =
    { s.port p with inProgress := (s.port p).inProgress.map fun ip => { ip with phase := ph } } := by cases p <;> rfl

theorem enterPhase_port_ne (s : State) {p q : Port} (h : q ≠ p) (ph : Phase) : (s.enterPhase p ph).port q = s.port q := by
  obtain rfl : q = p.other := by cases p <;> cases q <;> simp_all [Port.other]
  exact State.setPort_port_other ..

/-- The state in which a START_ALARM of port `p` has opened its alarm in slot `k`. -/
def startedBy (v : State) (p : Port) (id k : Nat) (g : AlarmProgram) (sw : Sweep) : State :=
  (v.openAlarm p id g sw k).enterPhase p (.sweeping k)

theorem enterPhase_standing (s : State) (p : Port) (ph : Phase) : (s.enterPhase p ph).standing = s.standing :=
  State.setPort_standing _ _ _ rfl

theorem noPending_iff {s : State} : s.noPending = true ↔ ∀ i, i < 4 → (s.trigger i).pending = none := by
  rw [State.noPending, List.all_eq_true]
  constructor
  · exact fun h i hi => Option.isNone_iff_eq_none.1 (h _ (Table.get_mem s.triggers i _ hi))
  · intro h t ht
    obtain ⟨i, hi, rfl⟩ := Table.exists_get_of_mem (.initial .off false) ht
    exact Option.isNone_iff_eq_none.2 (h i hi)

theorem exec_startAlarm {s : State} {p : Port} {tag id : Nat} (hm : s.mayTake p .alarmSequencer = true) :
    exec (.startAlarm p tag id) s = .next (takeStartAlarm p id (s.begun p .alarmSequencer (.startAlarm p tag id) .waiting)) := by
  show Host.Outcome.next (s.request p .alarmSequencer _ _) = _
  rw [State.request_of_mayTake _ _ hm]

/-- A start that opens no alarm is answered. -/
theorem startAlarm_refused {s : State} {p : Port} {tag id : Nat} (hm : s.mayTake p .alarmSequencer = true) {a : AnswerCode} {data : List Byte}
    (h : ∀ u, u = s.begun p .alarmSequencer (.startAlarm p tag id) .waiting → u.startAlarm p id true = ⟨a, data, u, none⟩) :
    exec (.startAlarm p tag id) s = .next (s.replied p .alarmSequencer (.startAlarm p tag id) a data) := by
  refine congrArg _ (request_answered hm ?_)
  unfold takeStartAlarm
  rw [h _ rfl]

section

variable {s b v : State} {p : Port} {tag id k : Nat} {g : AlarmProgram} {old : Option Call} {d : Option (Handle × EndReason)}

/-- What a START_ALARM that opens an alarm leaves; `b` is the state in which its request has been taken. -/
theorem startAlarm_opens (hm : s.mayTake p .alarmSequencer = true) (hn : s.noPending = true) (hheld : s.sweepsHeld)
    (hb : s.begun p .alarmSequencer (.startAlarm p tag id) .waiting = b) (hv : Obtained b v k old) (hold : (s.slot k).record = old)
    (hun : ∀ e, (v.ep e).lists (s.handleOf k) = false) (ht : (s.expand .alarm [] (fun _ => false) g.targets).1 ≠ [])
    (hr : b.startAlarm p id true = ⟨.ok, [], v.openAlarm p id g (alarmSweep b p true g d) k,
      some ((v.openAlarm p id g (alarmSweep b p true g d) k).handleOf k)⟩) :
    ∃ t, exec (.startAlarm p tag id) s = .next t ∧ AlarmOpened s t p true id k g d ∧
      (t.port p).inProgress = some ⟨.startAlarm p tag id, .sweeping k⟩ ∧ (t.port p).answers = (s.port p).answers ∧
      t.standing = (s.serve p .alarmSequencer).standing ∧ (∀ ep ∈ t.endpoints.cells, ep.lists (s.handleOf k) = false) ∧
      (∀ i, i < 4 → (s.trigger i).owned ≠ some (s.handleOf k) → t.trigger i = s.trigger i) ∧
      (∀ i r, i < 4 → (s.trigger i).owned = some (s.handleOf k) → (s.slot k).record = some r → r.state.live = true →
        t.trigger i = { s.trigger i with owned := none }) ∧
      ∀ r sw, (s.slot k).record = some r → r.sweep = some sw →
        SweepAnswered s t k sw .unknownCall (stoppedData (s.handleOf k) sw) := by
  have hidle : (s.port p).inProgress = none := by
    simp only [State.mayTake, Bool.and_eq_true, Option.isNone_iff_eq_none] at hm
    exact hm.1.1
  have hsweep : ∀ r sw, old = some r → r.sweep = some sw → sw.answers = true → sw.port ≠ p := fun r sw ho hsw ha hp => by
    obtain ⟨q, hq⟩ := hheld.1 k r sw (hold.trans ho) hsw ha
    rw [hp, hidle] at hq; cases hq
  have hport := hv.port p hsweep
  have hstand := State.startAlarm_standing b p id true
  have hb1 : AlarmOpened b = AlarmOpened s := hb ▸ begun_alarmOpened ..
  have hb2 : b.expand .alarm [] (fun _ => false) g.targets = s.expand .alarm [] (fun _ => false) g.targets := hb ▸ begun_expand ..
  have hb3 : ∀ i, b.trigger i = s.trigger i := hb ▸ begun_trigger s p _ _ _
  have hb4 : b.handleOf k = s.handleOf k := hb ▸ begun_handleOf ..
  have hb5 : b.port p = { s.port p with inProgress := some ⟨.startAlarm p tag id, .waiting⟩ } := hb ▸ begun_port_self ..
  have hb6 : ∀ q, q ≠ p → b.port q = s.port q := fun q hq => hb ▸ begun_port_ne s hq _ _ _
  have hb7 : b.standing = (s.serve p .alarmSequencer).standing := hb ▸ begun_standing ..
  rw [← hb2] at ht
  have hopened := alarmOpened_openAlarm (p := p) (answers := true) (id := id) (g := g) (d := d) hv ht
  have hheld' := openAlarm_held (p := p) (answers := true) (id := id) (g := g) (d := d) hv ht
  have hwt := openAlarm_trigger v p id g (alarmSweep b p true g d) k
  have hwe := openAlarm_endpoints v p id g (alarmSweep b p true g d) k
  have hwp := openAlarm_port v p id g (alarmSweep b p true g d) k
  have hexec := exec_startAlarm (tag := tag) (id := id) hm
  rw [hb, takeStartAlarm, hr] at hexec
  rw [hr] at hstand
  dsimp only at hexec hstand
  rw [hb1] at hopened
  rw [show ((v.openAlarm p id g (alarmSweep b p true g d) k).handleOf k).slot = k from rfl] at hexec
  generalize v.openAlarm p id g (alarmSweep b p true g d) k = w at hopened hheld' hwt hwe hwp hexec hstand
  have hwn : w.noPending = true := by
    rw [noPending_iff] at hn ⊢
    intro i hi
    rw [hwt, hv.trigger i hi, hb3]
    split
    · rw [released_pending]; exact hn i hi
    · exact hn i hi
  have hpo := enterPhase_only w p (.sweeping k)
  have hset := settled_settle (hheld'.ports hpo) (hpo.noPending.trans hwn) b
  refine ⟨_, hexec, hset.alarmOpened (by rw [alarmOpened_enterPhase]; exact hopened), ?_, ?_, ?_, fun ep hep => ?_, fun i hi ho => ?_,
    fun i r hi ho hrec hl => ?_, fun r sw hrec hsw => hset.answered fun q ha hin => ?_⟩
  · rw [(hset.port p).2, enterPhase_port_self, hwp, hport, hb5]; rfl
  · rw [(hset.port p).1, enterPhase_port_self, hwp, hport, hb5]
  · rw [State.settle_standing]
    exact (enterPhase_standing w p _).trans (hstand.trans hb7)
  · rw [hset.endpoints, hpo.endpoints, hwe] at hep
    obtain ⟨e, -, rfl⟩ := Table.exists_get_of_mem (Endpoint.initial 0) hep
    exact hun e
  · rw [hset.trigger, State.trigger, hpo.alarms.2.1]
    refine (hwt i).trans ?_
    rw [hv.trigger i hi, hb3, hb4, released, if_neg ho, ite_self]
  · rw [hset.trigger, State.trigger, hpo.alarms.2.1]
    refine (hwt i).trans ?_
    rw [hv.trigger i hi, hb3, hb4, ← hold, hrec, if_pos (by simpa using hl), released, if_pos ho]
  · have hne : sw.port ≠ p := hsweep r sw (hold.symm.trans hrec) hsw ha
    have hstop := hv.stopped r sw (hold.symm.trans hrec) hsw q ha (by rw [hb6 _ hne]; exact hin)
    rw [hb4] at hstop
    refine answered_congr hstop (by rw [hb6 _ hne]) ?_ ?_ <;> rw [enterPhase_port_ne w hne, hwp]

end

theorem startsByRequest : StartsByRequest := by
  intro s p tag id hm c refused
  refine ⟨fun hg => startAlarm_refused hm fun u hu => startAlarm_badParam (by rw [hu, begun_program]; exact hg) _ _,
    fun g k hg hk => ?_, fun g hg hno => ?_⟩
  · refine startAlarm_refused hm fun u hu => ?_
    rw [startAlarm_active (k := k) (g := g) (by rw [hu, begun_program]; exact hg) (by rw [hu, begun_liveAt]; exact hk), hu, begun_handleOf]
  · obtain ⟨u, hu⟩ : ∃ u, u = s.begun p .alarmSequencer (.startAlarm p tag id) .waiting := ⟨_, rfl⟩
    have hg' : u.program id = some g := by rw [hu, begun_program]; exact hg
    have hno' : ∀ k, ¬ LiveAt u id k := fun k => by rw [hu, begun_liveAt]; exact hno k
    have hx : u.expand .alarm [] (fun _ => false) g.targets = s.expand .alarm [] (fun _ => false) g.targets := hu ▸ begun_expand ..
    refine ⟨fun hr => ?_, fun hr => ?_⟩
    · refine startAlarm_refused hm fun w hw => ?_
      obtain rfl := hw.trans hu.symm
      exact startAlarm_notReady hg' hno' (by rw [hu, begun_geometryReady]; exact hr) _ _
    have hr' : u.geometryReady g.targets = true := by rw [hu, begun_geometryReady]; exact hr
    refine ⟨fun ht => ?_, fun ht => ⟨fun hns => ?_, fun hn hc hp hheld hl k d hcase => ?_⟩⟩
    · refine startAlarm_refused hm fun w hw => ?_
      obtain rfl := hw.trans hu.symm
      rw [startAlarm_noTargets hg' hno' hr' (by rw [hx]; exact ht), hx]
    · refine startAlarm_refused hm fun w hw => ?_
      obtain rfl := hw.trans hu.symm
      exact startAlarm_limit hg' hno' hr' (by rw [hx]; exact ht) (by rw [hu, begun_noSlot]; exact hns) _ _
    · have hstarts : StartsIn u := hu ▸ begun_startsIn s p _ _ _ (playersHeld_of_playersOk hc hp) (inOrder_of_callsOk hc) hl
      have ht' : (u.expand .alarm [] (fun _ => false) g.targets).1 ≠ [] := by rw [hx]; exact ht
      rcases hcase with ⟨hlow, rfl⟩ | ⟨r, hdis, rfl⟩
      · have hlow' : LowestFree u k := by rw [hu, begun_lowestFree]; exact hlow
        have hun : ∀ e, (u.ep e).lists (s.handleOf k) = false := fun e => by
          rw [hu, begun_ep]
          exact unlisted_of_dead (placed_of_listingsOk hl) (fun r hr => by rw [hlow.2.2.1] at hr; cases hr) e
        exact startAlarm_opens hm hn hheld hu.symm (obtained_lowest hstarts.held hlow') hlow.2.2.1 hun ht
          (startAlarm_opened hg' hno' hr' ht' (obtain_lowest hlow') _ _)
      · have hdis' : Displaces u g.level k r := by rw [hu, begun_displaces]; exact hdis
        have ho := obtain_displaced hdis'
        have hh : u.handleOf k = s.handleOf k := hu ▸ begun_handleOf ..
        rw [displaced_reason, hh] at ho
        have hv := obtained_displaced hstarts hdis'
        rw [hh] at hv
        exact startAlarm_opens hm hn hheld hu.symm hv hdis.2.2.2.1 (fun e => hh ▸ hv.unlisted rfl e) ht
          (startAlarm_opened hg' hno' hr' ht' ho _ _)

end Sys2Proof.Calls
end

section
/-! PROOFS. The starts at the trigger inputs, and the order in which pending starts are tried (08 R146 to R148). -/

namespace Sys2Proof.Calls

open Sys2Proof.Machine

/-! ## A try, and the settling of the event -/

/-- A start leaves an input's record as it is, or takes from it a call it owned. -/
theorem startAlarm_trigger (s : State) (p : Port) (id : Nat) (answers : Bool) {i : Nat} (hi : i < 4) :
    (s.startAlarm p id answers).state.trigger i = s.trigger i ∨ ∃ h, (s.startAlarm p id answers).state.trigger i = released h (s.trigger i) := by
  have hdisplace : ∀ h c, (s.displace h c).1.trigger i = s.trigger i ∨ ∃ k, (s.displace h c).1.trigger i = released k (s.trigger i) := by
    intro h c
    unfold State.displace
    split
    · exact .inl rfl
    · have hserve : ∀ u : State, u.servePlayers.trigger i = u.trigger i := fun u => by rw [servePlayers_only u]; rfl
      rw [hserve]
      rcases endCall_cases s h .displaced with ⟨d, hd, -, he⟩ | ⟨-, he⟩ <;> rw [he]
      · have ht := trigger_enterEnding s h d .displaced hi
        split at ht
        · exact .inr ⟨h, ht⟩
        · exact .inl ht
      · exact .inl rfl
  unfold State.startAlarm
  split
  · exact .inl rfl
  · split
    · exact .inl rfl
    · unfold State.startProgram
      split
      · exact .inl rfl
      · dsimp only
        split
        · exact .inl rfl
        · split
          · exact .inl rfl
          · rename_i v k d ho
            rw [openAlarm_trigger]
            unfold State.obtainAlarmSlot at ho
            split at ho
            · cases ho; exact .inl rfl
            · split at ho
              · cases ho; exact hdisplace _ _
              · cases ho

/-- A start changes the calls only when it opens an alarm. -/
theorem startAlarm_cases (s : State) (p : Port) (id : Nat) (answers : Bool) :
    (s.startAlarm p id answers).code = .ok ∨ (s.startAlarm p id answers).state = s := by
  unfold State.startAlarm
  split
  · exact .inr rfl
  · split
    · exact .inr rfl
    · unfold State.startProgram
      split
      · exact .inr rfl
      · dsimp only
        split
        · exact .inr rfl
        · split
          · exact .inr rfl
          · exact .inl rfl

theorem released_owned_none {h : Handle} {t : Trigger} (ho : t.owned = none) : released h t = t := by
  rw [released, if_neg (by rw [ho]; nofun)]

section

variable {s : State} {i : Nat} (hi : i < 4)

include hi

theorem tryTrigger_trigger_self : (s.tryTrigger i).trigger i =
    ((s.startAlarm .bridge (s.trigger i).program false).state.trigger i).afterTry (s.startAlarm .bridge (s.trigger i).program false) :=
  (trigger_setTrigger hi _ i).trans (if_pos rfl)

theorem tryTrigger_trigger_ne {j : Nat} (hj : j ≠ i) :
    (s.tryTrigger i).trigger j = (s.startAlarm .bridge (s.trigger i).program false).state.trigger j :=
  (trigger_setTrigger hi _ j).trans (if_neg (Ne.symm hj))

/-- A try with no other start pending leaves none, or leaves the calls as they are. -/
theorem tryTrigger_pending (hn : ∀ j, j < 4 → j ≠ i → (s.trigger j).pending = none) :
    (s.tryTrigger i).noPending = true ∨ (s.tryTrigger i).calls = s.calls := by
  rcases startAlarm_cases s .bridge (s.trigger i).program false with hok | hsame
  · left
    rw [noPending_iff]
    intro j hj
    by_cases hji : j = i
    · subst hji
      rw [tryTrigger_trigger_self hj]
      unfold Trigger.afterTry
      rw [hok]
    · rw [tryTrigger_trigger_ne hi hji]
      rcases startAlarm_trigger s .bridge (s.trigger i).program false hj with he | ⟨h, he⟩ <;> rw [he]
      · exact hn j hj hji
      · rw [released_pending]; exact hn j hj hji
  · right
    have hcalls : (s.tryTrigger i).calls = (s.startAlarm .bridge (s.trigger i).program false).state.calls := rfl
    rw [hcalls, hsame]

end

theorem PlayersHeld.tryTrigger {s : State} (hs : PlayersHeld s) (i : Nat) : PlayersHeld (s.tryTrigger i) :=
  (hs.startAlarm .bridge (s.trigger i).program false).congr rfl rfl rfl

/-! ## Released alarm slots -/

theorem alarmReleased_iff {s t : State} : alarmReleased s t = true ↔ ∃ k, Released s t k := by
  rw [alarmReleased, List.any_eq_true]
  refine exists_congr fun k => ?_
  unfold Released
  rw [mem_alarmSlots_iff, and_assoc]
  refine and_congr_right fun _ => and_congr_right fun _ => ?_
  cases (s.slot k).record with
  | none => simp
  | some c =>
    cases (t.slot k).record with
    | none => simp
    | some d => simp

/-- The settling of the calls releases no alarm slot. -/
theorem not_released_settleCalls {s t : State} (hc : t.calls = s.calls) (k : Nat) : ¬ Released s t.settleCalls k := by
  rintro ⟨-, -, c, hrec, hor⟩
  have hset := settles_settleCalls t
  obtain ⟨d, hd, hcd⟩ := hset.record (i := k) (by rw [slot_of_calls hc]; exact hrec)
  rcases hor with hnone | hgen | ⟨hlive, d', hd', hdead⟩
  · cases hd.symm.trans hnone
  · exact hgen (by rw [hset.gens, slot_of_calls hc])
  · obtain rfl := Option.some.inj (hd.symm.trans hd')
    rw [hcd.state_eq fun he => by rw [he] at hlive; cases hlive] at hdead
    rw [hlive] at hdead; cases hdead

theorem settle_of_not_released {s t : State} (h : ∀ k, ¬ Released s t.settleCalls k) : settle s t = t.settleCalls.refresh := by
  have hn : alarmReleased s t.settleCalls = false := by
    rw [← Bool.not_eq_true, alarmReleased_iff]; exact fun ⟨k, hk⟩ => h k hk
  simp only [settle, hn, Bool.false_eq_true, if_false]

theorem settle_of_released {s t : State} {k : Nat} (h : Released s t.settleCalls k) :
    settle s t = t.settleCalls.retryPending.settleCalls.refresh := by
  simp only [settle, alarmReleased_iff.2 ⟨k, h⟩, if_true]

/-- The settling of an event with no start pending, or with the calls as they were. -/
theorem settled_event {s t : State} (ht : PlayersHeld t) (h : t.noPending = true ∨ t.calls = s.calls) : Settled t (settle s t) := by
  rcases h with hn | hc
  · exact settled_settle ht hn s
  · rw [settle_of_not_released (not_released_settleCalls hc)]
    exact settled_once ht

/-! ## What a try has done stays through the settling -/

theorem Settled.triedStart {s t u : State} {i : Nat} (h : Settled t u) (ht : TriedStart s t i) : TriedStart s u i := by
  have htr := h.trigger
  have hep := h.endpoints
  have hh := h.handleOf
  unfold TriedStart at ht ⊢
  rw [htr, hep]
  obtain ⟨h1, h2, h3⟩ := ht
  refine ⟨h1, h2, fun g hg hno => ?_⟩
  obtain ⟨h4, h5⟩ := h3 g hg hno
  refine ⟨h4, fun hr => ?_⟩
  obtain ⟨h6, h7⟩ := h5 hr
  refine ⟨h6, fun ht => ?_⟩
  obtain ⟨h8, h9, h10⟩ := h7 ht
  refine ⟨h8, fun k hk => ?_, fun k r hk => ?_⟩
  · obtain ⟨ha, hb⟩ := h9 k hk
    exact ⟨h.alarmOpened ha, by dsimp only; rw [hh]; exact hb⟩
  · obtain ⟨ha, hb, hc, hd, he⟩ := h10 k r hk
    exact ⟨h.alarmOpened ha, by dsimp only; rw [hh]; exact hb, fun j hj hji hl ho => by rw [htr]; exact hc j hj hji hl ho, hd,
      fun sw hsw => h.answered (he sw hsw)⟩

end Sys2Proof.Calls
end

section
/-! PROOFS. The starts and releases of the trigger inputs, and the order of the pending starts (08 R146 to R148). -/

namespace Sys2Proof.Calls

open Sys2Proof.Machine

/-! ## The order of the pending starts -/

theorem insertByStamp_perm (x : Nat × Nat) (l : List (Nat × Nat)) : (insertByStamp x l).Perm (x :: l) := by
  induction l with
  | nil => exact .refl _
  | cons y ys ih =>
    unfold insertByStamp
    split
    · exact .refl _
    · exact (ih.cons y).trans (.swap x y ys)

theorem insertByStamp_sorted {x : Nat × Nat} {l : List (Nat × Nat)} (h : l.Pairwise (·.1 ≤ ·.1)) :
    (insertByStamp x l).Pairwise (·.1 ≤ ·.1) := by
  induction l with
  | nil => exact List.pairwise_singleton _ _
  | cons y ys ih =>
    obtain ⟨hy, hys⟩ := List.pairwise_cons.1 h
    unfold insertByStamp
    split
    · next hlt =>
      refine List.pairwise_cons.2 ⟨fun z hz => ?_, h⟩
      rcases List.mem_cons.1 hz with rfl | hz
      · exact hlt.le
      · exact hlt.le.trans (hy z hz)
    · next hle =>
      refine List.pairwise_cons.2 ⟨fun z hz => ?_, ih hys⟩
      rcases List.mem_cons.1 ((insertByStamp_perm x ys).mem_iff.1 hz) with rfl | hz
      · exact Nat.not_lt.1 hle
      · exact hy z hz

/-- The stamps of the pending marks, with their inputs. -/
def stamps (s : State) : List (Nat × Nat) := (List.range 4).filterMap fun i => (s.trigger i).pending.map (·, i)

theorem pendingInputs_eq (s : State) : s.pendingInputs = ((stamps s).foldr insertByStamp []).map (·.2) := rfl

theorem mem_stamps {s : State} {x : Nat × Nat} : x ∈ stamps s ↔ x.2 < 4 ∧ (s.trigger x.2).pending = some x.1 := by
  obtain ⟨n, i⟩ := x
  simp only [stamps, List.mem_filterMap, List.mem_range, Option.map_eq_some_iff, Prod.mk.injEq]
  constructor
  · rintro ⟨j, hj, m, hm, rfl, rfl⟩; exact ⟨hj, hm⟩
  · rintro ⟨hi, hm⟩; exact ⟨i, hi, n, hm, rfl, rfl⟩

theorem sortStamps_spec (l : List (Nat × Nat)) :
    (l.foldr insertByStamp []).Perm l ∧ (l.foldr insertByStamp []).Pairwise (·.1 ≤ ·.1) := by
  induction l with
  | nil => exact ⟨.refl _, .nil⟩
  | cons x l ih => exact ⟨(insertByStamp_perm x _).trans (ih.1.cons x), insertByStamp_sorted ih.2⟩

theorem stamps_nodup (s : State) : ((stamps s).map (·.2)).Nodup := by
  have h : (stamps s).map (·.2) = (List.range 4).filter fun i => (s.trigger i).pending.isSome := by
    unfold stamps
    generalize List.range 4 = l
    induction l with
    | nil => rfl
    | cons i l ih => cases hi : (s.trigger i).pending <;> simp [hi, ih]
  rw [h]
  exact List.nodup_range.filter _

theorem mem_pendingInputs {s : State} {i : Nat} : i ∈ s.pendingInputs ↔ i < 4 ∧ (s.trigger i).pending.isSome = true := by
  rw [pendingInputs_eq, List.mem_map, Option.isSome_iff_exists]
  constructor
  · rintro ⟨x, hx, rfl⟩
    obtain ⟨h1, h2⟩ := mem_stamps.1 ((sortStamps_spec _).1.mem_iff.1 hx)
    exact ⟨h1, _, h2⟩
  · rintro ⟨hi, n, hn⟩
    exact ⟨(n, i), (sortStamps_spec _).1.mem_iff.2 (mem_stamps.2 ⟨hi, hn⟩), rfl⟩

theorem pendingInputs_nodup (s : State) : s.pendingInputs.Nodup :=
  ((sortStamps_spec _).1.map _).nodup_iff.2 (stamps_nodup s)

theorem pendingInputs_sorted (s : State) :
    s.pendingInputs.Pairwise fun i j => (s.trigger i).pending.getD 0 ≤ (s.trigger j).pending.getD 0 := by
  rw [pendingInputs_eq, List.pairwise_map]
  refine List.Pairwise.imp_of_mem (fun {x y} hx hy hxy => ?_) (sortStamps_spec (stamps s)).2
  rw [(mem_stamps.1 ((sortStamps_spec _).1.mem_iff.1 hx)).2, (mem_stamps.1 ((sortStamps_spec _).1.mem_iff.1 hy)).2]
  exact hxy

theorem startsIn_of_invariants {s : State} (hc : s.callsOk) (hp : s.playersOk) (hl : s.listingsOk) : StartsIn s :=
  ⟨playersHeld_of_playersOk hc hp, inOrder_of_callsOk hc, placed_of_listingsOk hl⟩

theorem retriesInOrder : RetriesInOrder := by
  refine ⟨?_, fun s i hi hc hp _ hl => triedStart_tryTrigger (startsIn_of_invariants hc hp hl) hi⟩
  intro s t u
  refine ⟨fun h => settle_of_not_released h, fun ⟨k, hk⟩ => ?_⟩
  exact ⟨u.pendingInputs, pendingInputs_nodup u, fun _ => mem_pendingInputs, pendingInputs_sorted u, settle_of_released hk⟩

/-! ## The expiry of a debounce timer -/

theorem exec_debounceExpiry {s : State} {i n : Nat} (ht : (s.trigger i).timer = .running n) :
    exec (.debounceExpiry i) s = .next (settle s (s.debounce i)) := by
  show Host.Outcome.next (if _ then _ else _) = _
  rw [ht]; rfl

/-- The state in which the debounced level has taken the pin level. -/
def debounced (s : State) (i : Nat) : State :=
  s.setTrigger i { s.trigger i with debounced := (s.trigger i).pin, timer := .stopped }

/-- The state in which a HELD input is released. -/
def releasedInput (s : State) (i : Nat) : State := s.setTrigger i { s.trigger i with owned := none, pending := none }

section

variable {s : State} {i : Nat} (hi : i < 4)

theorem debounce_eq (s : State) (i : Nat) : s.debounce i = if (s.trigger i).pin = (s.trigger i).debounced then debounced s i
    else if (s.trigger i).pin then (debounced s i).activate i else (debounced s i).release i := rfl

theorem debounce_same (h : (s.trigger i).pin = (s.trigger i).debounced) : s.debounce i = debounced s i := by
  rw [debounce_eq, if_pos h]

include hi

theorem debounced_trigger : (debounced s i).trigger i = { s.trigger i with debounced := (s.trigger i).pin, timer := .stopped } :=
  (trigger_setTrigger hi _ i).trans (if_pos rfl)

theorem debounce_activate (hp : (s.trigger i).pin = true) (hd : (s.trigger i).debounced = false) :
    s.debounce i = if (s.trigger i).mode = .off then debounced s i else (debounced s i).tryTrigger i := by
  have hact : s.debounce i = (debounced s i).activate i := by
    rw [debounce_eq, if_neg (by rw [hp, hd]; decide), if_pos hp]
  have hmode : ((debounced s i).trigger i).mode = (s.trigger i).mode := by rw [debounced_trigger hi]
  rw [hact, State.activate, hmode]
  cases (s.trigger i).mode <;> rfl

section

variable (hp : (s.trigger i).pin = false) (hd : (s.trigger i).debounced = true)

include hp hd

omit hi in
theorem debounce_release : s.debounce i = (debounced s i).release i := by
  rw [debounce_eq, if_neg (by rw [hp, hd]; decide), if_neg (by rw [hp]; decide)]

theorem debounce_kept (hm : (s.trigger i).mode ≠ .held) : s.debounce i = debounced s i := by
  rw [debounce_release hp hd, State.release, if_neg (by rw [debounced_trigger hi]; exact hm)]

theorem debounce_freed (hm : (s.trigger i).mode = .held) (ho : (s.trigger i).owned = none) :
    s.debounce i = releasedInput (debounced s i) i := by
  have hown : ((debounced s i).trigger i).owned = none := by rw [debounced_trigger hi]; exact ho
  rw [debounce_release hp hd, State.release, if_pos (by rw [debounced_trigger hi]; exact hm), hown]
  rfl

theorem debounce_ends (hm : (s.trigger i).mode = .held) {h : Handle} (ho : (s.trigger i).owned = some h) :
    s.debounce i = (releasedInput (debounced s i) i).endCall h .inputReleased := by
  have hown : ((debounced s i).trigger i).owned = some h := by rw [debounced_trigger hi]; exact ho
  rw [debounce_release hp hd, State.release, if_pos (by rw [debounced_trigger hi]; exact hm), hown]
  rfl

end

theorem releasedInput_trigger : (releasedInput (debounced s i) i).trigger i =
    { s.trigger i with debounced := (s.trigger i).pin, timer := .stopped, owned := none, pending := none } := by
  refine (trigger_setTrigger hi _ i).trans ((if_pos rfl).trans ?_)
  rw [debounced_trigger hi]

end

theorem setTrigger_noPending {s : State} (hn : s.noPending = true) {i : Nat} (hi : i < 4) {x : Trigger} (hx : x.pending = none) :
    (s.setTrigger i x).noPending = true := by
  rw [noPending_iff] at hn ⊢
  intro j hj
  rw [trigger_setTrigger hi]
  split
  · exact hx
  · exact hn j hj

theorem debounced_noPending {s : State} {i : Nat} (hi : i < 4) (hn : s.noPending = true) : (debounced s i).noPending = true :=
  setTrigger_noPending hn hi (noPending_iff.1 hn i hi : (s.trigger i).pending = none)

theorem releasedInput_noPending {s : State} {i : Nat} (hi : i < 4) (hn : s.noPending = true) : (releasedInput s i).noPending = true :=
  setTrigger_noPending hn hi (x := { s.trigger i with owned := none, pending := none }) rfl

theorem releasedInput_standing {s : State} {i : Nat} : (releasedInput s i).standing = s.standing := State.setTrigger_standing _ _ _ rfl

/-! ## The release of a HELD input -/

/-- The code of a sweep that an ALARM's end stops. -/
theorem stopCode_alarm {t : CallType} (ht : t = .alarm) {x : EndReason} (hx : x ≠ .cleared) (sw : Sweep) : sw.stopCode t x = .unknownCall := by
  unfold Sweep.stopCode
  cases sw.kind <;> simp [ht, hx]

section

variable {s : State} {i : Nat} (hi : i < 4) (hn : s.noPending = true) (hl : s.listingsOk)

include hi

theorem endCall_trigger_freed {u : State} (hu : (u.trigger i).owned = none) (h : Handle) (x : EndReason) :
    (u.endCall h x).trigger i = u.trigger i := by
  rcases endCall_cases u h x with ⟨c, -, -, he⟩ | ⟨-, he⟩ <;> rw [he]
  rw [trigger_enterEnding u h c x hi]
  split
  · exact released_owned_none hu
  · rfl

include hn hl

/-- The end of the live call that a released HELD input owns. -/
theorem release_ends {h : Handle} {c : Call} (hc : s.call h = some c) (hlive : c.state.live = true) :
    let t := settle s ((releasedInput (debounced s i) i).endCall h .inputReleased)
    EndedIn t h .inputReleased ∧ EndedKeeping s t h c.part ∧
      ∀ sw, c.type = .alarm → c.sweep = some sw → SweepAnswered s t h.slot sw .unknownCall (stoppedData h sw) := by
  intro t
  have hcu : (releasedInput (debounced s i) i).call h = some c := hc
  have hnu := releasedInput_noPending hi (debounced_noPending hi hn)
  have hlu : (releasedInput (debounced s i) i).listingsOk := listingsOk_congr rfl rfl hl
  have hend := ending_enterEnding hcu (apart_of_listingsOk hlu hcu) .inputReleased
  have hne := enterEnding_noPending hnu h c .inputReleased
  have ht : t = settle s ((releasedInput (debounced s i) i).enterEnding h c .inputReleased) := by
    rw [← endCall_of_live hcu hlive]
  rw [ht]
  refine ⟨(hend.settled hne s).1, hend.keeping hne s (endingKeeps_endingPart s h c.part), fun sw hty hsw q ha hin => ?_⟩
  have hans := enterEnding_answers (s := releasedInput (debounced s i) i) (h := h) hsw ha (q := q) (ph := .sweeping h.slot) hin .inputReleased
  rw [stopCode_alarm hty (by decide)] at hans
  exact settle_answered hans hne s

end

theorem startsByInput : StartsByInput := by
  intro s i n hi ht hn hc hp hheld hl x y
  have hs := playersHeld_of_playersOk hc hp
  have hd : PlayersHeld (debounced s i) := hs.congr rfl rfl rfl
  have hr : PlayersHeld (releasedInput (debounced s i) i) := hs.congr rfl rfl rfl
  have hdn := debounced_noPending hi hn
  have hrn := releasedInput_noPending hi hdn
  have hdt := debounced_trigger (s := s) hi
  have hrt := releasedInput_trigger (s := s) hi
  refine ⟨_, exec_debounceExpiry ht, ?_, fun hor => ?_, fun hpin hdeb hm => ?_, fun hpin hdeb hm => ?_, fun hpin hdeb hm => ?_⟩
  · rw [State.settle_standing]
    by_cases hsame : x.pin = x.debounced
    · rw [debounce_same hsame]; rfl
    · cases hpin : x.pin with
      | true =>
        have hdeb : x.debounced = false := by rw [hpin] at hsame; simpa using Ne.symm hsame
        rw [debounce_activate hi hpin hdeb]
        split
        · rfl
        · exact State.tryTrigger_standing _ _
      | false =>
        have hdeb : x.debounced = true := by rw [hpin] at hsame; simpa using Ne.symm hsame
        by_cases hm : x.mode = .held
        · cases ho : x.owned with
          | none => rw [debounce_freed hi hpin hdeb hm ho]; exact releasedInput_standing
          | some h =>
            rw [debounce_ends hi hpin hdeb hm ho, State.endCall_standing]
            exact releasedInput_standing
        · rw [debounce_kept hi hpin hdeb hm]; rfl
  · have he : s.debounce i = debounced s i := by
      by_cases hsame : x.pin = x.debounced
      · exact debounce_same hsame
      · have hm := hor.resolve_left hsame
        cases hpin : x.pin with
        | true =>
          have hdeb : x.debounced = false := by rw [hpin] at hsame; simpa using Ne.symm hsame
          rw [debounce_activate hi hpin hdeb, if_pos hm]
        | false =>
          have hdeb : x.debounced = true := by rw [hpin] at hsame; simpa using Ne.symm hsame
          exact debounce_kept hi hpin hdeb (by rw [hm]; decide)
    rw [he]
    have hset := settled_settle hd hdn s
    exact ⟨(hset.trigger i).trans hdt, hset.endpoints⟩
  · rw [debounce_kept hi hpin hdeb (by rw [hm]; decide)]
    exact ((settled_settle hd hdn s).trigger i).trans hdt
  · cases ho : x.owned with
    | none =>
      rw [debounce_freed hi hpin hdeb hm ho]
      have hset := settled_settle hr hrn s
      rw [hset.trigger, hrt]
      exact ⟨rfl, rfl, fun h c hh => nomatch hh⟩
    | some h =>
      rw [debounce_ends hi hpin hdeb hm ho]
      have hset := settled_settle (hr.endCall h .inputReleased) (endCall_noPending hrn h .inputReleased) s
      rw [hset.trigger, endCall_trigger_freed hi (by rw [hrt]), hrt]
      refine ⟨rfl, rfl, fun k c hh hck hlive => ?_⟩
      cases hh
      exact release_ends hi hn hl hck hlive
  · rw [debounce_activate hi hpin hdeb, if_neg hm]
    have hstarts : StartsIn (debounced s i) := ⟨hd, (inOrder_of_callsOk hc).same rfl rfl rfl, (placed_of_listingsOk hl).same rfl rfl⟩
    have hset : Settled ((debounced s i).tryTrigger i) (settle s ((debounced s i).tryTrigger i)) :=
      settled_event (hd.tryTrigger i) (tryTrigger_pending hi fun j hj _ => noPending_iff.1 hdn j hj)
    exact hset.triedStart (triedStart_tryTrigger hstarts hi)

/-! ## A release among other pending starts -/

theorem settleCalls_trigger (s : State) (i : Nat) : s.settleCalls.trigger i = s.trigger i := by rw [State.trigger, settleCalls_only s]; rfl

theorem refresh_trigger (s : State) (i : Nat) : s.refresh.trigger i = s.trigger i := rfl

/-- The tries at other inputs leave a released input as it is. -/
theorem retries_trigger {i : Nat} (hi : i < 4) {l : List Nat} (hl : ∀ j ∈ l, j < 4 ∧ j ≠ i) {s : State} (ho : (s.trigger i).owned = none) :
    (l.foldl State.tryTrigger s).trigger i = s.trigger i := by
  induction l generalizing s with
  | nil => rfl
  | cons j l ih =>
    obtain ⟨hj, hji⟩ := hl j List.mem_cons_self
    have hone : (s.tryTrigger j).trigger i = s.trigger i := by
      rw [tryTrigger_trigger_ne hj (Ne.symm hji)]
      rcases startAlarm_trigger s .bridge (s.trigger j).program false hi with he | ⟨h, he⟩ <;> rw [he]
      exact released_owned_none ho
    rw [List.foldl_cons, ih (fun k hk => hl k (List.mem_cons_of_mem _ hk)) (by rw [hone]; exact ho), hone]

theorem settle_trigger_freed {s t : State} {i : Nat} (hi : i < 4) (ho : (t.trigger i).owned = none) (hp : (t.trigger i).pending = none) :
    (settle s t).trigger i = t.trigger i := by
  have hu := settleCalls_trigger t i
  by_cases hrel : ∃ k, Released s t.settleCalls k
  · obtain ⟨k, hk⟩ := hrel
    rw [settle_of_released hk, refresh_trigger, settleCalls_trigger, State.retryPending, retries_trigger hi, hu]
    · intro j hj
      obtain ⟨hj4, hjp⟩ := mem_pendingInputs.1 hj
      refine ⟨hj4, ?_⟩
      rintro rfl
      rw [hu, hp] at hjp; cases hjp
    · rw [hu]; exact ho
  · rw [settle_of_not_released fun k hk => hrel ⟨k, hk⟩, refresh_trigger, hu]

theorem releasesKeepOrClear : ReleasesKeepOrClear := by
  intro s i n hi ht hpin hdeb
  refine ⟨_, exec_debounceExpiry ht, fun hm => ?_, fun hm => ?_⟩
  · rw [debounce_kept hi hpin hdeb (by rw [hm]; decide), settle_of_not_released (not_released_settleCalls (s := s) (t := debounced s i) rfl), refresh_trigger,
      settleCalls_trigger, debounced_trigger hi, hpin]
  · have hrt := releasedInput_trigger (s := s) hi
    cases ho : (s.trigger i).owned with
    | none =>
      rw [debounce_freed hi hpin hdeb hm ho, settle_trigger_freed hi (by rw [hrt]) (by rw [hrt]), hrt]
      exact ⟨rfl, rfl⟩
    | some h =>
      have he := endCall_trigger_freed hi (by rw [hrt] : ((releasedInput (debounced s i) i).trigger i).owned = none) h .inputReleased
      rw [debounce_ends hi hpin hdeb hm ho, settle_trigger_freed hi (by rw [he, hrt]) (by rw [he, hrt]), he, hrt]
      exact ⟨rfl, rfl⟩

end Sys2Proof.Calls
end

section
/-! PROOFS. What the commands do does not depend on the pending marks of the trigger inputs, but for the retry at the end of the event
(08 R147). -/

namespace Sys2Proof.Calls

open Sys2Proof.Machine

/-- The program with its targets put in place of its own. -/
def retarget (T : AlarmProgram → List Target) (g : AlarmProgram) : AlarmProgram := { g with targets := T g }

/-- The state with the pending marks `P` at the trigger inputs, and the targets `T` in the programs. -/
def marked (P : Nat → Option Nat) (T : AlarmProgram → List Target) (s : State) : State :=
  { s with triggers := s.triggers.mapIdx fun j t => { t with pending := P j }, programs := s.programs.map fun o => o.map (retarget T) }

section

variable (P : Nat → Option Nat) (T : AlarmProgram → List Target) (s : State)

/-! ## What is read -/

theorem call_marked (h : Handle) : (marked P T s).call h = s.call h := rfl
theorem slot_marked (i : Nat) : (marked P T s).slot i = s.slot i := rfl
theorem handles_marked : (marked P T s).handles = s.handles := rfl
theorem ep_marked (e : Nat) : (marked P T s).ep e = s.ep e := rfl
theorem port_marked (q : Port) : (marked P T s).port q = s.port q := by cases q <;> rfl

/-! ## Ports and fields -/

theorem setPort_marked (p : Port) (r : PortRec) : (marked P T s).setPort p r = marked P T (s.setPort p r) := by cases p <;> rfl

theorem answer_marked (p : Port) (a : AnswerCode) (d : List Byte) : (marked P T s).answer p a d = marked P T (s.answer p a d) := by
  rw [State.answer, port_marked, setPort_marked]; rfl

theorem enterPhase_marked (p : Port) (ph : Phase) : (marked P T s).enterPhase p ph = marked P T (s.enterPhase p ph) := by
  rw [State.enterPhase, port_marked, setPort_marked]; rfl

theorem serve_marked (p : Port) (o : Owner) : (marked P T s).serve p o = marked P T (s.serve p o) := by
  rw [State.serve, port_marked]; rfl

theorem updCall_marked (h : Handle) (f : Call → Call) : (marked P T s).updCall h f = marked P T (s.updCall h f) := by
  unfold State.updCall
  rw [call_marked]
  cases s.call h <;> rfl

/-- A change that an event makes once for each item of a list. -/
theorem foldl_marked {α : Type} {f : State → α → State} (hf : ∀ s x, f (marked P T s) x = marked P T (f s x)) (l : List α) :
    l.foldl f (marked P T s) = marked P T (l.foldl f s) := by
  induction l generalizing s with
  | nil => rfl
  | cons x l ih => rw [List.foldl_cons, hf, ih]; rfl

/-! ## Messages and players -/

theorem pauseMessage_marked (h : Handle) (m : MessagePart) : (marked P T s).pauseMessage h m = marked P T (s.pauseMessage h m) := by
  unfold State.pauseMessage
  cases m.player with
  | none => exact updCall_marked P T s h _
  | some i => exact updCall_marked P T (s.freePlayer i) h _

theorem pauseIfUnheard_marked (h : Handle) : (marked P T s).pauseIfUnheard h = marked P T (s.pauseIfUnheard h) := by
  unfold State.pauseIfUnheard
  rw [call_marked]
  cases s.call h with
  | none => rfl
  | some c =>
    cases hm : c.message with
    | none => simp only [hm]
    | some m =>
      simp only [hm, show (marked P T s).heardCount h = s.heardCount h from rfl]
      split
      · exact pauseMessage_marked P T s h m
      · rfl

theorem serveRounds_marked (n : Nat) : State.serveRounds n (marked P T s) = marked P T (State.serveRounds n s) := by
  induction n generalizing s with
  | zero => rfl
  | succ n ih =>
    have hidle : (marked P T s).idlePlayer = s.idlePlayer := rfl
    have hwait : (marked P T s).nextWaiting = s.nextWaiting := rfl
    rw [State.serveRounds, State.serveRounds, hidle, hwait]
    cases s.idlePlayer with
    | none => rfl
    | some i =>
      cases s.nextWaiting with
      | none => rfl
      | some r =>
        obtain ⟨h, c⟩ := r
        cases hm : c.message with
        | none => simp only [hm]
        | some m =>
          simp only [hm]
          rw [show (marked P T s).giveToMessage i h m = marked P T (s.giveToMessage i h m) from updCall_marked P T (s.setPlayer i _) h _, ih]

theorem servePlayers_marked : (marked P T s).servePlayers = marked P T s.servePlayers := serveRounds_marked P T s 4

theorem endFadedAt_marked (h : Handle) : (marked P T s).endFadedAt h = marked P T (s.endFadedAt h) := by
  unfold State.endFadedAt
  rw [call_marked]
  cases s.call h with
  | none => rfl
  | some c =>
    simp only [show (marked P T s).sounds h = s.sounds h from rfl]
    split <;> rfl

theorem settleCalls_marked : (marked P T s).settleCalls = marked P T s.settleCalls := by
  unfold State.settleCalls State.pauseUnheard State.endFaded
  rw [handles_marked, foldl_marked P T s (fun s h => pauseIfUnheard_marked P T s h), handles_marked, foldl_marked P T _ (fun s h => endFadedAt_marked P T s h),
    servePlayers_marked]

theorem refresh_marked : (marked P T s).refresh = marked P T s.refresh := rfl

/-! ## Endings -/

theorem freePlayerOf_marked (h : Handle) : (marked P T s).freePlayerOf h = marked P T (s.freePlayerOf h) := by
  have hp : (marked P T s).playerOf h = s.playerOf h := rfl
  unfold State.freePlayerOf
  rw [hp]
  cases s.playerOf h <;> rfl

theorem takeInterruption_marked (e : Nat) (r : Report) : (marked P T s).takeInterruption e r = marked P T (s.takeInterruption e r) := by
  rw [takeInterruption_eq, takeInterruption_eq]; rfl

theorem withdrawAt_marked (h : Handle) (cl : ListClass) (e : Nat) : (marked P T s).withdrawAt h cl e = marked P T (s.withdrawAt h cl e) := by
  unfold State.withdrawAt
  rw [ep_marked]
  split
  · exact foldl_marked P T (s.setEp e _) (fun s r => takeInterruption_marked P T s e r) _
  · rfl

theorem unbindHold_marked (h : Handle) (c : Call) : (marked P T s).unbindHold h c = marked P T (s.unbindHold h c) := by
  unfold State.unbindHold
  cases c.holdLine <;> rfl

theorem table_ext {α : Type} {n : Nat} {t u : Table α n} (d : α) (h : ∀ i, i < n → t.get i d = u.get i d) : t = u := by
  have hc : t.cells = u.cells := by
    have := map_eq_of_get (f := id) d h
    simpa using this
  cases t; cases u
  simp_all

theorem endAlarm_marked (h : Handle) : (marked P T s).endAlarm h = marked P T (s.endAlarm h) := by
  have ht : ((marked P T s).endAlarm h).triggers = (marked P T (s.endAlarm h)).triggers := by
    refine table_ext (Trigger.initial .off false) fun i hi => ?_
    have h1 : ((marked P T s).endAlarm h).triggers.get i (Trigger.initial .off false) =
        released h { s.trigger i with pending := P i } := by
      refine (Table.get_map _ _ _ (Trigger.initial .off false) _ hi).trans ?_
      exact congrArg (released h) (Table.get_mapIdx _ _ _ _ _ hi)
    have h2 : (marked P T (s.endAlarm h)).triggers.get i (Trigger.initial .off false) =
        { released h (s.trigger i) with pending := P i } := by
      refine (Table.get_mapIdx _ _ _ (Trigger.initial .off false) _ hi).trans ?_
      exact congrArg (fun t : Trigger => { t with pending := P i }) (Table.get_map _ _ _ (Trigger.initial .off false) _ hi)
    rw [h1, h2]
    unfold released
    dsimp only
    split <;> rfl
  have hrest : (marked P T s).endAlarm h = { marked P T (s.endAlarm h) with triggers := ((marked P T s).endAlarm h).triggers } := rfl
  rw [hrest, ht]

theorem answerStopped_marked (h : Handle) (t : CallType) (sw : Sweep) (x : EndReason) :
    (marked P T s).answerStopped h t sw x = marked P T (s.answerStopped h t sw x) := by
  unfold State.answerStopped
  split
  · exact answer_marked P T s _ _ _
  · rfl

theorem enterEnding_marked (h : Handle) (c : Call) (x : EndReason) : (marked P T s).enterEnding h c x = marked P T (s.enterEnding h c x) := by
  have hfreed : endingFreed (marked P T s) h c x = marked P T (endingFreed s h c x) := freePlayerOf_marked P T (s.setRecord h.slot _) h
  have hun : endingUnbound (marked P T s) h c x = marked P T (endingUnbound s h c x) := by
    unfold endingUnbound State.withdraw
    rw [hfreed, foldl_marked P T _ (fun s e => withdrawAt_marked P T s h _ e), unbindHold_marked]
  have hsil : endingSilent (marked P T s) h c x = marked P T (endingSilent s h c x) := by
    unfold endingSilent
    rw [hun]
    split
    · exact endAlarm_marked P T _ h
    · rfl
  cases hs : c.sweep with
  | none => rw [enterEnding_idle hs, enterEnding_idle hs, hsil]
  | some sw => rw [enterEnding_sweeping hs, enterEnding_sweeping hs, hsil, answerStopped_marked]

theorem endCall_marked (h : Handle) (x : EndReason) : (marked P T s).endCall h x = marked P T (s.endCall h x) := by
  unfold State.endCall
  rw [call_marked]
  cases s.call h with
  | none => rfl
  | some c =>
    dsimp only
    split
    · exact enterEnding_marked P T s h c x
    · rfl

/-! ## Reports and sweeps -/

theorem lastLoss_marked (h : Handle) (k : Cause) : (marked P T s).lastLoss h k = marked P T (s.lastLoss h k) := by
  unfold State.lastLoss
  rw [call_marked]
  cases s.call h with
  | none => rfl
  | some c =>
    simp only [show (marked P T s).listingCount h = s.listingCount h from rfl]
    split
    · split
      · exact updCall_marked P T s h _
      · exact endCall_marked P T s h _
    · rfl

theorem takeReport_marked (e : Nat) (r : Report) : State.takeReport e (marked P T s) r = marked P T (State.takeReport e s r) := by
  cases r with
  | interruption h o b => exact takeInterruption_marked P T s e _
  | lost h k =>
    cases k with
    | bump => simp only [State.takeReport, updCall_marked, lastLoss_marked]
    | disable => simp only [State.takeReport, updCall_marked, lastLoss_marked]
    | drop => exact updCall_marked P T s h _
    | ending => rfl

theorem atEndpoint_marked (e : Nat) (f : EpCtx → Endpoint → Endpoint × List Report) :
    (marked P T s).atEndpoint e f = marked P T (s.atEndpoint e f) :=
  foldl_marked P T (s.setEp e _) (fun s r => takeReport_marked P T s e r) _

theorem answerSweep_marked (sw : Sweep) (a : AnswerCode) (d : List Byte) : (marked P T s).answerSweep sw a d = marked P T (s.answerSweep sw a d) := by
  unfold State.answerSweep
  split
  · exact answer_marked P T s _ _ _
  · rfl

theorem updSweep_marked (h : Handle) (f : Sweep → Sweep) : (marked P T s).updSweep h f = marked P T (s.updSweep h f) := updCall_marked P T s h _

theorem dropSweep_marked (h : Handle) : (marked P T s).dropSweep h = marked P T (s.dropSweep h) := updCall_marked P T s h _

theorem deliver_marked (h : Handle) (c : Call) (e : Nat) (rest : List Nat) : (marked P T s).deliver h c e rest = marked P T (s.deliver h c e rest) := by
  unfold State.deliver
  rw [ep_marked]
  split
  · exact updSweep_marked P T s h _
  · simp only [updSweep_marked, updCall_marked, atEndpoint_marked]

theorem endOpening_marked (h : Handle) (c : Call) (sw : Sweep) : (marked P T s).endOpening h c sw = marked P T (s.endOpening h c sw) := by
  have hfree : ∀ s, (marked P T s).freeRecord h = marked P T (s.freeRecord h) := fun _ => rfl
  unfold State.endOpening
  simp only [show (marked P T s).listingCount h = s.listingCount h from rfl, show (marked P T s).heardCount h = s.heardCount h from rfl]
  split
  · rw [updCall_marked, answerSweep_marked]
  · split
    · rw [unbindHold_marked, hfree, answerSweep_marked]
    · rw [dropSweep_marked, answerSweep_marked, endCall_marked]

theorem endAdd_marked (h : Handle) (c : Call) (sw : Sweep) : (marked P T s).endAdd h c sw = marked P T (s.endAdd h c sw) := by
  unfold State.endAdd
  simp only [show (marked P T s).listingCount h = s.listingCount h from rfl, show (marked P T s).heardCount h = s.heardCount h from rfl]
  rw [dropSweep_marked, answerSweep_marked]
  split
  · rfl
  · exact endCall_marked P T _ h _

theorem endDelivery_marked (h : Handle) : (marked P T s).endDelivery h = marked P T (s.endDelivery h) := by
  unfold State.endDelivery
  rw [call_marked]
  cases s.call h with
  | none => rfl
  | some c =>
    cases hs : c.sweep with
    | none => simp only [hs]
    | some sw =>
      simp only [hs]
      split
      · split
        · exact endOpening_marked P T s h c sw
        · exact endAdd_marked P T s h c sw
        · rfl
      · rfl

theorem sweepTurn_marked (h : Handle) (c : Call) (rest : List Nat) : (marked P T s).sweepTurn h c rest = marked P T (s.sweepTurn h c rest) := by
  cases rest with
  | nil => exact endDelivery_marked P T s h
  | cons e es => rw [State.sweepTurn, State.sweepTurn, deliver_marked, endDelivery_marked]

theorem endDrop_marked (h : Handle) (st : CallState) : (marked P T s).endDrop h st = marked P T (s.endDrop h st) := by
  unfold State.endDrop
  rw [call_marked]
  cases (s.call h).bind (·.sweep) with
  | none => rfl
  | some sw => dsimp only; rw [dropSweep_marked, answerSweep_marked]

theorem dropTurn_marked (h : Handle) (c : Call) (rest : List Nat) : (marked P T s).dropTurn h c rest = marked P T (s.dropTurn h c rest) := by
  have hends : ∀ s, (marked P T s).dropEnds h c = s.dropEnds h c := fun _ => rfl
  cases rest with
  | nil => exact endDrop_marked P T s h _
  | cons e es =>
    rw [State.dropTurn, State.dropTurn, ep_marked]
    split
    · dsimp only
      rw [updSweep_marked, atEndpoint_marked, hends]
      split
      · rw [endDrop_marked, endCall_marked]
      · split
        · exact endDrop_marked P T _ h _
        · rfl
    · dsimp only
      rw [updSweep_marked]
      split
      · exact endDrop_marked P T _ h _
      · rfl

theorem serveSweep_marked (sw : Sweep) : (marked P T s).serveSweep sw = marked P T (s.serveSweep sw) := by
  unfold State.serveSweep
  split
  · exact serve_marked P T s _ _
  · rfl

/-! ## Steps and starts -/

theorem playerForAlarm_marked : (marked P T s).playerForAlarm = (marked P T s.playerForAlarm.1, s.playerForAlarm.2) := by
  have hidle : (marked P T s).idlePlayer = s.idlePlayer := rfl
  have hvictim : (marked P T s).victim = s.victim := rfl
  unfold State.playerForAlarm
  rw [hidle, hvictim]
  cases s.idlePlayer with
  | some i => rfl
  | none =>
    cases s.victim with
    | none => rfl
    | some r =>
      obtain ⟨h, c⟩ := r
      cases hm : c.message with
      | none => simp only [hm]
      | some m => simp only [hm, pauseMessage_marked]

theorem beginPhrase_marked (h : Handle) (rep idx id : Nat) : (marked P T s).beginPhrase h rep idx id = marked P T (s.beginPhrase h rep idx id) := by
  unfold State.beginPhrase
  rw [playerForAlarm_marked]
  obtain ⟨v, o⟩ := s.playerForAlarm
  cases o <;> rfl

theorem beginStep_marked (h : Handle) (g : AlarmProgram) (rep idx : Nat) :
    (marked P T s).beginStep h g rep idx = marked P T (s.beginStep h g rep idx) := by
  unfold State.beginStep
  cases g.steps[idx]? with
  | none => rfl
  | some st =>
    cases st with
    | tone ms => rfl
    | silence ms => rfl
    | phrase id =>
      simp only [show (marked P T s).phrase id = s.phrase id from rfl]
      split
      · exact beginPhrase_marked P T s h rep idx id
      · exact updCall_marked P T (s.setAlarmSeq h.slot _) h _

theorem nextStep_retarget (h : Handle) (g : AlarmProgram) (x : StepPosition) : s.nextStep h (retarget T g) x = s.nextStep h g x := rfl

theorem nextStep_marked (h : Handle) (g : AlarmProgram) (x : StepPosition) : (marked P T s).nextStep h g x = marked P T (s.nextStep h g x) := by
  unfold State.nextStep
  split
  · exact beginStep_marked P T s h g _ _
  · split
    · exact beginStep_marked P T s h g _ _
    · exact endCall_marked P T s h _

theorem program_marked (i : Nat) : (marked P T s).program i = (s.program i).map (retarget T) := by
  by_cases hi : i < 8
  · exact Table.get_map _ _ _ none _ hi
  · have hle : 8 ≤ i := Nat.not_lt.1 hi
    rw [show s.program i = none from Table.get_of_le _ _ _ hle]
    exact Table.get_of_le _ _ _ hle

theorem programOf_marked (h : Handle) : (marked P T s).programOf h = (s.programOf h).map (retarget T) := by
  unfold State.programOf
  rw [call_marked]
  cases s.call h with
  | none => rfl
  | some c =>
    cases ha : c.alarm with
    | none => simp only [ha]; rfl
    | some a => simp only [ha]; exact program_marked P T s a.program

theorem alarmStepEnd_marked (i : Nat) : (marked P T s).alarmStepEnd i = marked P T (s.alarmStepEnd i) := by
  have hseq : (marked P T s).alarmSeq i = s.alarmSeq i := rfl
  have hhand : (marked P T s).handleOf i = s.handleOf i := rfl
  unfold State.alarmStepEnd
  rw [hseq, hhand, programOf_marked]
  cases (s.alarmSeq i).position with
  | none => rfl
  | some x =>
    cases s.programOf (s.handleOf i) with
    | none => rfl
    | some g =>
      simp only [Option.map_some, nextStep_retarget]
      split
      · exact nextStep_marked P T s _ g x
      · rfl

theorem alarmPhraseComplete_marked (i : Nat) : (marked P T s).alarmPhraseComplete i = marked P T (s.alarmPhraseComplete i) := by
  have hpl : (marked P T s).player i = s.player i := rfl
  have hdone : (marked P T s).phraseDone i = s.phraseDone i := rfl
  have hrel : (marked P T s).releasePlayer i = marked P T (s.releasePlayer i) := servePlayers_marked P T (s.freePlayer i)
  unfold State.alarmPhraseComplete
  rw [hpl, hdone, hrel]
  cases (s.player i).call with
  | none => rfl
  | some h =>
    simp only [show (marked P T s).alarmSeq h.slot = s.alarmSeq h.slot from rfl, programOf_marked]
    cases (s.alarmSeq h.slot).position with
    | none => rfl
    | some x =>
      cases s.programOf h with
      | none => rfl
      | some g =>
        simp only [Option.map_some, nextStep_retarget]
        split
        · exact nextStep_marked P T _ h g x
        · rfl

theorem displace_marked (h : Handle) (c : Call) : (marked P T s).displace h c = (marked P T (s.displace h c).1, (s.displace h c).2) := by
  have hfree : ∀ s, (marked P T s).freeRecord h = marked P T (s.freeRecord h) := fun _ => rfl
  unfold State.displace
  split
  · rfl
  · rw [endCall_marked, hfree, servePlayers_marked]

theorem openAlarm_marked (p : Port) (id : Nat) (g : AlarmProgram) (sw : Sweep) (k : Nat) :
    (marked P T s).openAlarm p id g sw k = marked P T (s.openAlarm p id g sw k) := beginStep_marked P T (s.takeSlot k _) _ g 1 0

theorem obtainAlarmSlot_marked (n : Nat) :
    (marked P T s).obtainAlarmSlot n = (s.obtainAlarmSlot n).map fun x => (marked P T x.1, x.2) := by
  have hfree : (marked P T s).freeAlarm = s.freeAlarm := rfl
  have hdis : (marked P T s).toDisplace n = s.toDisplace n := rfl
  unfold State.obtainAlarmSlot
  rw [hfree, hdis]
  cases s.freeAlarm with
  | some i => rfl
  | none =>
    cases s.toDisplace n with
    | none => rfl
    | some r => obtain ⟨h, c⟩ := r; simp only [displace_marked, Option.map_some]

/-! ## With the programs' own targets -/

/-- The state with the pending marks `P`. -/
def remarked (P : Nat → Option Nat) (s : State) : State := marked P AlarmProgram.targets s

/-- A start with its state remarked. -/
def startRemarked (P : Nat → Option Nat) (r : StartResult) : StartResult := { r with state := remarked P r.state }

theorem retarget_targets (g : AlarmProgram) : retarget AlarmProgram.targets g = g := rfl

theorem program_remarked (i : Nat) : (remarked P s).program i = s.program i := by
  refine (program_marked P _ s i).trans ?_
  cases s.program i <;> rfl

theorem startAlarm_remarked (p : Port) (id : Nat) (answers : Bool) :
    (remarked P s).startAlarm p id answers = startRemarked P (s.startAlarm p id answers) := by
  have hlive : (remarked P s).liveCallOf id = s.liveCallOf id := rfl
  unfold State.startAlarm
  rw [program_remarked, hlive]
  cases s.program id with
  | none => rfl
  | some g =>
    cases s.liveCallOf id with
    | some h => rfl
    | none =>
      have hgeo : (remarked P s).geometryReady g.targets = s.geometryReady g.targets := rfl
      have hx : (remarked P s).expand .alarm [] (fun _ => false) g.targets = s.expand .alarm [] (fun _ => false) g.targets := rfl
      have hob : (remarked P s).obtainAlarmSlot g.level = (s.obtainAlarmSlot g.level).map fun x => (remarked P x.1, x.2) :=
        obtainAlarmSlot_marked P _ s _
      have hopen : ∀ (v : State) sw k, (remarked P v).openAlarm p id g sw k = remarked P (v.openAlarm p id g sw k) :=
        fun v => openAlarm_marked P _ v p id g
      dsimp only
      unfold State.startProgram
      rw [hgeo, hx, hob]
      split
      · rfl
      · dsimp only
        split
        · rfl
        · cases s.obtainAlarmSlot g.level with
          | none => rfl
          | some r => simp only [Option.map_some, hopen]; rfl

end

end Sys2Proof.Calls
end

section
/-! PROOFS. What an event that may release an alarm slot comes to, whatever the pending marks (08 R147). -/

namespace Sys2Proof.Calls

open Sys2Proof.Machine

/-! ## Listings -/

theorem Placed.follow {s t : State} (hs : Placed s) (h : Follow s t) : Placed t := by
  refine ⟨fun e cl k hk => ?_, fun e cl => ?_⟩
  · obtain ⟨hcl, c, hc, hlive, ht, hl⟩ := hs.named e cl k ((h.keys e cl).subset hk)
    obtain ⟨d, hd, hf⟩ := h.call hc
    exact ⟨hcl, d, hd, hf.live.trans hlive, hf.type.trans ht, hf.level.trans hl⟩
  · obtain ⟨l, hp, hl⟩ := h.keys e cl
    exact (hp.map (·.1)).nodup_iff.1 ((hl.map _).nodup (hs.once e cl))

/-- A FREE slot is taken. -/
theorem Placed.takeSlot {s : State} (hs : Placed s) {i : Nat} (hi : i < 64) (hfree : (s.slot i).record = none) (c : Call) :
    Placed (s.takeSlot i c) := by
  refine ⟨fun e cl k hk => ?_, hs.once⟩
  obtain ⟨hcl, d, hd, hrest⟩ := hs.named e cl k hk
  have hne : i ≠ k.1.slot := fun he => by
    have := record_of_call hd
    rw [← he, hfree] at this; cases this
  exact ⟨hcl, d, (call_congr ((slot_takeSlot hi c _).trans (if_neg hne))).trans hd, hrest⟩

theorem StartsIn.follow {s t : State} (hs : StartsIn s) (h : Follow s t) (hp : PlayersHeld t) : StartsIn t :=
  ⟨hp, h.inOrder hs.order, hs.listings.follow h⟩

theorem StartsIn.settleCalls {s : State} (hs : StartsIn s) : StartsIn s.settleCalls :=
  hs.follow (follow_settleCalls s) hs.held.settleCalls

theorem StartsIn.congr {s t : State} (hs : StartsIn s) (hc : t.calls = s.calls) (he : t.endpoints = s.endpoints)
    (hpr : ∀ g, some g ∈ t.programs.cells → 12 ≤ g.level ∧ g.level ≤ 15) (hp : t.players = s.players) (ha : t.alarms = s.alarms) : StartsIn t where
  held := hs.held.congr hc hp ha
  order := by
    have ho : InOrder false none { s with programs := t.programs } :=
      ⟨hs.order.gens, hs.order.records, hpr, nofun, nofun, nofun, nofun⟩
    exact ho.same hc he rfl
  listings := hs.listings.same hc he

/-! ## With no targets in the programs, the listings stay in order -/

/-- The state without pending marks and without the programs' targets. -/
def bare (s : State) : State := marked (fun _ => none) (fun _ => []) s

/-- What the events that may release an alarm slot keep. -/
structure Fit (s : State) : Prop where
  held : PlayersHeld s
  order : InOrder false none s
  listed : InOrder true none (bare s)

theorem fit_of_invariants {s : State} (hc : s.callsOk) (hp : s.playersOk) (hl : s.listingsOk) : Fit s where
  held := playersHeld_of_playersOk hc hp
  order := inOrder_of_callsOk hc
  listed := by
    have hpl := placed_of_listingsOk hl
    have hsub : ∀ g, some g ∈ (bare s).programs.cells → ∃ g', some g' ∈ s.programs.cells ∧ g = retarget (fun _ => []) g' := by
      intro g hg
      obtain ⟨o, ho, hog⟩ := List.mem_map.1 hg
      obtain ⟨g', rfl, rfl⟩ := Option.map_eq_some_iff.1 hog
      exact ⟨g', ho, rfl⟩
    refine ⟨fun i => (hc.1 i).1, fun i c _ => (hc.1 i).2 c, fun g hg => ?_, fun _ g hg => ?_, fun _ => hpl.named, fun _ => hpl.once,
      fun _ i c sw _ hr => hl.2.2 i c sw hr⟩
    · obtain ⟨g', hg', rfl⟩ := hsub g hg
      exact hc.2 g' hg'
    · obtain ⟨g', -, rfl⟩ := hsub g hg
      exact fun t ht => nomatch ht

theorem Fit.placed {s : State} (hs : Fit s) : Placed s := hs.listed.placed.same (s := bare s) rfl rfl

theorem Fit.startsIn {s : State} (hs : Fit s) : StartsIn s := ⟨hs.held, hs.order, hs.placed⟩

/-- Calls, endpoints, programs, players and step positions as they were. -/
theorem Fit.congr {s t : State} (hs : Fit s) (hc : t.calls = s.calls) (he : t.endpoints = s.endpoints) (hpr : t.programs = s.programs)
    (hp : t.players = s.players) (ha : t.alarms = s.alarms) : Fit t :=
  ⟨hs.held.congr hc hp ha, hs.order.same hc he hpr, hs.listed.same (s := bare s) hc he (by rw [bare, marked, hpr]; rfl)⟩

/-! ## The events -/

/-- The outcomes of an event, one for each choice of the pending marks, leave the calls as they were. -/
def CallsStay (s : State) (F : (Nat → Option Nat) → State) : Prop := ∃ v, v.calls = s.calls ∧ ∀ P, F P = remarked P v

/-- The outcomes of an event are what settling leaves of one state. -/
def SettlesOne (s : State) (F : (Nat → Option Nat) → State) : Prop :=
  ∃ s0 v, s0.calls = s.calls ∧ StartsIn v ∧ ∀ P, F P = settle (remarked P s0) (remarked P v)

theorem CallsStay.of_calls {s s' : State} {F : (Nat → Option Nat) → State} (h : CallsStay s' F) (hc : s'.calls = s.calls) : CallsStay s F := by
  obtain ⟨v, hv, hF⟩ := h
  exact ⟨v, hv.trans hc, hF⟩

theorem SettlesOne.of_calls {s s' : State} {F : (Nat → Option Nat) → State} (h : SettlesOne s' F) (hc : s'.calls = s.calls) : SettlesOne s F := by
  obtain ⟨s0, v, hv, hF⟩ := h
  exact ⟨s0, v, hv.trans hc, hF⟩

/-- An owner's work on a request. -/
def Takes (take : State → State) (w : State) : Prop :=
  CallsStay w (fun P => take (remarked P w)) ∨ SettlesOne w (fun P => take (remarked P w))

theorem hasTurn_marked (P : Nat → Option Nat) (T : AlarmProgram → List Target) (s : State) (p : Port) (o : Owner) :
    (marked P T s).hasTurn p o = s.hasTurn p o := by cases p <;> rfl

/-- A request waits for its turn, or is taken. -/
theorem request_events {s : State} (hs : Fit s) (p : Port) (o : Owner) (c : Instr) {take : State → State} (ht : ∀ w, Fit w → Takes take w) :
    CallsStay s (fun P => (remarked P s).request p o c take) ∨ SettlesOne s (fun P => (remarked P s).request p o c take) := by
  generalize hw : s.setPort p ((s.port p).present c) = w
  have hset : ∀ P, (remarked P s).setPort p (((remarked P s).port p).present c) = remarked P w := fun P => by
    rw [remarked, port_marked, setPort_marked, hw]; rfl
  have hreq : ∀ P, (remarked P s).request p o c take =
      if ((w.port p).waits c && w.hasTurn p o) = true then take (remarked P (w.serve p o)) else remarked P w := fun P => by
    unfold State.request
    rw [hset]
    have hport : (remarked P w).port p = w.port p := port_marked P _ w p
    have hturn : (remarked P w).hasTurn p o = w.hasTurn p o := hasTurn_marked P _ w p o
    have hserve : (remarked P w).serve p o = remarked P (w.serve p o) := serve_marked P _ w p o
    dsimp only
    rw [hport, hturn, hserve]
  have hcalls : w.calls = s.calls := by subst hw; cases p <;> rfl
  have hwf : Fit (w.serve p o) := by
    subst hw
    cases p <;> exact hs.congr rfl rfl rfl rfl rfl
  simp only [hreq]
  split
  · exact (ht _ hwf).imp (·.of_calls hcalls) (·.of_calls hcalls)
  · exact .inl ⟨w, hcalls, fun _ => rfl⟩

section

variable (P : Nat → Option Nat) (s : State)

theorem answer_remarked (p : Port) (a : AnswerCode) (d : List Byte) : (remarked P s).answer p a d = remarked P (s.answer p a d) :=
  answer_marked P _ s p a d

theorem enterPhase_remarked (p : Port) (ph : Phase) : (remarked P s).enterPhase p ph = remarked P (s.enterPhase p ph) :=
  enterPhase_marked P _ s p ph

theorem endCall_remarked (h : Handle) (x : EndReason) : (remarked P s).endCall h x = remarked P (s.endCall h x) := endCall_marked P _ s h x

theorem freeRecord_remarked (h : Handle) : (remarked P s).freeRecord h = remarked P (s.freeRecord h) := rfl

end

theorem callFor_remarked (P : Nat → Option Nat) (s : State) (p : Port) (h : Handle) (gate : Call → Option AnswerCode) (b : Bool) :
    (remarked P s).callFor p h gate b = s.callFor p h gate b := rfl

theorem trigger_marked (P : Nat → Option Nat) (T : AlarmProgram → List Target) (s : State) {i : Nat} (hi : i < 4) :
    (marked P T s).trigger i = { s.trigger i with pending := P i } := Table.get_mapIdx _ _ _ _ _ hi

theorem heldInputOwns_remarked (P : Nat → Option Nat) (s : State) (h : Handle) : (remarked P s).heldInputOwns h = s.heldInputOwns h := by
  rw [Bool.eq_iff_iff, heldInputOwns_iff, heldInputOwns_iff]
  refine exists_congr fun i => and_congr_right fun hi => ?_
  rw [remarked, trigger_marked P _ s hi]

theorem answer_calls (s : State) (p : Port) (a : AnswerCode) (d : List Byte) : (s.answer p a d).calls = s.calls := by cases p <;> rfl

/-- An answer alone. -/
theorem callsStay_answer (w : State) (p : Port) (a : AnswerCode) (d : List Byte) : CallsStay w fun P => (remarked P w).answer p a d :=
  ⟨w.answer p a d, answer_calls .., fun P => answer_marked P _ w p a d⟩

theorem Fit.answer {s : State} (hs : Fit s) (p : Port) (a : AnswerCode) (d : List Byte) : Fit (s.answer p a d) := by
  cases p <;> exact hs.congr rfl rfl rfl rfl rfl

theorem Fit.endCall {s : State} (hs : Fit s) (h : Handle) (x : EndReason) : Fit (s.endCall h x) where
  held := hs.held.endCall h x
  order := hs.order.endCall h x
  listed := by rw [bare, ← endCall_marked]; exact hs.listed.endCall h x

theorem Fit.freeEnded {s : State} (hs : Fit s) {h : Handle} {c : Call} (hc : s.call h = some c) (he : c.state = .ended) : Fit (s.freeRecord h) where
  held := hs.held.freeOver hc (by rw [he]; rfl)
  order := hs.order.freeEnded hc he
  listed := hs.listed.freeEnded (s := bare s) hc he

theorem takes_retireCall (p : Port) (h : Handle) {w : State} (hw : Fit w) : Takes (takeRetireCall p h) w := by
  unfold Takes takeRetireCall
  simp only [callFor_remarked, heldInputOwns_remarked]
  cases w.callFor p h gateRetire true with
  | error a => exact .inl (callsStay_answer w p a [])
  | ok c =>
    dsimp only
    split
    · exact .inl (callsStay_answer w p .inUse [])
    · refine .inr ⟨w, (w.answer p .ok []).endCall h .retired, rfl, ((hw.answer ..).endCall ..).startsIn, fun P => ?_⟩
      dsimp only
      rw [answer_remarked, endCall_remarked]

theorem takes_collectEnd (p : Port) (h : Handle) {w : State} (hw : Fit w) : Takes (takeCollectEnd p h) w := by
  unfold Takes takeCollectEnd
  simp only [callFor_remarked]
  cases hcf : w.callFor p h gateCollect false with
  | error a => exact .inl (callsStay_answer w p a [])
  | ok c =>
    obtain ⟨hc, hg⟩ := callFor_spec hcf
    dsimp only
    split
    · refine .inr ⟨w, (w.answer p .ok (c.endData p)).freeRecord h, rfl, ?_, fun P => ?_⟩
      · exact ((hw.answer ..).freeEnded ((call_congr (slot_of_calls (answer_calls ..) _)).trans hc) (ended_of_gateCollect hg)).startsIn
      · dsimp only
        rw [answer_remarked, freeRecord_remarked]
    · exact .inl (callsStay_answer w p .ok _)

/-! ## The start of an alarm -/

theorem startAlarm_opens_or (s : State) (p : Port) (id : Nat) (answers : Bool) :
    ((s.startAlarm p id answers).opened = none ∧ (s.startAlarm p id answers).state = s) ∨
    ∃ v n k d g sw h, s.obtainAlarmSlot n = some (v, k, d) ∧ (s.startAlarm p id answers).state = v.openAlarm p id g sw k ∧
      (s.startAlarm p id answers).opened = some h := by
  unfold State.startAlarm
  split
  · exact .inl ⟨rfl, rfl⟩
  · split
    · exact .inl ⟨rfl, rfl⟩
    · unfold State.startProgram
      split
      · exact .inl ⟨rfl, rfl⟩
      · dsimp only
        split
        · exact .inl ⟨rfl, rfl⟩
        · split
          · exact .inl ⟨rfl, rfl⟩
          · rename_i ho
            exact .inr ⟨_, _, _, _, _, _, _, ho, rfl, rfl⟩

theorem Fit.startAlarm {s : State} (hs : Fit s) (p : Port) (id : Nat) (answers : Bool) : StartsIn (s.startAlarm p id answers).state := by
  refine ⟨hs.held.startAlarm p id answers, hs.order.startAlarm p id answers, ?_⟩
  rcases startAlarm_opens_or s p id answers with ⟨-, he⟩ | ⟨v, n, k, d, g, sw, -, ho, he, -⟩ <;> rw [he]
  · exact hs.placed
  · have hob : (bare s).obtainAlarmSlot n = some (bare v, k, d) := by rw [bare, obtainAlarmSlot_marked, ho]; rfl
    obtain ⟨hv, hfree, -, hk⟩ := hs.listed.obtainAlarmSlot hob
    have hpv : Placed v := hv.placed.same (s := bare v) rfl rfl
    exact (hpv.takeSlot hk hfree _).follow (follow_beginStep _ _ _ _ _)

theorem takes_startAlarm (p : Port) (id : Nat) {w : State} (hw : Fit w) : Takes (takeStartAlarm p id) w := by
  unfold Takes takeStartAlarm
  simp only [startAlarm_remarked, startRemarked]
  rcases startAlarm_opens_or w p id true with ⟨ho, -⟩ | ⟨-, -, -, -, -, -, h, -, -, ho⟩
  · simp only [ho]
    exact .inl (callsStay_answer w p _ _)
  · simp only [ho]
    refine .inr ⟨w, (w.startAlarm p id true).state.enterPhase p (.sweeping h.slot), rfl, ?_, fun P => ?_⟩
    · exact (hw.startAlarm p id true).follow (follow_enterPhase _ _ _) ((hw.held.startAlarm p id true).ports (enterPhase_only _ _ _))
    · dsimp only
      rw [enterPhase_remarked]

/-! ## The sweeps and the steps -/

theorem Fit.serveSweep {s : State} (hs : Fit s) (sw : Sweep) : Fit (s.serveSweep sw) := by
  unfold State.serveSweep
  split
  · exact hs.congr rfl rfl rfl rfl rfl
  · exact hs

theorem Fit.sweepTurn {s : State} (hs : Fit s) {h : Handle} {c : Call} {sw : Sweep} (hc : s.call h = some c) (hsw : c.sweep = some sw)
    (hk : sw.kind ≠ .drop) : Fit (s.sweepTurn h c sw.rest) where
  held := hs.held.sweepTurn hs.order hc hsw hk
  order := hs.order.sweepTurn hc hsw hk
  listed := by rw [bare, ← sweepTurn_marked]; exact hs.listed.sweepTurn (s := bare s) hc hsw hk

theorem Fit.dropTurn {s : State} (hs : Fit s) {h : Handle} {c : Call} {sw : Sweep} (hc : s.call h = some c) (hsw : c.sweep = some sw)
    (hk : sw.kind = .drop) : Fit (s.dropTurn h c sw.rest) where
  held := hs.held.dropTurn hc hsw hk
  order := hs.order.dropTurn hc hsw hk
  listed := by rw [bare, ← dropTurn_marked]; exact hs.listed.dropTurn (s := bare s) hc hsw hk

theorem Fit.alarmStepEnd {s : State} (hs : Fit s) (i : Nat) : Fit (s.alarmStepEnd i) where
  held := hs.held.alarmStepEnd i
  order := hs.order.alarmStepEnd i
  listed := by rw [bare, ← alarmStepEnd_marked]; exact hs.listed.alarmStepEnd i

theorem Fit.alarmPhraseComplete {s : State} (hs : Fit s) (i : Nat) : Fit (s.alarmPhraseComplete i) where
  held := hs.held.alarmPhraseComplete i
  order := hs.order.alarmPhraseComplete i
  listed := by rw [bare, ← alarmPhraseComplete_marked]; exact hs.listed.alarmPhraseComplete i

/-- The outcomes of command `c`, one for each choice of the pending marks. -/
def Outcomes (c : Instr) (s : State) : Prop :=
  ∃ F, (∀ P, exec c (remarked P s) = .next (F P)) ∧ (CallsStay s F ∨ SettlesOne s F)

theorem callsStay_self (s : State) : CallsStay s fun P => remarked P s := ⟨s, rfl, fun _ => rfl⟩

theorem sweepHasTurn_remarked (P : Nat → Option Nat) (s : State) (sw : Sweep) : (remarked P s).sweepHasTurn sw = s.sweepHasTurn sw := by
  unfold State.sweepHasTurn
  rw [remarked, hasTurn_marked]

theorem outcomes_sweepDelivery {s : State} (hs : Fit s) (i : Nat) : Outcomes (.sweepDelivery i) s := by
  refine ⟨_, fun P => rfl, ?_⟩
  simp only [show ∀ P, (remarked P s).slot i = s.slot i from fun _ => rfl, show ∀ P, (remarked P s).handleOf i = s.handleOf i from fun _ => rfl,
    sweepHasTurn_remarked]
  cases hr : (s.slot i).record with
  | none => exact .inl (callsStay_self s)
  | some c =>
    cases hsw : c.sweep with
    | none => simp only [hsw]; exact .inl (callsStay_self s)
    | some sw =>
      simp only [hsw]
      split
      · rename_i hk
        refine .inr ⟨s, _, rfl, ((hs.serveSweep sw).sweepTurn ((call_serveSweep ..).trans (call_handleOf hr)) hsw hk.1).startsIn, fun P => ?_⟩
        dsimp only
        rw [remarked, remarked, serveSweep_marked, sweepTurn_marked]
      · exact .inl (callsStay_self s)

theorem outcomes_dropSweepRemoval {s : State} (hs : Fit s) (i : Nat) : Outcomes (.dropSweepRemoval i) s := by
  refine ⟨_, fun P => rfl, ?_⟩
  simp only [show ∀ P, (remarked P s).slot i = s.slot i from fun _ => rfl, show ∀ P, (remarked P s).handleOf i = s.handleOf i from fun _ => rfl,
    sweepHasTurn_remarked]
  cases hr : (s.slot i).record with
  | none => exact .inl (callsStay_self s)
  | some c =>
    cases hsw : c.sweep with
    | none => simp only [hsw]; exact .inl (callsStay_self s)
    | some sw =>
      simp only [hsw]
      split
      · rename_i hk
        refine .inr ⟨s, _, rfl, ((hs.serveSweep sw).dropTurn ((call_serveSweep ..).trans (call_handleOf hr)) hsw hk.1).startsIn, fun P => ?_⟩
        dsimp only
        rw [remarked, remarked, serveSweep_marked, dropTurn_marked]
      · exact .inl (callsStay_self s)

theorem outcomes_alarmStepEnd {s : State} (hs : Fit s) (i : Nat) : Outcomes (.alarmStepEnd i) s := by
  refine ⟨_, fun P => rfl, ?_⟩
  simp only [show ∀ P, (remarked P s).stepDone i = s.stepDone i from fun _ => rfl]
  split
  · refine .inr ⟨s, _, rfl, (hs.alarmStepEnd i).startsIn, fun P => ?_⟩
    dsimp only
    rw [remarked, alarmStepEnd_marked]
    rfl
  · exact .inl (callsStay_self s)

theorem outcomes_alarmPhraseComplete {s : State} (hs : Fit s) (i : Nat) : Outcomes (.alarmPhraseComplete i) s := by
  refine ⟨_, fun P => rfl, ?_⟩
  simp only [show ∀ P, (remarked P s).phraseDone i = s.phraseDone i from fun _ => rfl]
  split
  · refine .inr ⟨s, _, rfl, (hs.alarmPhraseComplete i).startsIn, fun P => ?_⟩
    dsimp only
    rw [remarked, alarmPhraseComplete_marked]
    rfl
  · exact .inl (callsStay_self s)

theorem outcomes_endExpiry {s : State} (hs : Fit s) (slot gen : Nat) : Outcomes (.endExpiry slot gen) s := by
  refine ⟨_, fun P => rfl, ?_⟩
  simp only [show ∀ P, (remarked P s).expiryRuns ⟨slot, gen⟩ = s.expiryRuns ⟨slot, gen⟩ from fun _ => rfl,
    show ∀ P, (remarked P s).call ⟨slot, gen⟩ = s.call ⟨slot, gen⟩ from fun _ => rfl,
    show ∀ P, (remarked P s).stopExpiry ⟨slot, gen⟩ = remarked P (s.stopExpiry ⟨slot, gen⟩) from fun _ => rfl, freeRecord_remarked]
  have hstop : Fit (s.stopExpiry ⟨slot, gen⟩) := hs.congr rfl rfl rfl rfl rfl
  split
  · split
    · rename_i he
      obtain ⟨c, hc, hce⟩ := (Option.any_eq_true _ _).1 he
      exact .inr ⟨s, _, rfl, (hstop.freeEnded (c := c) hc (by simpa using hce)).startsIn, fun _ => rfl⟩
    · exact .inl ⟨s.stopExpiry ⟨slot, gen⟩, rfl, fun _ => rfl⟩
  · exact .inl (callsStay_self s)

/-- The commands of 08 R147. -/
theorem outcomes_of_freesAlarms {c : Instr} (hc : freesAlarms c = true) {s : State} (hs : Fit s) : Outcomes c s := by
  cases c with
  | collectEnd p tag h => exact ⟨_, fun _ => rfl, request_events hs p _ _ fun _ => takes_collectEnd p h⟩
  | endExpiry slot gen => exact outcomes_endExpiry hs slot gen
  | retireCall p tag h => exact ⟨_, fun _ => rfl, request_events hs p _ _ fun _ => takes_retireCall p h⟩
  | sweepDelivery i => exact outcomes_sweepDelivery hs i
  | dropSweepRemoval i => exact outcomes_dropSweepRemoval hs i
  | alarmStepEnd i => exact outcomes_alarmStepEnd hs i
  | alarmPhraseComplete i => exact outcomes_alarmPhraseComplete hs i
  | startAlarm p tag id => exact ⟨_, fun _ => rfl, request_events hs p _ _ fun _ => takes_startAlarm p id⟩
  | _ => cases hc

end Sys2Proof.Calls
end

section
/-! PROOFS. A second settling of an event leaves a try of a start what it was (08 R147). -/

namespace Sys2Proof.Calls

open Sys2Proof.Machine

/-! ## The alarm slots -/

/-- The arbiter leaves the alarm slots as they are. -/
theorem arbiter_alarmSlot {k : Nat} (hk : 60 ≤ k) (sl : CallSlot) : ArbiterKeeps fun v => PlayersHeld v ∧ v.slot k = sl where
  pause s h c m j hs hc hm hj := by
    obtain ⟨hheld, hsl⟩ := hs
    have hne : h.slot ≠ k := fun he => by
      obtain ⟨a, ha⟩ := (hheld.typed h c hc).2 (by omega)
      rw [hm] at ha; cases ha
    refine ⟨playersHeld_arbiter.pause s h c m j hheld hc hm hj, ?_⟩
    simp only [State.pauseMessage, hj]
    exact (slot_updCall_ne (s := s.freePlayer j) hne _).trans hsl
  give s j h c m hs hj hidle hc hm hact hmp := by
    obtain ⟨hheld, hsl⟩ := hs
    have hne : h.slot ≠ k := fun he => by
      obtain ⟨a, ha⟩ := (hheld.typed h c hc).2 (by omega)
      rw [hm] at ha; cases ha
    refine ⟨playersHeld_arbiter.give s j h c m hheld hj hidle hc hm hact hmp, ?_⟩
    exact (slot_updCall_ne (s := s.setPlayer j _) hne _).trans hsl

/-- Without a faded call none becomes ENDED. -/
theorem endFaded_of_allFaded {s : State} (hs : AllFaded s) : s.endFaded = s := by
  have hat : ∀ h, s.endFadedAt h = s := fun h => by
    unfold State.endFadedAt
    split
    · rename_i c hc
      rw [if_neg]
      rintro ⟨he, hq⟩
      rw [hs h c hc he] at hq; cases hq
    · rfl
  have hl : ∀ l : List Handle, l.foldl State.endFadedAt s = s := by
    intro l
    induction l with
    | nil => rfl
    | cons h l ih => rw [List.foldl_cons, hat, ih]
  exact hl _

theorem settleCalls_alarmSlot {s : State} (hs : PlayersHeld s) (hf : AllFaded s) {k : Nat} (hk : 60 ≤ k) : s.settleCalls.slot k = s.slot k := by
  have hP := arbiter_alarmSlot hk (s.slot k)
  have h1 := hP.pauseUnheard ⟨hs, rfl⟩
  have h2 : s.pauseUnheard.endFaded = s.pauseUnheard := endFaded_of_allFaded (hf.settles (settles_pauseUnheard s))
  unfold State.settleCalls
  rw [h2]
  exact (hP.servePlayers h1).2

/-! ## The calls counted again -/

/-- The record `d` is `c` with its counts brought up to date. -/
structure Recounted (c d : Call) : Prop where
  fields : d = { c with listingCount := d.listingCount, heardCount := d.heardCount, part := d.part }
  program : ∀ id, (∃ a, d.part = .alarm a ∧ a.program = id) ↔ ∃ a, c.part = .alarm a ∧ a.program = id

theorem recounted_countedCall (s : State) (h : Handle) (c : Call) : Recounted c (s.countedCall h c) := by
  refine ⟨rfl, fun id => ?_⟩
  unfold State.countedCall
  cases c.part <;> simp

/-- `t` is `s` settled once more. -/
structure SettledAgain (s t : State) : Prop where
  only : OnlySettled s t
  gens : ∀ k, (t.slot k).gen = (s.slot k).gen
  records : ∀ k, 60 ≤ k → k < 64 → Option.Rel Recounted (s.slot k).record (t.slot k).record

theorem settledAgain_of_allFaded {s : State} (hs : PlayersHeld s) (hf : AllFaded s) : SettledAgain s s.settleCalls.refresh where
  only := refresh_only (settleCalls_only s)
  gens k := ((settles_refresh s.settleCalls).gens k).trans ((settles_settleCalls s).gens k)
  records k h1 h2 := by
    rw [slot_refresh h2, settleCalls_alarmSlot hs hf h1]
    cases (s.slot k).record with
    | none => exact .none
    | some c => exact .some (recounted_countedCall _ _ c)

section

variable {s t : State} (h : SettledAgain s t)

include h

theorem SettledAgain.handleOf (k : Nat) : t.handleOf k = s.handleOf k := by rw [State.handleOf, State.handleOf, h.gens]

theorem SettledAgain.trigger (i : Nat) : t.trigger i = s.trigger i := by rw [State.trigger, h.only]; rfl

theorem SettledAgain.program (i : Nat) : t.program i = s.program i := by rw [State.program, h.only]; rfl

theorem SettledAgain.phrase (i : Nat) : t.phrase i = s.phrase i := by rw [State.phrase, h.only]; rfl

theorem SettledAgain.geometryReady (ts : List Target) : t.geometryReady ts = s.geometryReady ts := by
  rw [h.only]; rfl

theorem SettledAgain.expand (ts : List Target) : t.expand .alarm [] (fun _ => false) ts = s.expand .alarm [] (fun _ => false) ts := by
  rw [h.only]; rfl

theorem SettledAgain.back {k : Nat} (h1 : 60 ≤ k) (h2 : k < 64) {d : Call} (hd : (t.slot k).record = some d) :
    ∃ c, (s.slot k).record = some c ∧ Recounted c d := rel_back (h.records k h1 h2) hd

theorem SettledAgain.forward {k : Nat} (h1 : 60 ≤ k) (h2 : k < 64) {c : Call} (hc : (s.slot k).record = some c) :
    ∃ d, (t.slot k).record = some d ∧ Recounted c d := rel_forward (h.records k h1 h2) hc

theorem SettledAgain.endpoints : t.endpoints = s.endpoints := by rw [h.only]

theorem SettledAgain.port (q : Port) : (t.port q).answers = (s.port q).answers ∧ (t.port q).inProgress = (s.port q).inProgress := by
  rw [h.only]; cases q <;> exact ⟨rfl, rfl⟩

/-! ## What a start looks at -/

/-- A live call of the program stands in slot `k`. -/
theorem SettledAgain.runs_iff {id k : Nat} (h1 : 60 ≤ k) (h2 : k < 64) :
    (∃ r a, (t.slot k).record = some r ∧ r.state.live = true ∧ r.part = .alarm a ∧ a.program = id) ↔
      ∃ r a, (s.slot k).record = some r ∧ r.state.live = true ∧ r.part = .alarm a ∧ a.program = id := by
  constructor
  · rintro ⟨d, a, hd, hlive, hpart⟩
    obtain ⟨c, hc, hcd⟩ := h.back h1 h2 hd
    obtain ⟨b, hb⟩ := (hcd.program id).1 ⟨a, hpart⟩
    rw [hcd.fields] at hlive
    exact ⟨c, b, hc, hlive, hb⟩
  · rintro ⟨c, a, hc, hlive, hpart⟩
    obtain ⟨d, hd, hcd⟩ := h.forward h1 h2 hc
    obtain ⟨b, hb⟩ := (hcd.program id).2 ⟨a, hpart⟩
    exact ⟨d, b, hd, by rw [hcd.fields]; exact hlive, hb⟩

theorem SettledAgain.liveAt_iff {id k : Nat} : LiveAt t id k ↔ LiveAt s id k := by
  unfold LiveAt
  refine and_congr_right fun h1 => and_congr_right fun h2 => and_congr (h.runs_iff h1 h2) ?_
  exact forall_congr' fun j => forall_congr' fun hj => forall_congr' fun hjk => not_congr (h.runs_iff hj (by omega))

theorem SettledAgain.taken_iff {k : Nat} (h1 : 60 ≤ k) (h2 : k < 64) : (t.slot k).record.isSome = (s.slot k).record.isSome := by
  have hr := h.records k h1 h2
  generalize (s.slot k).record = o at hr
  generalize (t.slot k).record = p at hr
  cases hr <;> rfl

theorem SettledAgain.noSlot {n : Nat} (hn : NoSlot t n) : NoSlot s n := by
  intro j h1 h2
  obtain ⟨d, hd, hne, hl⟩ := hn j h1 h2
  obtain ⟨c, hc, hcd⟩ := h.back h1 h2 hd
  rw [hcd.fields] at hne hl
  exact ⟨c, hc, hne, hl⟩

theorem SettledAgain.lowestFree {k : Nat} (hk : LowestFree t k) : LowestFree s k := by
  obtain ⟨h1, h2, hf, hlow⟩ := hk
  refine ⟨h1, h2, ?_, fun j hj hjk => by rw [← h.taken_iff hj (by omega)]; exact hlow j hj hjk⟩
  rw [← Option.not_isSome_iff_eq_none, ← h.taken_iff h1 h2, hf]
  exact nofun

theorem SettledAgain.displaces {n k : Nat} {d : Call} (hd : Displaces t n k d) : ∃ c, Displaces s n k c ∧ Recounted c d := by
  obtain ⟨hall, h1, h2, hrec, hwhy⟩ := hd
  obtain ⟨c, hc, hcd⟩ := h.back h1 h2 hrec
  refine ⟨c, ⟨fun j hj hj' => by rw [← h.taken_iff hj hj']; exact hall j hj hj', h1, h2, hc, ?_⟩, hcd⟩
  rw [hcd.fields] at hwhy
  rcases hwhy with ⟨he, hfirst⟩ | ⟨hlive, hlevel, hlow⟩
  · refine .inl ⟨he, fun j x hj hj' hjk hx hxe => ?_⟩
    obtain ⟨y, hy, hxy⟩ := h.forward hj hj' hx
    have := hfirst j y hj hj' hjk hy
    rw [hxy.fields] at this
    exact this hxe
  · refine .inr ⟨hlive, hlevel, fun j x hj hj' hjk hx => ?_⟩
    obtain ⟨y, hy, hxy⟩ := h.forward hj hj' hx
    have := hlow j y hj hj' hjk hy
    rw [hxy.fields] at this
    exact this

theorem SettledAgain.alarmOpened (u : State) (p : Port) (answers : Bool) (id k : Nat) (g : AlarmProgram) (d : Option (Handle × EndReason)) :
    AlarmOpened t u p answers id k g d = AlarmOpened s u p answers id k g d := by
  unfold AlarmOpened StepBegun
  simp only [h.expand, h.gens, h.phrase]

theorem SettledAgain.answered {u : State} {i : Nat} {sw : Sweep} {a : AnswerCode} {data : List Byte} (hs : SweepAnswered s u i sw a data) :
    SweepAnswered t u i sw a data := fun q hq hin => by
  obtain ⟨hans, hprog⟩ := h.port sw.port
  have := hs q hq (hprog ▸ hin)
  unfold AnsweredWith at this ⊢
  rw [hans]
  exact this

/-- A try of a pending start is what it was. -/
theorem SettledAgain.triedStart {u : State} {i m : Nat} (hm : (s.trigger i).pending = some m) (hs : TriedStart s u i) : TriedStart t u i := by
  unfold TriedStart at hs ⊢
  simp only [h.trigger, h.program, h.liveAt_iff, h.geometryReady, h.expand, h.endpoints, h.handleOf, h.alarmOpened, hm, Option.getD_some]
    at hs ⊢
  obtain ⟨hbad, hactive, hstart⟩ := hs
  refine ⟨hbad, hactive, fun g hg hno => ?_⟩
  obtain ⟨hready, hgo⟩ := hstart g hg hno
  refine ⟨hready, fun hr => ?_⟩
  obtain ⟨htargets, hgo⟩ := hgo hr
  refine ⟨htargets, fun ht => ?_⟩
  obtain ⟨hlimit, hfree, hdis⟩ := hgo ht
  refine ⟨fun hn => hlimit (h.noSlot hn), fun k hk => hfree k (h.lowestFree hk), fun k d hd => ?_⟩
  obtain ⟨c, hc, hcd⟩ := h.displaces hd
  obtain ⟨hopen, htr, hother, hun, hsw⟩ := hdis k c hc
  rw [hcd.fields]
  exact ⟨hopen, htr, hother, hun, fun sw hsw' => h.answered (hsw sw hsw')⟩

end

end Sys2Proof.Calls
end

section
/-! PROOFS. The retry of a pending start at the end of an event that releases an alarm slot, and the start of alarms (08 R143, R144,
R147, R148). -/

namespace Sys2Proof.Calls

open Sys2Proof.Machine

/-! ## One pending mark -/

/-- The mark `x` at input `i`, and none at another. -/
def markAt (i : Nat) (x : Option Nat) : Nat → Option Nat := fun j => if j = i then x else none

theorem markAt_self (i : Nat) (x : Option Nat) : markAt i x i = x := if_pos rfl

theorem markAt_ne {i j : Nat} (h : j ≠ i) (x : Option Nat) : markAt i x j = none := if_neg h

theorem remarked_programs (P : Nat → Option Nat) (s : State) : (remarked P s).programs = s.programs :=
  table_ext none fun i _ => program_remarked P s i

theorem remarked_rest (P : Nat → Option Nat) (s : State) : remarked P s = { s with triggers := (remarked P s).triggers } := by
  have h : remarked P s = { s with triggers := (remarked P s).triggers, programs := (remarked P s).programs } := rfl
  exact h.trans (by rw [remarked_programs])

theorem remarked_eq {P : Nat → Option Nat} {s t : State} (ht : t = { s with triggers := t.triggers })
    (hm : ∀ j, j < 4 → t.trigger j = { s.trigger j with pending := P j }) : remarked P s = t := by
  have htr : (remarked P s).triggers = t.triggers :=
    table_ext (Trigger.initial .off false) fun j hj => (trigger_marked P _ s hj).trans (hm j hj).symm
  rw [remarked_rest, htr, ← ht]

section

variable {s : State} {i : Nat} (hi : i < 4)

include hi

theorem withMark_trigger (x : Option Nat) (j : Nat) :
    (withMark s i x).trigger j = if i = j then { s.trigger i with pending := x } else s.trigger j := trigger_setTrigger hi _ j

theorem withMark_eq (hn : ∀ j, j < 4 → j ≠ i → (s.trigger j).pending = none) (x : Option Nat) : withMark s i x = remarked (markAt i x) s := by
  refine (remarked_eq rfl fun j hj => ?_).symm
  rw [withMark_trigger hi]
  by_cases hji : j = i
  · subst hji; rw [if_pos rfl, markAt_self]
  · rw [if_neg (Ne.symm hji), markAt_ne hji, ← hn j hj hji]

theorem remarked_self {m : Option Nat} (hm : (s.trigger i).pending = m) (hn : ∀ j, j < 4 → j ≠ i → (s.trigger j).pending = none) :
    remarked (markAt i m) s = s := by
  refine remarked_eq rfl fun j hj => ?_
  by_cases hji : j = i
  · subst hji; rw [markAt_self, ← hm]
  · rw [markAt_ne hji, ← hn j hj hji]

theorem withMark_remarked (x : Option Nat) : withMark (remarked (markAt i none) s) i x = remarked (markAt i x) s := by
  have ht : withMark (remarked (markAt i none) s) i x =
      { s with triggers := (withMark (remarked (markAt i none) s) i x).triggers } :=
    congrArg (fun v : State => { v with triggers := (withMark (remarked (markAt i none) s) i x).triggers }) (remarked_rest _ s)
  refine (remarked_eq ht fun j hj => ?_).symm
  rw [withMark_trigger hi, remarked, trigger_marked _ _ _ hi, trigger_marked _ _ _ hj]
  by_cases hji : j = i
  · subst hji; rw [if_pos rfl, markAt_self, markAt_self]
  · rw [if_neg (Ne.symm hji), markAt_ne hji, markAt_ne hji]

end

theorem remarked_noPending (i : Nat) (s : State) : (remarked (markAt i none) s).noPending = true :=
  noPending_iff.2 fun j hj => by
    rw [remarked, trigger_marked _ _ _ hj, markAt]
    exact ite_self _

theorem settleCalls_remarked (P : Nat → Option Nat) (s : State) : (remarked P s).settleCalls = remarked P s.settleCalls :=
  settleCalls_marked P _ s

theorem refresh_remarked (P : Nat → Option Nat) (s : State) : (remarked P s).refresh = remarked P s.refresh := rfl

theorem StartsIn.remarked {s : State} (hs : StartsIn s) (P : Nat → Option Nat) : StartsIn (remarked P s) :=
  hs.congr rfl rfl (by rw [remarked_programs]; exact hs.order.programs) rfl rfl

/-! ## Released slots -/

theorem released_congr {s s' t t' : State} (hs : ∀ k, s'.slot k = s.slot k) (ht : ∀ k, t'.slot k = t.slot k) (k : Nat) :
    Released s' t' k ↔ Released s t k := by unfold Released; rw [hs, ht]

theorem not_released_of_calls {s t : State} (hc : t.calls = s.calls) (k : Nat) : ¬ Released s t k := by
  rintro ⟨-, -, c, hr, hor⟩
  rw [slot_of_calls hc, hr] at hor
  rcases hor with hn | hg | ⟨hlive, d, hd, hdead⟩
  · cases hn
  · exact hg rfl
  · obtain rfl := Option.some.inj hd
    rw [hlive] at hdead; cases hdead

/-- A further settling releases no slot, and takes none back. -/
theorem Settles.released_iff {s t u : State} (h : Settles t u) (k : Nat) : Released s u k ↔ Released s t k := by
  unfold Released
  rw [h.gens k]
  refine and_congr_right fun _ => and_congr_right fun _ => exists_congr fun c => and_congr_right fun _ => ?_
  cases ht : (t.slot k).record with
  | none => simp [h.free ht]
  | some d =>
    obtain ⟨e, he, hde⟩ := h.record ht
    have hlive : e.state.live = d.state.live := by
      rcases hde.state with hs | ⟨hs, -, hs'⟩
      · rw [hs]
      · rw [hs, hs']; rfl
    simp [he, hlive]

/-! ## The retry -/

/-- With one start pending the retry is one try. -/
theorem retryPending_markAt {i : Nat} (hi : i < 4) (m : Nat) (s : State) :
    (remarked (markAt i (some m)) s).retryPending = (remarked (markAt i (some m)) s).tryTrigger i := by
  have hmem : ∀ j, j ∈ (remarked (markAt i (some m)) s).pendingInputs ↔ j = i := fun j => by
    rw [mem_pendingInputs]
    constructor
    · rintro ⟨hj, hp⟩
      rw [remarked, trigger_marked _ _ _ hj] at hp
      by_contra hji
      rw [markAt_ne hji] at hp
      cases hp
    · rintro rfl
      refine ⟨hi, ?_⟩
      rw [remarked, trigger_marked _ _ _ hi, markAt_self]
      rfl
  have hlist : (remarked (markAt i (some m)) s).pendingInputs = [i] := by
    refine List.perm_singleton.1 ((List.perm_ext_iff_of_nodup (pendingInputs_nodup _) (List.nodup_singleton i)).2 fun j => ?_)
    rw [hmem, List.mem_singleton]
  rw [State.retryPending, hlist]
  rfl

/-- The try at the end of the event, seen from the state that the event leaves without a pending start. -/
theorem triedStart_settled {v : State} (hv : StartsIn v) {i : Nat} (hi : i < 4) (m : Nat) :
    TriedStart (remarked (markAt i (some m)) v.settleCalls.settleCalls.refresh)
      ((remarked (markAt i (some m)) v.settleCalls).tryTrigger i).settleCalls.refresh i := by
  have hagain : SettledAgain (remarked (markAt i (some m)) v.settleCalls)
      (remarked (markAt i (some m)) v.settleCalls.settleCalls.refresh) := by
    rw [← refresh_remarked, ← settleCalls_remarked _ v.settleCalls]
    exact settledAgain_of_allFaded (hv.settleCalls.remarked _).held (allFaded_settleCalls v)
  have hw := hv.settleCalls.remarked (markAt i (some m))
  generalize remarked (markAt i (some m)) v.settleCalls.settleCalls.refresh = t at hagain
  have hmark : ((remarked (markAt i (some m)) v.settleCalls).trigger i).pending = some m := by
    rw [remarked, trigger_marked _ _ _ hi]
    exact markAt_self i _
  exact hagain.triedStart hmark ((settled_once (hw.held.tryTrigger i)).triedStart (triedStart_tryTrigger hw hi))

theorem releasesRetry : ReleasesRetry := by
  intro c s u i m hc hi hm hn hcalls hplayers _ hlist hexec
  obtain ⟨F, hF, hcase⟩ := outcomes_of_freesAlarms hc (fit_of_invariants hcalls hplayers hlist)
  have hu : F (markAt i none) = u := by
    have h := (hF (markAt i none)).symm.trans ((congrArg (exec c) (withMark_eq hi hn none)).symm.trans hexec)
    exact Host.Outcome.next.inj h
  have hs : exec c s = .next (F (markAt i (some m))) := by
    rw [← hF, remarked_self hi hm hn]
  rw [hs]
  rcases hcase with ⟨v, hv, hFv⟩ | ⟨s0, v, hs0, hv, hFv⟩
  · rw [hFv] at hu
    subst hu
    exact ⟨fun _ => by rw [hFv, withMark_remarked hi], fun ⟨k, hk⟩ => absurd hk (not_released_of_calls hv k)⟩
  · have hsettles : Settles (remarked (markAt i none) v.settleCalls) u := by
      rw [← hu, hFv]
      rcases settle_rounds (remarked_noPending i v) (remarked (markAt i none) s0) with he | he <;> rw [he, settleCalls_remarked]
      · exact settles_refresh _
      · exact (settles_settleCalls _).trans (settles_refresh _)
    have hrel : ∀ (P : Nat → Option Nat) k, Released (remarked P s0) (remarked P v).settleCalls k ↔ Released s u k := fun P k => by
      rw [hsettles.released_iff, settleCalls_remarked]
      exact released_congr (fun k => slot_of_calls hs0 k) (fun _ => rfl) k
    refine ⟨fun hno => ?_, fun ⟨k, hk⟩ => ⟨_, rfl, ?_⟩⟩
    · have hset : ∀ P, F P = remarked P v.settleCalls.refresh := fun P => by
        rw [hFv, settle_of_not_released fun k hk => hno k ((hrel P k).1 hk), settleCalls_remarked, refresh_remarked]
      rw [← hu, hset, hset, withMark_remarked hi]
    · have hset : ∀ P, F P = (remarked P v.settleCalls).retryPending.settleCalls.refresh := fun P => by
        rw [hFv, settle_of_released ((hrel P k).2 hk), settleCalls_remarked]
      have hleft : withMark u i (some m) = remarked (markAt i (some m)) v.settleCalls.settleCalls.refresh := by
        rw [← hu, hset, State.retryPending_of_noPending (remarked_noPending i _), settleCalls_remarked, refresh_remarked, withMark_remarked hi]
      rw [hleft, hset, retryPending_markAt hi]
      exact triedStart_settled hv hi m

/-- Settles O53: a start is followed through its outcomes to the alarm that it opens, for a request and for an input; the commands that
release an alarm slot do not read the pending marks, so that a retry is one such try on what they leave. -/
theorem alarmsStart : Obligations.AlarmsStart := ⟨startsByRequest, startsByInput, releasesRetry, retriesInOrder, releasesKeepOrClear⟩

end Sys2Proof.Calls
end
